-- ==== Sys2Proof/Word.lean ====
section
/-! DEFINITION. The bit-vector types of the Kavlig 2410: bytes of its memories, words of its host bus, feed positions. -/

namespace Sys2Proof

/-- One byte of the manifest RAM, of the configuration memory or of the quality port (R201, R191, R176). -/
abbrev Byte := BitVec 8

/-- One 16-bit word of the host bus (R201). -/
abbrev Word := BitVec 16

/-- A feed position: a 32-bit count of millimetres that wraps (R1; conventions of 00_scope.md). -/
abbrev Pos := BitVec 32

end Sys2Proof
end

