-- ==== Sys2Proof/Syntax.lean ====
section
/-! DEFINITION. The commands of the Kavlig 2410: one constructor per row of spec/opcode_table.json, with the operands
the spec gives the event (the table lists none). -/

namespace Sys2Proof

/-- The level of an eye, raw or declared: BLOCKED while something interrupts the beam (section 1.2). -/
inductive EyeLevel where
  | clear
  | blocked
  deriving DecidableEq, Repr

/-- The direction of a quadrature transition; a transition in which both channels change together has none (R1). -/
inductive Edge where
  | forward
  | reverse
  | noDirection
  deriving DecidableEq, Repr

/-- Rotor 1, upstream, and rotor 2 (conventions of 00_scope.md). -/
inductive RotorId where
  | r1
  | r2
  deriving DecidableEq, Repr

/-- The ten tool arms, 1.1 to 1.5 and 2.1 to 2.5 (conventions of 00_scope.md). -/
inductive ArmId where
  | a11 | a12 | a13 | a14 | a15
  | a21 | a22 | a23 | a24 | a25
  deriving DecidableEq, Repr

/-- The rows of spec/opcode_table.json, in the table's order. -/
inductive Instr where
  /-- ENCODER_EDGE (R1): one quadrature transition, with the raw levels of the two eyes at that moment (R4). -/
  | encoderEdge (edge : Edge) (infeed outfeed : EyeLevel)
  /-- FEED_RUN_INACTIVE (R14). -/
  | feedRunInactive
  /-- FEED_RUN_ACTIVE (R15). -/
  | feedRunActive
  /-- STALL_WINDOW_EXPIRY (R14). -/
  | stallWindowExpiry
  /-- SCAN_TIMER_EXPIRY (R26). -/
  | scanTimerExpiry
  /-- SCAN_STEP (R27). -/
  | scanStep
  /-- TICKET_TAKE_UP (R31). -/
  | ticketTakeUp
  /-- TEMPERATURE_SAMPLE (R49): the loop current in microamperes. -/
  | temperatureSample (microAmp : Nat)
  /-- SUPPLY_SAMPLE (R163, R164): the loop current in microamperes. -/
  | supplySample (microAmp : Nat)
  /-- AT_SPEED_ACTIVE (R167): the debounced input of one rotor. -/
  | atSpeedActive (r : RotorId)
  /-- AT_SPEED_INACTIVE (R168). -/
  | atSpeedInactive (r : RotorId)
  /-- SETTLE_TIMER_EXPIRY (R167). -/
  | settleTimerExpiry (r : RotorId)
  /-- MOVE_COMPLETE (R117): an arm's settled input becomes active. -/
  | moveComplete (a : ArmId)
  /-- MOVE_TIMEOUT (R118). -/
  | moveTimeout (a : ArmId)
  /-- FAIRNESS_ELEVATION (R141): the waiting request of an arm. -/
  | fairnessElevation (a : ArmId)
  /-- PROTECTION_TIMER_EXPIRY (R143). -/
  | protectionTimerExpiry (r : RotorId)
  /-- PARK_TIMER_EXPIRY (R77). -/
  | parkTimerExpiry (r : RotorId)
  /-- PRESENCE_LOSS (R128): the debounced presence input changes to ABSENT. -/
  | presenceLoss (a : ArmId)
  /-- PRESENCE_RESTORED (R129): the debounced presence input changes to PRESENT. -/
  | presenceRestored (a : ArmId)
  /-- IMPACT_PULSE (R153, R154). -/
  | impactPulse (a : ArmId)
  /-- BURST_WINDOW_CLOSE (R154). -/
  | burstWindowClose (a : ArmId)
  /-- DECAY_EXPIRY (R155). -/
  | decayExpiry (a : ArmId)
  /-- QUALITY_BYTE (R176): a byte and whether its stop bit was found low. -/
  | qualityByte (b : Byte) (framingError : Bool)
  /-- GAP_TIMER_EXPIRY (R177). -/
  | gapTimerExpiry
  /-- MODE_REQUEST_CONFIG (R187, R188). -/
  | modeRequestConfig
  /-- MODE_REQUEST_RUN (R187, R188). -/
  | modeRequestRun
  /-- MODE_REQUEST_HOLD (R187, R188). -/
  | modeRequestHold
  /-- MODE_REQUEST_SERVICE (R187, R188). -/
  | modeRequestService
  /-- SCAN (R25): a CONTROL write with the SCAN bit. -/
  | scan
  /-- TRACK_CLEAR (R172): a CONTROL write with the TRACK_CLEAR bit. -/
  | trackClear
  /-- SOFT_RESET (R190): a CONTROL write with the SOFT_RESET bit. -/
  | softReset
  /-- CAUSE_WRITE (R203): the word written. -/
  | causeWrite (w : Word)
  /-- ENABLE_WRITE (R204, R202). -/
  | enableWrite (w : Word)
  /-- SCAN_RELOAD_WRITE (R26). -/
  | scanReloadWrite (w : Word)
  /-- RESET_CAUSE_WRITE (R190, R202). -/
  | resetCauseWrite (w : Word)
  /-- CFG_ADDR_WRITE (R199). -/
  | cfgAddrWrite (w : Word)
  /-- REGISTER_WRITE (R201): the byte offset in the register block and the word. -/
  | registerWrite (offset : Word) (w : Word)
  /-- ACCESS_TRANSFER_DONE (R192, R199): the memory completes the transfer in progress. -/
  | accessTransferDone
  /-- ACCESS_TRANSFER_TIMEOUT (R199). -/
  | accessTransferTimeout
  /-- SAVE_PAGE_DONE (R192, R197): the memory reports the page written; `worn` lists the offsets within the page at which
  it holds another byte than the one sent, with that byte (none for a sound memory). -/
  | savePageDone (worn : List (Nat × Byte))
  /-- SAVE_PAGE_TIMEOUT (R198). -/
  | savePageTimeout
  /-- PRELOAD_NO_RESPONSE (R193). -/
  | preloadNoResponse
  /-- PRELOAD_END (R192, R193, R194): the memory has shown itself ready, and the preload's reads are complete. -/
  | preloadEnd
  /-- POWER_RESET (R190). -/
  | powerReset
  /-- PIN_RESET (R190). -/
  | pinReset
  /-- RESET_END (R190, R193): the raw levels of the eyes (R19) and of the two at-speed inputs (R167) at that moment. -/
  | resetEnd (infeed outfeed : EyeLevel) (atSpeed1 atSpeed2 : Bool)
  /-- MANIFEST_RAM_WRITE (R201): the byte address of the word, and the word. -/
  | manifestRamWrite (address : Word) (w : Word)
  deriving DecidableEq, Repr

end Sys2Proof
end

