-- ==== Sys2Proof/Config.lean ====
section
/-! DEFINITION. What an implementation fixes: the constants of the part, and the free values (constants with no body),
one for each value the spec leaves open while the machine goes on. -/

namespace Sys2Proof

/-- The contents of IDENT (section 12.2). -/
def Config.ident : Word := 0x2410#16

/-- What a byte of either memory that nothing has written reads as. DESIGN CHOICE (log 5, log 6), unsafe: after a
POWER reset the manifest RAM "holds undefined values" (R41), and the spec gives no contents of a new configuration memory. -/
def Config.unwrittenByte : Byte := 0#8

/-- FREE VALUE (log 7): for byte `k` of the `n`-th interrupted or timed-out write into the configuration memory, the
bits that took the new value; "the old values, the new values or a mix of both" (R190). -/
opaque Config.interruptedWriteMask : (n k : Nat) → Byte

/-- FREE VALUE (log 8): the valid flag that a species row's byte 0 stands for when it is neither 0 nor 1; the spec
gives the codes 0 clear and 1 set only (R207). -/
opaque Config.unstatedValidFlag : Byte → Bool

end Sys2Proof
end

