-- ==== Sys2Proof/Machine/Types.lean ====
section
/-! DEFINITION. The data types of the blocks: what each block of the Kavlig 2410 holds, one type per thing the spec names. -/

namespace Sys2Proof.Machine

/-- A record tag, 0 to 7 (R44, R63). -/
abbrev Tag := Fin 8

/-- A sparse byte memory: cells of rising address, none equal to what an unlisted address reads as. -/
abbrev Memory := List (Nat × BitVec 8)

/-! ### Modes and resets (chapter 11) -/

/-- The mode (R187). -/
inductive Mode where
  | config | run | hold | service
  deriving DecidableEq, Repr

/-- The three resets (R190). -/
inductive ResetKind where
  | power | pin | soft
  deriving DecidableEq, Repr

/-! ### Feed Tracker (chapter 1) -/

/-- The motion state (R14). -/
inductive Motion where
  | moving | standstill
  deriving DecidableEq, Repr

/-- The track fault reason (R16, R44). -/
inductive TrackReason where
  | noFault | reverse | overlong | slip | queueFull
  deriving DecidableEq, Repr

/-- An eye: its declared state, and its open change by the edge position at which it opened (R4). The level of an open
change is the opposite of the declared state. -/
structure Eye where
  declared : EyeLevel
  change : Option Pos
  deriving DecidableEq, Repr

/-- An infeed blockage: whether it is worked, and its head position (R5), absent for one found at reset (R19). -/
structure Blockage where
  worked : Bool
  head : Option Pos
  deriving DecidableEq, Repr

/-- What a position mark is for (R11). -/
inductive MarkPurpose where
  | lift | entry | rampEnd | sectionPoint | release | tail | outfeed | windowEnd
  deriving DecidableEq, Repr

/-- The clients of the mark table (R11). -/
inductive Client where
  | rotor1 | rotor2 | transit
  deriving DecidableEq, Repr

/-- An armed mark (R11). -/
structure Mark where
  purpose : MarkPurpose
  position : Pos
  deriving DecidableEq, Repr

/-- The places of one client, one for each record tag (R11). -/
structure MarkRow where
  t0 : Option Mark
  t1 : Option Mark
  t2 : Option Mark
  t3 : Option Mark
  t4 : Option Mark
  t5 : Option Mark
  t6 : Option Mark
  t7 : Option Mark
  deriving DecidableEq, Repr

/-- The mark table: 24 places, three clients by eight tags (R11). -/
structure MarkTable where
  rotor1 : MarkRow
  rotor2 : MarkRow
  transit : MarkRow
  deriving DecidableEq, Repr

/-- The Feed Tracker (R1, R2, R4, R5, R11, R14, R16). -/
structure Feed where
  position : Pos
  peak : Pos
  edges : Nat
  motion : Motion
  stall : Option Nat
  eyeIn : Eye
  eyeOut : Eye
  blockage : Option Blockage
  marks : MarkTable
  reason : TrackReason
  deriving DecidableEq, Repr

/-! ### Geometry (layout of section 12.5) -/

/-- The geometry block, one field per parameter, in the block's order (R195, R207). -/
structure Geometry where
  encoderResolution : Nat
  eyeDebounce : Nat
  reverseLimit : Nat
  maxLogLength : Nat
  outfeedTolerance : Nat
  stallWindow : Nat
  stubLimit : Nat
  lengthTolerance : Nat
  guardDiameter : Nat
  frozenThreshold : Int
  tempHoldLimit : Nat
  entryLead : Nat
  rampLength : Nat
  releaseLead : Nat
  jointGap : Nat
  clearance : Nat
  maxAperture : Nat
  parkDelay : Nat
  reportWindow : Nat
  band1 : Nat
  band2 : Nat
  band3 : Nat
  band4 : Nat
  band5 : Nat
  machineMax : Nat
  stallPressure : Nat
  releasePressure : Nat
  chargeTimeout : Nat
  liftTimeout : Nat
  wakeAllowance : Nat
  slotsNormal : Nat
  slotsLow : Nat
  protectionPeriod : Nat
  fairHigh : Nat
  fairNormal : Nat
  fairLow : Nat
  supplySpan : Nat
  supplyLow : Nat
  supplyCritical : Nat
  supplyHysteresis : Nat
  settleTime : Nat
  d1 : Nat
  d2 : Nat
  d3 : Nat
  deriving DecidableEq, Repr

/-! ### Species (chapter 5) -/

/-- A species row (R88). -/
structure SpeciesRow where
  valid : Bool
  trimLimit : Nat
  band0 : Nat
  band1 : Nat
  band2 : Nat
  band3 : Nat
  band4 : Nat
  band5 : Nat
  entry : Nat
  minimum : Nat
  maximum : Nat
  frozenAdd : Nat
  buttLength : Nat
  buttFactor : Nat
  topLength : Nat
  topFactor : Nat
  rotor2Share : Nat
  deadBand : Nat
  trimStep : Nat
  trimFrozen : Int
  trimThawed : Int
  residualTarget : Nat
  burstWindow : Nat
  threshold : Nat
  maxDepth : Nat
  decayInterval : Nat
  reliefStep : Nat
  deriving DecidableEq, Repr

/-! ### Manifest (chapter 2) -/

/-- The ticket kinds (R27, R31, R207). -/
inductive TicketKind where
  | log | species | geometry | trim | arm | save | sync
  deriving DecidableEq, Repr

/-- The reasons of a LOG ticket's field check, in the order of its table (R43). -/
inductive ProfileFault where
  | speciesRange | speciesInvalid | stationCount | stationOrder | diameter | expectedLength
  deriving DecidableEq, Repr

/-- The result of a LOG ticket's field check in its entry (R32, R43): not made until the ticket is the head. -/
inductive FieldCheck where
  | notMade | passed | failed (reason : ProfileFault)
  deriving DecidableEq, Repr

/-- A staged-queue entry (R30): `area` is the copy of the checked area, offsets 4 to 127 of the frame (R21). -/
structure StagedTicket where
  frame : Nat
  kind : TicketKind
  tag : Word
  area : List Byte
  check : FieldCheck
  bound : Bool
  deriving DecidableEq, Repr

/-- The end reason of a scan (R27, R39). -/
inductive ScanEnd where
  | noScan | chainEnd | notPosted | held | linkFault | full
  deriving DecidableEq, Repr

/-- The results of an outcome's common part (R36). -/
inductive Result where
  | done | failed | worked | workedNoReport | lost | check | kind | mode | field | busy
  deriving DecidableEq, Repr

/-- The Manifest Reader (R30, R40); the scan timer is held as its expiry. -/
structure Manifest where
  cursor : Nat
  staged : List StagedTicket
  scanRequest : Bool
  scanning : Bool
  scanTimer : Option Nat
  scanReload : Nat
  endReason : ScanEnd
  deriving DecidableEq, Repr

/-- The seven manifest counters, 16 bits each (R38). -/
structure Counters where
  closures : Word
  rejections : Word
  orphans : Word
  stubs : Word
  mismatches : Word
  discarded : Word
  unworked : Word
  deriving DecidableEq, Repr

/-! ### Transit records (chapters 3 and 4) -/

/-- A record's kind (R63). -/
inductive RecordKind where
  | log | orphan | stub
  deriving DecidableEq, Repr

/-- The orientation of a log (R42). -/
inductive Orientation where
  | buttFirst | topFirst
  deriving DecidableEq, Repr

/-- The frozen flag of a LOG ticket (R42). -/
inductive FrozenFlag where
  | unflagged | frozen | thawed
  deriving DecidableEq, Repr

/-- The temperature class (R50). -/
inductive TempClass where
  | frozen | thawed
  deriving DecidableEq, Repr

/-- The predecessor relation (R65). -/
inductive Relation where
  | apart | close | joint | stubBehind
  deriving DecidableEq, Repr

/-- The phase of a record at a rotor (R67). -/
inductive Phase where
  | approach | lift | entry | body | release | passed
  deriving DecidableEq, Repr

/-- The outfeed phase (R79). -/
inductive OutfeedPhase where
  | inMachine | awaitReport
  deriving DecidableEq, Repr

/-- One station of a diameter profile (R42). -/
structure Station where
  distance : Nat
  diameter : Nat
  deriving DecidableEq, Repr

/-- A record's fields for one rotor (R63, R78). `followed` is the section distance up to which the record's points have
been taken (R70, log 14). -/
structure RotorView where
  phase : Phase
  jointHead : Bool
  jointTail : Bool
  maxTarget : Nat
  reliefEntries : Nat
  lateLifts : Nat
  minActive : Option Nat
  followed : Nat
  deriving DecidableEq, Repr

/-- A transit record (R63), with the frozen flag and latched sample of R45 and R50 and the row used of R59. -/
structure Record where
  tag : Tag
  kind : RecordKind
  frame : Option Nat
  hostTag : Option Word
  row : Option SpeciesRow
  rowUsed : Nat
  tempClass : Option TempClass
  reading : Option Int
  latched : Option Int
  frozenFlag : FrozenFlag
  orientation : Orientation
  noLearn : Bool
  expected : Option Nat
  working : Nat
  head : Pos
  tail : Option Pos
  measured : Option Nat
  stations : List Station
  relation : Relation
  view1 : RotorView
  view2 : RotorView
  stall : Bool
  rotorDown : Bool
  lengthMismatch : Bool
  profileFault : Option ProfileFault
  tempHeld : Bool
  tempUnknown : Bool
  provisional : Bool
  outfeed : OutfeedPhase
  deriving DecidableEq, Repr

/-- The temperature state (R49); the sensor state is that of `latest`, FAULTED when absent. -/
structure Temperature where
  latest : Option Int
  lastValid : Option Int
  heldLogs : Nat
  nextSample : Nat
  deriving DecidableEq, Repr

/-- The suppression reasons of trim learning, in the order of the table (R182), and NO_REPORT (R180). -/
inductive Suppression where
  | notSuppressed | noLearn | profileFault | guardRow | rowInvalid | stall | rotorDown | lateLift | armsBelowFull | noReport
  deriving DecidableEq, Repr

/-- The report fields of a LOG outcome (R83, R180, R185). -/
structure ReportFields where
  residual : Nat
  gouge : Bool
  scannerFault : Bool
  change : Int
  suppression : Suppression
  atLimit : Bool
  deriving DecidableEq, Repr

/-! ### Arms (chapter 6), arbiter (chapter 7), monitors (chapter 8) -/

/-- The arm states (R112). -/
inductive ArmState where
  | parked | standby | lifting | opened | engaged | trailing | free | out
  deriving DecidableEq, Repr

/-- Why an arm is OUT (R111). -/
inductive OutCause where
  | removed | presenceLost | valveFault | byTicket
  deriving DecidableEq, Repr

/-- The kind of a request or move (R111). -/
inductive MoveKind where
  | lift | charge
  deriving DecidableEq, Repr

/-- The classes of flow requests (R138). -/
inductive FlowClass where
  | urgent | high | normal | low
  deriving DecidableEq, Repr

/-- A flow request (R111): kind, value (aperture or pressure), class, wake flag. -/
structure FlowRequest where
  kind : MoveKind
  value : Nat
  cls : FlowClass
  wake : Bool
  deriving DecidableEq, Repr

/-- An arm's flow state with what it carries (R111): NONE, WAITING, IN_FLIGHT with the grant time and the timeout fixed
at the grant (R133), DEFERRED with the aperture and wake flag. -/
inductive Flow where
  | idle
  | waiting (q : FlowRequest)
  | inFlight (q : FlowRequest) (granted timeout : Nat)
  | deferred (aperture : Nat) (wake : Bool)
  deriving DecidableEq, Repr

/-- The valve output of an arm as last driven (R112, R113, R119). -/
inductive Valve where
  | deEnergized
  | energized
  | lift (aperture : Nat)
  | charge (pressure : Nat)
  | vent (pressure : Nat)
  deriving DecidableEq, Repr

/-- The parameters a monitor takes from a row copy (R152). -/
structure MonitorParams where
  burstWindow : Nat
  threshold : Nat
  maxDepth : Nat
  decayInterval : Nat
  deriving DecidableEq, Repr

/-- An Impact Rate Monitor (R152). -/
structure Monitor where
  counting : Bool
  tag : Option Tag
  params : Option MonitorParams
  counter : Nat
  burst : Option Nat
  decay : Option Nat
  deriving DecidableEq, Repr

/-- An arm's context (R111), its valve and settled pins (R112, R113) and its Impact Rate Monitor (R152). -/
structure Arm where
  state : ArmState
  outCause : Option OutCause
  returnPending : Bool
  inserted : Bool
  present : Bool
  tag : Option Tag
  commanded : Nat
  target : Nat
  aperture : Nat
  flow : Flow
  relief : Bool
  charges : Nat
  vents : Nat
  valve : Valve
  settled : Bool
  monitor : Monitor
  deriving DecidableEq, Repr

/-- The ten arms. -/
structure Arms where
  a11 : Arm
  a12 : Arm
  a13 : Arm
  a14 : Arm
  a15 : Arm
  a21 : Arm
  a22 : Arm
  a23 : Arm
  a24 : Arm
  a25 : Arm
  deriving DecidableEq, Repr

/-- A wait-list entry (R136); its kind and class stand in its arm's flow state (log 15). -/
structure WaitEntry where
  arm : ArmId
  entered : Nat
  elevated : Bool
  deriving DecidableEq, Repr

/-- The Flow Arbiter (R136); the protection timers stand in the rotors. -/
structure Arbiter where
  slots : Nat
  inFlight : List ArmId
  wait : List WaitEntry
  deriving DecidableEq, Repr

/-! ### Supply, rotors and feed hold (chapter 9) -/

/-- The supply level (R164). -/
inductive SupplyLevel where
  | normal | low | critical
  deriving DecidableEq, Repr

/-- The Supply Monitor (R163); the sensor state is that of `latest`, FAULTED when absent. -/
structure Supply where
  level : SupplyLevel
  latest : Option Nat
  fast : Bool
  nextSample : Nat
  deriving DecidableEq, Repr

/-- The drive state of a rotor (R167). -/
inductive Drive where
  | down | settling | ready
  deriving DecidableEq, Repr

/-- The usability of a rotor (R169). -/
inductive Usability where
  | full | degraded | unusable
  deriving DecidableEq, Repr

/-- A Rotor Controller's own state: park timer (R77), drive and settle timer (R167), debounced at-speed input (R167),
and its protection timer (R136); timers are held as expiry times. -/
structure Rotor where
  park : Option Nat
  drive : Drive
  settle : Option Nat
  atSpeed : Bool
  protection : Option Nat
  deriving DecidableEq, Repr

/-- The hold causes (R170). -/
inductive HoldCause where
  | lockout | modeHold | supplyCritical | rotor1Down | rotor2Down | rotor1Unusable | rotor2Unusable | transitFull
  | trackFault
  deriving DecidableEq, Repr

/-- The hold cause set, one flag a cause (R170). -/
structure HoldCauses where
  lockout : Bool
  modeHold : Bool
  supplyCritical : Bool
  rotor1Down : Bool
  rotor2Down : Bool
  rotor1Unusable : Bool
  rotor2Unusable : Bool
  transitFull : Bool
  trackFault : Bool
  deriving DecidableEq, Repr

/-! ### Quality port (chapter 10) -/

/-- The discard reasons (R178, R207). -/
inductive Discard where
  | noDiscard | check | range | gap | framing | unmatched
  deriving DecidableEq, Repr

/-- The latest valid report: residual, flags, and the tag it was matched to, absent for UNMATCHED (R185). -/
structure Report where
  residual : Nat
  gouge : Bool
  scannerFault : Bool
  tag : Option Tag
  deriving DecidableEq, Repr

/-- The Quality Port (R176, R177): HUNT exactly when the buffer is empty; `gap` is the time of the latest byte. -/
structure Quality where
  buffer : List Byte
  gap : Option Nat
  lastDiscard : Discard
  latest : Option Report
  deriving DecidableEq, Repr

/-! ### Configuration memory (chapter 11) -/

/-- The preload state (R193, R207). -/
inductive Preload where
  | running | good | noResponse | marker | length | check | geometry
  deriving DecidableEq, Repr

/-- The page a save is writing (R197): its index, the bytes sent, and the time by which it must be reported done (R198). -/
structure SavePage where
  index : Nat
  sent : List Byte
  deadline : Nat
  deriving DecidableEq, Repr

/-- The save in flight (R197): the frame it holds and its tag, its progress (absent page: WAITING), the sum of the words
sent so far, and the geometry block copied at page 1. -/
structure Save where
  frame : Nat
  tag : Word
  page : Option SavePage
  sum : Word
  geometry : List Byte
  deriving DecidableEq, Repr

/-- The four commands of the configuration memory (R192). -/
inductive MemoryCommand where
  | statusRead
  | writeEnable
  | read (address : Nat)
  | write (address : Nat) (bytes : List Byte)
  deriving DecidableEq, Repr

/-- An access-port transfer in progress (R199): a write carries the four bytes taken at the CFG_ADDR write. -/
structure Transfer where
  write : Bool
  address : Nat
  bytes : List Byte
  deadline : Nat
  deriving DecidableEq, Repr

/-- The Configuration Memory Controller (R193, R197, R199). -/
structure CfgMem where
  preload : Preload
  preloadDetail : Nat
  preloadDeadline : Nat
  save : Option Save
  transfer : Option Transfer
  fault : Bool
  addr : Word
  dataLo : Word
  dataHi : Word
  deriving DecidableEq, Repr

/-! ### Pins -/

/-- The input pins as last reported (section 12.6). -/
structure Pins where
  feedRun : Bool
  eyeIn : EyeLevel
  eyeOut : EyeLevel
  atSpeed1 : Bool
  atSpeed2 : Bool
  supplyMicroAmp : Nat
  tempMicroAmp : Nat
  deriving DecidableEq, Repr

end Sys2Proof.Machine
end

