-- ==== Sys2Proof/Machine/Defaults.lean ====
section
/-! DEFINITION. Built-in values: the geometry defaults, the guard row, and each block's reset values. -/

namespace Sys2Proof.Machine

/-- The defaults of the parameter tables of R17, R60, R86, R108, R133, R148, R173 and R195. -/
def Geometry.default : Geometry where
  encoderResolution := 8
  eyeDebounce := 10
  reverseLimit := 100
  maxLogLength := 20500
  outfeedTolerance := 150
  stallWindow := 300
  stubLimit := 500
  lengthTolerance := 300
  guardDiameter := 350
  frozenThreshold := -20
  tempHoldLimit := 3
  entryLead := 300
  rampLength := 250
  releaseLead := 60
  jointGap := 150
  clearance := 40
  maxAperture := 800
  parkDelay := 10000
  reportWindow := 2000
  band1 := 150
  band2 := 250
  band3 := 350
  band4 := 450
  band5 := 600
  machineMax := 400
  stallPressure := 100
  releasePressure := 40
  chargeTimeout := 200
  liftTimeout := 250
  wakeAllowance := 150
  slotsNormal := 4
  slotsLow := 2
  protectionPeriod := 20
  fairHigh := 15
  fairNormal := 40
  fairLow := 100
  supplySpan := 1000
  supplyLow := 450
  supplyCritical := 320
  supplyHysteresis := 30
  settleTime := 2000
  d1 := 1800
  d2 := 3200
  d3 := 3800

/-- The built-in defaults of row 0 (R90). -/
def SpeciesRow.guard : SpeciesRow where
  valid := true
  trimLimit := 8
  band0 := 180
  band1 := 200
  band2 := 220
  band3 := 240
  band4 := 260
  band5 := 280
  entry := 120
  minimum := 60
  maximum := 320
  frozenAdd := 40
  buttLength := 1500
  buttFactor := 120
  topLength := 1000
  topFactor := 90
  rotor2Share := 100
  deadBand := 15
  trimStep := 10
  trimFrozen := 0
  trimThawed := 0
  residualTarget := 4
  burstWindow := 30
  threshold := 6
  maxDepth := 10
  decayInterval := 150
  reliefStep := 60

/-- An invalid row with every field 0 (R89, R110). -/
def SpeciesRow.empty : SpeciesRow where
  valid := false
  trimLimit := 0
  band0 := 0
  band1 := 0
  band2 := 0
  band3 := 0
  band4 := 0
  band5 := 0
  entry := 0
  minimum := 0
  maximum := 0
  frozenAdd := 0
  buttLength := 0
  buttFactor := 0
  topLength := 0
  topFactor := 0
  rotor2Share := 0
  deadBand := 0
  trimStep := 0
  trimFrozen := 0
  trimThawed := 0
  residualTarget := 0
  burstWindow := 0
  threshold := 0
  maxDepth := 0
  decayInterval := 0
  reliefStep := 0

/-- The species table after a reset (R110). -/
def speciesReset : Vector SpeciesRow 32 :=
  (Vector.replicate 32 SpeciesRow.empty).set 0 SpeciesRow.guard

/-- A mark row with no armed mark. -/
def MarkRow.empty : MarkRow := ⟨none, none, none, none, none, none, none, none⟩

/-- The mark table with all 24 places empty (R19). -/
def MarkTable.empty : MarkTable := ⟨.empty, .empty, .empty⟩

/-- The Feed Tracker after a reset that ends with these raw levels (R19). -/
def Feed.reset (infeed outfeed : EyeLevel) : Feed where
  position := 0
  peak := 0
  edges := 0
  motion := .standstill
  stall := none
  eyeIn := ⟨infeed, none⟩
  eyeOut := ⟨outfeed, none⟩
  blockage := if infeed = .blocked then some ⟨false, none⟩ else none
  marks := .empty
  reason := .noFault

/-- The Manifest Reader after a reset (R40). -/
def Manifest.reset : Manifest where
  cursor := 0
  staged := []
  scanRequest := false
  scanning := false
  scanTimer := none
  scanReload := 5
  endReason := .noScan

/-- The manifest counters after a reset (R38, R40). -/
def Counters.reset : Counters := ⟨0, 0, 0, 0, 0, 0, 0⟩

/-- The temperature state after a reset; the first sample is due 100 ms after it ends (R49, R62). -/
def Temperature.reset : Temperature := ⟨none, none, 0, 100⟩

/-- An Impact Rate Monitor after a reset (R162). -/
def Monitor.reset : Monitor := ⟨false, none, none, 0, none, none⟩

/-- An arm's context after a reset (R135). -/
def Arm.reset : Arm where
  state := .parked
  outCause := none
  returnPending := false
  inserted := false
  present := true
  tag := none
  commanded := 0
  target := 0
  aperture := 0
  flow := .idle
  relief := false
  charges := 0
  vents := 0
  valve := .deEnergized
  settled := false
  monitor := .reset

/-- The ten arms after a reset (R135). -/
def Arms.reset : Arms :=
  ⟨.reset, .reset, .reset, .reset, .reset, .reset, .reset, .reset, .reset, .reset⟩

/-- The Flow Arbiter after a reset (R151). -/
def Arbiter.reset : Arbiter := ⟨0, [], []⟩

/-- The Supply Monitor after a reset; the first sample is due 1 ms after it ends (R163, R175). -/
def Supply.reset : Supply := ⟨.critical, none, true, 1⟩

/-- A Rotor Controller after a reset that ends with this raw at-speed level (R87, R151, R167, R175). -/
def Rotor.reset (atSpeed : Bool) (settleTime : Nat) : Rotor where
  park := none
  drive := if atSpeed then .settling else .down
  settle := if atSpeed then some settleTime else none
  atSpeed := atSpeed
  protection := none

/-- The hold cause set after a reset (R175). -/
def HoldCauses.reset : HoldCauses where
  lockout := true
  modeHold := false
  supplyCritical := true
  rotor1Down := true
  rotor2Down := true
  rotor1Unusable := false
  rotor2Unusable := false
  transitFull := false
  trackFault := false

/-- The Quality Port after a reset (R186). -/
def Quality.reset : Quality := ⟨[], none, .noDiscard, none⟩

/-- The Configuration Memory Controller after a reset: the preload runs, and the memory must answer within 10 ms
(R193, R200). -/
def CfgMem.reset : CfgMem where
  preload := .running
  preloadDetail := 0
  preloadDeadline := 10
  save := none
  transfer := none
  fault := false
  addr := 0
  dataLo := 0
  dataHi := 0

end Sys2Proof.Machine
end

