-- ==== Sys2Proof/Machine/State.lean ====
section
/-! DEFINITION. The state of the Kavlig 2410, the reasons a step can stop, and the machine right after reset. -/

namespace Sys2Proof.Machine

/-- Why the machine could stop with a fault. The spec gives the part no stop: a travel fault (R16), a link fault (R28), a
move timeout (R118) and a refused request (R187) are effects on the state. So no command raises one, and there is no
constructor (log 28). -/
inductive Fault where
  deriving DecidableEq, Repr

/-- Why a command could be refused. -/
inductive Refusal where
  /-- Raised by an arm of `exec` whose command has no meaning yet; no arm is such. Safe: the model stops there. -/
  | notModelled (mnemonic : String)
  deriving DecidableEq, Repr

/-- The whole state of the part. The groups are those of INVENTORY.md, which names the rule of each field. -/
structure State where
  pending : List Instr
  free : Nat
  now : Nat
  pins : Pins
  resetHeld : Option ResetKind
  resetPower : Bool
  resetCause : Word
  feed : Feed
  geometry : Geometry
  geometryValid : Bool
  species : Vector SpeciesRow 32
  manifest : Manifest
  counters : Counters
  temp : Temperature
  queue : List Record
  arms : Arms
  arbiter : Arbiter
  rotor1 : Rotor
  rotor2 : Rotor
  supply : Supply
  holds : HoldCauses
  latch : Bool
  quality : Quality
  mode : Mode
  modeRefused : Bool
  cfg : CfgMem
  cause : Word
  enable : Word
  ram : Memory
  eeprom : Memory
  deriving DecidableEq, Repr

/-- The input pins before any command has reported them. DESIGN CHOICE (log 10). -/
def Pins.initial : Pins := ⟨false, .clear, .clear, false, false, 0, 0⟩

/-- The machine right after a POWER reset has ended: R19, R40, R62, R87, R110, R135, R151, R162, R175, R186, R200. The raw
levels are those of `Pins.initial` (log 10); the manifest RAM and the configuration memory list nothing (log 5, log 6). -/
def State.reset : State where
  pending := []
  free := 0
  now := 0
  pins := .initial
  resetHeld := none
  resetPower := false
  resetCause := 1
  feed := .reset .clear .clear
  geometry := .default
  geometryValid := false
  species := speciesReset
  manifest := .reset
  counters := .reset
  temp := .reset
  queue := []
  arms := .reset
  arbiter := .reset
  rotor1 := .reset false Geometry.default.settleTime
  rotor2 := .reset false Geometry.default.settleTime
  supply := .reset
  holds := .reset
  latch := false
  quality := .reset
  mode := .config
  modeRefused := false
  cfg := .reset
  cause := 0
  enable := 0
  ram := []
  eeprom := []

end Sys2Proof.Machine
end

