-- ==== Sys2Proof/Machine/Ops.lean ====
section
/-! DEFINITION. The named operations over the state that every block shares: bytes and words, the two memories, feed
positions, and the accessors of arms, rotors, records, marks and rows. -/

namespace Sys2Proof.Machine

/-! ### Bytes and words; every multi-byte field is little-endian (conventions of 00_scope.md) -/

/-- The low data byte of a word (R201). -/
def lowByte (w : Word) : Byte := w.setWidth 8

/-- The high data byte of a word (R201). -/
def highByte (w : Word) : Byte := (w >>> 8).setWidth 8

/-- The word of a low and a high byte. -/
def wordOf (lo hi : Byte) : Word := hi ++ lo

/-- A 16-bit field, low byte first. -/
def bytesOfWord (w : Word) : List Byte := [lowByte w, highByte w]

/-- An 8-bit field holding a count or a code. -/
def byteN (n : Nat) : List Byte := [BitVec.ofNat 8 n]

/-- An 8-bit signed field. -/
def byteI (i : Int) : List Byte := [BitVec.ofInt 8 i]

/-- A 16-bit field holding a count. -/
def wordN (n : Nat) : List Byte := bytesOfWord (BitVec.ofNat 16 n)

/-- A 16-bit signed field. -/
def wordI (i : Int) : List Byte := bytesOfWord (BitVec.ofInt 16 i)

/-- A 32-bit field, low word first (conventions of 00_scope.md). -/
def bytesOfLong (p : BitVec 32) : List Byte := bytesOfWord (p.setWidth 16) ++ bytesOfWord ((p >>> 16).setWidth 16)

/-- The number a flag bit stands for. -/
def bit (b : Bool) (k : Nat) : Nat := if b then 2 ^ k else 0

/-- The sum, modulo 65,536, of the little-endian words of a byte list (R21, R191, R196). -/
def sumWords : List Byte → Word
  | lo :: hi :: rest => wordOf lo hi + sumWords rest
  | [lo] => wordOf lo 0
  | [] => 0

/-! ### Memory: a canonical list of cells -/

/-- One byte of a memory. -/
def Memory.read : Memory → Nat → Byte
  | [], _ => Config.unwrittenByte
  | (b, v) :: m, a => if b = a then v else Memory.read m a

/-- The memory without its cell at an address. -/
def Memory.dropCell (m : Memory) (a : Nat) : Memory := m.filter fun c => c.1 != a

/-- A cell put before the first cell of a higher address. -/
def Memory.putCell : Memory → Nat → Byte → Memory
  | [], a, v => [(a, v)]
  | (b, w) :: m, a, v => if a < b then (a, v) :: (b, w) :: m else (b, w) :: Memory.putCell m a v

/-- Write one byte, keeping the canonical form: the byte an unlisted address reads as is not listed. -/
def Memory.write (m : Memory) (a : Nat) (v : Byte) : Memory :=
  if v = Config.unwrittenByte then m.dropCell a else (m.dropCell a).putCell a v

/-- The canonical form: addresses strictly rising, no entry equal to what an unlisted address reads as. -/
abbrev Memory.wf (m : Memory) : Prop :=
  m.Pairwise (fun c d => c.1 < d.1) ∧ ∀ c ∈ m, c.2 ≠ Config.unwrittenByte

/-- Write a run of bytes from an address on. -/
def Memory.writeBytes : Memory → Nat → List Byte → Memory
  | m, _, [] => m
  | m, a, b :: bs => Memory.writeBytes (m.write a b) (a + 1) bs

/-- Read a run of bytes. -/
def Memory.readBytes (m : Memory) (a : Nat) : Nat → List Byte
  | 0 => []
  | n + 1 => m.read a :: Memory.readBytes m (a + 1) n

/-- The little-endian word at a byte address. -/
def Memory.word (m : Memory) (a : Nat) : Word := wordOf (m.read a) (m.read (a + 1))

/-- Byte `k` of frame `f` lies at byte address 256 × f + k (section 2.1). -/
def frameAddr (f k : Nat) : Nat := 256 * f + k

/-! ### Feed positions (conventions of 00_scope.md) -/

/-- The signed difference of two positions, modulo 2^32. -/
def posDiff (a b : Pos) : Int := (a - b).toInt

/-- A position moved by a distance. -/
def posAdd (p : Pos) (d : Int) : Pos := p + BitVec.ofInt 32 d

/-- Position `p` is reached at `now`: the signed difference is zero or positive. -/
def reached (now p : Pos) : Bool := decide (0 ≤ posDiff now p)

/-- A count of 0 to 255 that saturates, raised by 1 (R78, R111). -/
def satSucc (n : Nat) : Nat := min (n + 1) 255

/-- A percentage of a value, truncated toward zero (conventions of 00_scope.md). -/
def percent (v : Int) (p : Nat) : Int := (v * p).tdiv 100

/-! ### Time -/

/-- The time base stands at the deadline of the timer that expires, or later (log 1). -/
def State.reachTime (s : State) (deadline : Nat) : State := { s with now := max s.now deadline }

/-! ### Arms -/

/-- The context of an arm. -/
def Arms.get (x : Arms) : ArmId → Arm
  | .a11 => x.a11
  | .a12 => x.a12
  | .a13 => x.a13
  | .a14 => x.a14
  | .a15 => x.a15
  | .a21 => x.a21
  | .a22 => x.a22
  | .a23 => x.a23
  | .a24 => x.a24
  | .a25 => x.a25

/-- Replace the context of an arm. -/
def Arms.set (x : Arms) (a : ArmId) (c : Arm) : Arms :=
  match a with
  | .a11 => { x with a11 := c }
  | .a12 => { x with a12 := c }
  | .a13 => { x with a13 := c }
  | .a14 => { x with a14 := c }
  | .a15 => { x with a15 := c }
  | .a21 => { x with a21 := c }
  | .a22 => { x with a22 := c }
  | .a23 => { x with a23 := c }
  | .a24 => { x with a24 := c }
  | .a25 => { x with a25 := c }

/-- The rotor an arm belongs to. -/
def rotorOf : ArmId → RotorId
  | .a11 | .a12 | .a13 | .a14 | .a15 => .r1
  | .a21 | .a22 | .a23 | .a24 | .a25 => .r2

/-- The arm's place in lists, 1 to 10 (R207). -/
def armCode : ArmId → Nat
  | .a11 => 1
  | .a12 => 2
  | .a13 => 3
  | .a14 => 4
  | .a15 => 5
  | .a21 => 6
  | .a22 => 7
  | .a23 => 8
  | .a24 => 9
  | .a25 => 10

/-- The five arms of a rotor in their order. -/
def armsOf : RotorId → List ArmId
  | .r1 => [.a11, .a12, .a13, .a14, .a15]
  | .r2 => [.a21, .a22, .a23, .a24, .a25]

/-- All ten arms, 1.1 to 2.5. -/
def allArms : List ArmId := armsOf .r1 ++ armsOf .r2

/-- The arm of a rotor number 1 or 2 and an index 1 to 5 (R130). -/
def armOf (rotor index : Nat) : Option ArmId :=
  match rotor with
  | 1 => if index = 0 then none else (armsOf .r1)[index - 1]?
  | 2 => if index = 0 then none else (armsOf .r2)[index - 1]?
  | _ => none

/-- The context of an arm. -/
def State.arm (s : State) (a : ArmId) : Arm := s.arms.get a

/-- Replace the context of an arm. -/
def State.setArm (s : State) (a : ArmId) (c : Arm) : State := { s with arms := s.arms.set a c }

/-- Change the context of an arm. -/
def State.updArm (s : State) (a : ArmId) (f : Arm → Arm) : State := s.setArm a (f (s.arm a))

/-- A rotor's active arm count: the number of its arms that are not OUT (R132). -/
def State.activeCount (s : State) (r : RotorId) : Nat :=
  ((armsOf r).filter fun a => (s.arm a).state != .out).length

/-- The usability that a count gives (R169). -/
def usabilityOf (count : Nat) : Usability :=
  if count = 5 then .full else if count = 3 ∨ count = 4 then .degraded else .unusable

/-! ### Rotors -/

/-- A Rotor Controller's own state. -/
def State.rotor (s : State) : RotorId → Rotor
  | .r1 => s.rotor1
  | .r2 => s.rotor2

/-- Replace a Rotor Controller's own state. -/
def State.setRotor (s : State) (r : RotorId) (x : Rotor) : State :=
  match r with
  | .r1 => { s with rotor1 := x }
  | .r2 => { s with rotor2 := x }

/-- Change a Rotor Controller's own state. -/
def State.updRotor (s : State) (r : RotorId) (f : Rotor → Rotor) : State := s.setRotor r (f (s.rotor r))

/-- The distance Dr of a rotor's tool plane from the infeed eye (conventions of 00_scope.md). -/
def Geometry.toolPlane (g : Geometry) : RotorId → Nat
  | .r1 => g.d1
  | .r2 => g.d2

/-- The mark-table client of a rotor (R11). -/
def clientOf : RotorId → Client
  | .r1 => .rotor1
  | .r2 => .rotor2

/-- An arm is under vent hold while the level is CRITICAL or its rotor's drive is not READY (R125). -/
def State.ventHeld (s : State) (a : ArmId) : Bool :=
  s.supply.level == .critical || (s.rotor (rotorOf a)).drive != .ready

/-! ### Records -/

/-- A record's fields for one rotor. -/
def Record.view (q : Record) : RotorId → RotorView
  | .r1 => q.view1
  | .r2 => q.view2

/-- Replace a record's fields for one rotor. -/
def Record.setView (q : Record) (r : RotorId) (v : RotorView) : Record :=
  match r with
  | .r1 => { q with view1 := v }
  | .r2 => { q with view2 := v }

/-- Change a record's fields for one rotor. -/
def Record.updView (q : Record) (r : RotorId) (f : RotorView → RotorView) : Record := q.setView r (f (q.view r))

/-- The phase of a record at a rotor. -/
def Record.phase (q : Record) (r : RotorId) : Phase := (q.view r).phase

/-- The record of a tag. -/
def State.record? (s : State) (t : Tag) : Option Record := s.queue.find? fun q => q.tag == t

/-- Change every record of the queue. -/
def State.mapQueue (s : State) (f : Record → Record) : State := { s with queue := s.queue.map f }

/-- Change the record of a tag. -/
def State.updRecord (s : State) (t : Tag) (f : Record → Record) : State :=
  s.mapQueue fun q => if q.tag == t then f q else q

/-- Change the fields of the record of a tag for one rotor. -/
def State.updView (s : State) (r : RotorId) (t : Tag) (f : RotorView → RotorView) : State :=
  s.updRecord t fun q => q.updView r f

/-- The pending records of a rotor: those whose phase there is not PASSED, in queue order (R66). -/
def State.pendingAt (s : State) (r : RotorId) : List Record := s.queue.filter fun q => q.phase r != .passed

/-- A rotor's current record (R66). -/
def State.current? (s : State) (r : RotorId) : Option Record := (s.pendingAt r).head?

/-- A rotor's next record (R66). -/
def State.next? (s : State) (r : RotorId) : Option Record := (s.pendingAt r).tail.head?

/-- A record is under the tools of a rotor in ENTRY or BODY (R166). -/
def underTools (r : RotorId) (q : Record) : Bool := q.phase r == .entry || q.phase r == .body

/-- The lowest tag no record holds (R44). -/
def State.freeTag (s : State) : Option Tag :=
  (List.finRange 8).find? fun t => !(s.queue.any fun q => q.tag == t)

/-! ### The mark table (R11) -/

/-- The place of a tag. -/
def MarkRow.get (x : MarkRow) (t : Tag) : Option Mark :=
  match t with
  | 0 => x.t0
  | 1 => x.t1
  | 2 => x.t2
  | 3 => x.t3
  | 4 => x.t4
  | 5 => x.t5
  | 6 => x.t6
  | 7 => x.t7

/-- Fill or empty the place of a tag. -/
def MarkRow.set (x : MarkRow) (t : Tag) (m : Option Mark) : MarkRow :=
  match t with
  | 0 => { x with t0 := m }
  | 1 => { x with t1 := m }
  | 2 => { x with t2 := m }
  | 3 => { x with t3 := m }
  | 4 => { x with t4 := m }
  | 5 => { x with t5 := m }
  | 6 => { x with t6 := m }
  | 7 => { x with t7 := m }

/-- The place of a client and a tag. -/
def MarkTable.get (x : MarkTable) (c : Client) (t : Tag) : Option Mark :=
  match c with
  | .rotor1 => x.rotor1.get t
  | .rotor2 => x.rotor2.get t
  | .transit => x.transit.get t

/-- Fill or empty the place of a client and a tag. -/
def MarkTable.set (x : MarkTable) (c : Client) (t : Tag) (m : Option Mark) : MarkTable :=
  match c with
  | .rotor1 => { x with rotor1 := x.rotor1.set t m }
  | .rotor2 => { x with rotor2 := x.rotor2.set t m }
  | .transit => { x with transit := x.transit.set t m }

/-- Fill or empty a place of the mark table. -/
def State.setMark (s : State) (c : Client) (t : Tag) (m : Option Mark) : State :=
  { s with feed := { s.feed with marks := s.feed.marks.set c t m } }

/-- How a client arms a mark with the Feed Tracker: client, tag, purpose and position (R11). `State.armMark` is the tracker's. -/
abbrev Arming := State → Client → Tag → MarkPurpose → Pos → State

/-- A mark stands armed in its place; one already there is replaced and does not fire (R11). -/
def State.placeMark : Arming := fun s c t purpose position => s.setMark c t (some ⟨purpose, position⟩)

/-- Empty every place that holds a tag (R13). -/
def State.dropMarks (s : State) (t : Tag) : State :=
  ((s.setMark .rotor1 t none).setMark .rotor2 t none).setMark .transit t none

/-! ### Species rows -/

/-- A live row by its index; an index above 31 names no row and reads as an empty one. -/
def State.row (s : State) (k : Nat) : SpeciesRow := if h : k < 32 then s.species[k] else .empty

/-- Replace a live row. -/
def State.setRow (s : State) (k : Nat) (x : SpeciesRow) : State :=
  if h : k < 32 then { s with species := s.species.set k x h } else s

/-- The trim cell of a temperature class (R91). -/
def SpeciesRow.trim (x : SpeciesRow) : TempClass → Int
  | .frozen => x.trimFrozen
  | .thawed => x.trimThawed

/-- Replace the trim cell of a temperature class. -/
def SpeciesRow.setTrim (x : SpeciesRow) (c : TempClass) (v : Int) : SpeciesRow :=
  match c with
  | .frozen => { x with trimFrozen := v }
  | .thawed => { x with trimThawed := v }

/-- Clamp into plus or minus a limit (R93, R181). -/
def clampTrim (limit : Nat) (v : Int) : Int := max (-(limit : Int)) (min v limit)

/-! ### The manifest RAM -/

/-- Write bytes of a frame. -/
def State.writeFrame (s : State) (f k : Nat) (bs : List Byte) : State :=
  { s with ram := s.ram.writeBytes (frameAddr f k) bs }

/-- The state byte of a frame's header (R22, R206). -/
def State.frameState (s : State) (f : Nat) : Byte := s.ram.read (frameAddr f 2)

/-- The part holds a frame that a staged entry, a transit record or the save in flight refers to (R22). The frame of a
provisional record is held by its staged entry (R45). -/
def State.holdsFrame (s : State) (f : Nat) : Bool :=
  (s.manifest.staged.any fun e => e.frame == f) || (s.queue.any fun q => q.frame == some f)
    || (match s.cfg.save with
        | some x => x.frame == f
        | none => false)

end Sys2Proof.Machine
end

