-- ==== Sys2Proof/Machine/Flags.lean ====
section
/-! DEFINITION. The flags the blocks raise and the outputs computed from them: the cause set and the interrupt line, the hold
cause set and the feed-hold output, and the STATUS register. -/

namespace Sys2Proof.Machine

/-! ### Causes and the interrupt line (section 12.3) -/

/-- The causes of the cause set, in the order of their bits (R203). -/
inductive Cause where
  | closed | rejected | orphan | link | track | supply | rotor | arm | save | preload | report | mode
  deriving DecidableEq, Repr

/-- The bit of a cause in CAUSE and in ENABLE (R203). -/
def Cause.place : Cause → Nat
  | .closed => 0
  | .rejected => 1
  | .orphan => 2
  | .link => 3
  | .track => 4
  | .supply => 5
  | .rotor => 6
  | .arm => 7
  | .save => 8
  | .preload => 9
  | .report => 10
  | .mode => 11

/-- The bits of CAUSE that exist (R203). -/
def causeMask : Word := 0x0FFF#16

/-- The bits of ENABLE that exist: one per cause, and bit 15, the global enable (section 12.2). -/
def enableMask : Word := 0x8FFF#16

/-- The bits of RESET_CAUSE that exist (section 12.2). -/
def resetCauseMask : Word := 0x0007#16

/-- The word with one bit set. -/
def oneBit (k : Nat) : Word := 1#16 <<< k

/-- A block raises its cause by setting the bit; a raise that finds it set leaves it set (R203). -/
def State.raise (s : State) (c : Cause) : State := { s with cause := s.cause ||| oneBit c.place }

/-- The cause is pending. -/
def State.pendingCause (s : State) (c : Cause) : Bool := s.cause.getLsbD c.place

/-- The interrupt line is asserted exactly when the global enable is set and some cause is both pending and enabled
(R204). -/
def State.interrupt (s : State) : Bool :=
  s.enable.getLsbD 15 && (s.cause &&& s.enable &&& causeMask) != 0

/-- The bit of a reset in RESET_CAUSE (section 12.2). -/
def ResetKind.place : ResetKind → Nat
  | .power => 0
  | .pin => 1
  | .soft => 2

/-! ### Hold causes and feed hold (section 9.5) -/

/-- Whether a hold cause is in the set. -/
def HoldCauses.get (h : HoldCauses) : HoldCause → Bool
  | .lockout => h.lockout
  | .modeHold => h.modeHold
  | .supplyCritical => h.supplyCritical
  | .rotor1Down => h.rotor1Down
  | .rotor2Down => h.rotor2Down
  | .rotor1Unusable => h.rotor1Unusable
  | .rotor2Unusable => h.rotor2Unusable
  | .transitFull => h.transitFull
  | .trackFault => h.trackFault

/-- Add a hold cause to the set or remove it (R170). -/
def HoldCauses.put (h : HoldCauses) (c : HoldCause) (b : Bool) : HoldCauses :=
  match c with
  | .lockout => { h with lockout := b }
  | .modeHold => { h with modeHold := b }
  | .supplyCritical => { h with supplyCritical := b }
  | .rotor1Down => { h with rotor1Down := b }
  | .rotor2Down => { h with rotor2Down := b }
  | .rotor1Unusable => { h with rotor1Unusable := b }
  | .rotor2Unusable => { h with rotor2Unusable := b }
  | .transitFull => { h with transitFull := b }
  | .trackFault => { h with trackFault := b }

/-- The set is not empty. -/
def HoldCauses.any (h : HoldCauses) : Bool :=
  h.lockout || h.modeHold || h.supplyCritical || h.rotor1Down || h.rotor2Down || h.rotor1Unusable || h.rotor2Unusable
    || h.transitFull || h.trackFault

/-- Add a hold cause or remove it (R170). -/
def State.putHold (s : State) (c : HoldCause) (b : Bool) : State := { s with holds := s.holds.put c b }

/-- The hold cause of a rotor whose drive is not READY (R168). -/
def downCause : RotorId → HoldCause
  | .r1 => .rotor1Down
  | .r2 => .rotor2Down

/-- The hold cause of an UNUSABLE rotor (R169). -/
def unusableCause : RotorId → HoldCause
  | .r1 => .rotor1Unusable
  | .r2 => .rotor2Unusable

/-- The feed-hold output is asserted exactly when the set of hold causes is not empty, and while any reset is held
(R170). -/
def State.feedHold (s : State) : Bool := s.resetHeld.isSome || s.holds.any

/-! ### STATUS (section 12.2) -/

/-- The code of a mode in CONTROL, STATUS, the status frame and the detail of MODE (R187, section 12.2). -/
def Mode.code : Mode → Nat
  | .config => 1
  | .run => 2
  | .hold => 3
  | .service => 4

/-- The memory is busy for the whole preload, from the moment a save starts writing until it closes, and from the start of
an access-port transfer to its end (R193, R197, R199). -/
def State.cfgBusy (s : State) : Bool :=
  s.cfg.preload == .running || s.cfg.transfer.isSome
    || (match s.cfg.save with
        | some x => x.page.isSome
        | none => false)

/-- The STATUS register (section 12.2). -/
def State.statusWord (s : State) : Word :=
  BitVec.ofNat 16 (s.mode.code + bit s.modeRefused 3 + bit s.cfgBusy 4 + bit s.cfg.fault 5
    + bit (s.cfg.preload == .running) 6 + bit s.geometryValid 7 + bit s.latch 8 + bit s.feedHold 9
    + bit s.cfg.save.isSome 10)

/-- What the host reads at a register offset; register reads return 0 while a reset is held (R201, R202, section 12.2). -/
def State.readRegister (s : State) (offset : Word) : Word :=
  if s.resetHeld.isSome then 0
  else if offset = 0x00#16 then Config.ident
  else if offset = 0x04#16 then s.statusWord
  else if offset = 0x06#16 then s.cause
  else if offset = 0x08#16 then s.enable
  else if offset = 0x0A#16 then BitVec.ofNat 16 s.manifest.scanReload
  else if offset = 0x0C#16 then BitVec.ofNat 16 s.manifest.cursor
  else if offset = 0x0E#16 then s.resetCause
  else if offset = 0x10#16 then s.cfg.addr
  else if offset = 0x12#16 then s.cfg.dataLo
  else if offset = 0x14#16 then s.cfg.dataHi
  else 0

end Sys2Proof.Machine
end

