-- ==== Sys2Proof/Machine/Flow.lean ====
section
/-! DEFINITION. The Flow Arbiter (chapter 7) and the acts of an arm that make, change and end a flow request or move
(chapter 6). -/

namespace Sys2Proof.Machine

/-! ### Slots and classes -/

/-- The slot count of a supply level (R137). -/
def slotsFor (g : Geometry) : SupplyLevel → Nat
  | .normal => g.slotsNormal
  | .low => g.slotsLow
  | .critical => 0

/-- The rank of a class, URGENT first (R138). -/
def FlowClass.rank : FlowClass → Nat
  | .urgent => 0
  | .high => 1
  | .normal => 2
  | .low => 3

/-- The higher of two classes (R138). -/
def FlowClass.higher (a b : FlowClass) : FlowClass := if a.rank ≤ b.rank then a else b

/-- The fairness limit of a class; URGENT has none (R141). -/
def fairnessLimit (g : Geometry) : FlowClass → Option Nat
  | .urgent => none
  | .high => some g.fairHigh
  | .normal => some g.fairNormal
  | .low => some g.fairLow

/-- The class of an arm's waiting request. -/
def State.waitingClass (s : State) (a : ArmId) : Option FlowClass :=
  match (s.arm a).flow with
  | .waiting q => some q.cls
  | _ => none

/-- A waiting request's age has reached the fairness limit of its class (R141). -/
def State.ageReached (s : State) (e : WaitEntry) : Bool :=
  match (s.waitingClass e.arm).bind (fairnessLimit s.geometry) with
  | some limit => decide (limit ≤ s.now - e.entered)
  | none => false

/-! ### Entering, replacing and leaving -/

/-- The arm's entry leaves the wait list and the in-flight set, freeing its slot (R145). -/
def State.leaveFlow (s : State) (a : ArmId) : State :=
  { s with arbiter := { s.arbiter with
      wait := s.arbiter.wait.filter fun e => e.arm != a
      inFlight := s.arbiter.inFlight.filter fun b => b != a } }

/-- A new request enters at the end of the wait list; its age counts from now (R139). -/
def State.enterRequest (s : State) (a : ArmId) (q : FlowRequest) : State :=
  let s := { s with arbiter := { s.arbiter with wait := s.arbiter.wait ++ [WaitEntry.mk a s.now false] } }
  s.updArm a fun c => { c with flow := .waiting q }

/-- An entry whose flag is clear is judged against the fairness limit of its class as it now stands (R140, R141). -/
def State.judgeElevation (s : State) (a : ArmId) : State :=
  { s with arbiter := { s.arbiter with
      wait := s.arbiter.wait.map fun e =>
        if e.arm = a ∧ s.ageReached e then { e with elevated := true } else e } }

/-- A replacement in place: the entry keeps its place and entry time; a raised class is judged anew (R140). -/
def State.replaceRequest (s : State) (a : ArmId) (old new : FlowRequest) : State :=
  let s := s.updArm a fun c => { c with flow := .waiting new }
  if new.cls = old.cls then s else s.judgeElevation a

/-- A VENT to pressure `p` (R119): it ends the arm's request, move or deferred lift and lowers the commanded pressure. -/
def State.vent (s : State) (a : ArmId) (p : Nat) : State :=
  (s.leaveFlow a).updArm a fun c =>
    { c with
      flow := .idle
      commanded := min c.commanded p
      valve := .vent (min c.commanded p)
      vents := satSucc c.vents }

/-! ### Eligibility and the grant -/

/-- The request may be granted at this moment as far as R142 goes. A LOW request under LOW supply is set aside "elevated or not", as R142
says, R165 repeats ("eligible at NORMAL only") and the example of section 7.9 shows; R105 and R157, which speak of waiting until it is
elevated, leave the setting aside to chapter 7 (log 35). -/
def State.eligible (s : State) (e : WaitEntry) : Bool :=
  match s.waitingClass e.arm with
  | none => false
  | some cls =>
    !(s.supply.level == .low && cls == .low)
      && !((s.rotor (rotorOf e.arm)).protection.isSome && !e.elevated && (cls == .normal || cls == .low))

/-- The oldest entry of a class. -/
def State.oldestOf (s : State) (es : List WaitEntry) (cls : FlowClass) : Option WaitEntry :=
  es.find? fun e => s.waitingClass e.arm == some cls

/-- The choice of the grant order (R144): the oldest eligible elevated request, else the oldest of the highest class. -/
def State.choose (s : State) : Option WaitEntry :=
  let es := s.arbiter.wait.filter s.eligible
  (es.find? fun e => e.elevated).or ((s.oldestOf es .urgent).or ((s.oldestOf es .high).or
    ((s.oldestOf es .normal).or (s.oldestOf es .low))))

/-- The timeout of a move, fixed at its grant (R116, R133). -/
def moveTimeout (g : Geometry) (q : FlowRequest) : Nat :=
  match q.kind with
  | .lift => g.liftTimeout + (if q.wake then g.wakeAllowance else 0)
  | .charge => g.chargeTimeout

/-- The arm takes its grant: the valve is driven and the commanded pressure set (R113, R116). -/
def Arm.granted (c : Arm) (q : FlowRequest) (now timeout : Nat) : Arm :=
  match q.kind with
  | .lift =>
    { c with flow := .inFlight q now timeout, commanded := 0, valve := .lift q.value, settled := false }
  | .charge =>
    { c with flow := .inFlight q now timeout, commanded := q.value, valve := .charge q.value, settled := false }

/-- A LIFT grant starts or restarts the rotor's protection timer (R143). Under a period of 0 it starts none, and a timer that runs from
an earlier geometry is left running: the model's choice (log 34). -/
def State.startProtection (s : State) (r : RotorId) : State :=
  if s.geometry.protectionPeriod = 0 then s
  else s.updRotor r fun x => { x with protection := some (s.now + s.geometry.protectionPeriod) }

/-- Grant the waiting request of an arm (R116, R144). -/
def State.grant (s : State) (a : ArmId) : State :=
  match (s.arm a).flow with
  | .waiting q =>
    let s := { s with arbiter := { s.arbiter with
      wait := s.arbiter.wait.filter fun e => e.arm != a
      inFlight := s.arbiter.inFlight ++ [a] } }
    let s := s.updArm a fun c => c.granted q s.now (moveTimeout s.geometry q)
    if q.kind = .lift then s.startProtection (rotorOf a) else s
  | _ => s

/-- Grants one by one until the moves in flight reach the slot count or no eligible request remains (R144). -/
def State.grantUpTo : Nat → State → State
  | 0, s => s
  | n + 1, s =>
    if s.arbiter.inFlight.length < s.arbiter.slots then
      match s.choose with
      | some e => State.grantUpTo n (s.grant e.arm)
      | none => s
    else s

/-- The arbiter grants what the change just made allows (R144); each grant shortens the wait list. -/
def State.arbitrate (s : State) : State := State.grantUpTo s.arbiter.wait.length s

end Sys2Proof.Machine
end

