-- ==== Sys2Proof/Machine/Setpoint.lean ====
section
/-! DEFINITION. The Setpoint Unit (chapter 5): the computation of a target, and what an arm does with one. -/

namespace Sys2Proof.Machine

/-! ### Computing a target (section 5.3) -/

/-- The diameter between two stations or beyond the last (R96), from the station at or before `x` on. -/
def diameterFrom (x : Int) (p : Station) : List Station → Int
  | [] => p.diameter
  | n :: rest =>
    if (n.distance : Int) < x then diameterFrom x n rest
    else p.diameter + (((n.diameter : Int) - p.diameter) * (x - p.distance)).tdiv ((n.distance : Int) - p.distance)

/-- Step 1: the diameter of the section at distance `x` from the head end (R96). -/
def diameterAt (stations : List Station) (x : Int) : Int :=
  match stations with
  | [] => 0
  | p :: rest => if x ≤ p.distance then p.diameter else diameterFrom x p rest

/-- The section distance under a rotor's tool plane (R96). -/
def State.sectionDistance (s : State) (r : RotorId) (q : Record) : Int :=
  posDiff s.feed.position q.head - s.geometry.toolPlane r

/-- Step 2: the band is the number of band bounds at or below `d` (R97). -/
def bandOf (g : Geometry) (d : Int) : Nat :=
  ([g.band1, g.band2, g.band3, g.band4, g.band5].filter fun (b : Nat) => decide ((b : Int) ≤ d)).length

/-- The band pressure of a band number (R88). -/
def SpeciesRow.bandPressure (x : SpeciesRow) : Nat → Nat
  | 0 => x.band0
  | 1 => x.band1
  | 2 => x.band2
  | 3 => x.band3
  | 4 => x.band4
  | _ => x.band5

/-- Step 3: the zone factor of the section at `x`, first limited into the log (R98). -/
def zoneFactor (row : SpeciesRow) (o : Orientation) (working : Nat) (x : Int) : Nat :=
  let x := max 0 (min x ((working : Int) - 1))
  let fromTail := (working : Int) - x - 1
  let butt : Int := match o with
    | .buttFirst => x
    | .topFirst => fromTail
  let top : Int := match o with
    | .buttFirst => fromTail
    | .topFirst => x
  if butt < row.buttLength then row.buttFactor
  else if top < row.topLength then row.topFactor
  else 100

/-- Steps 1 to 3: the base pressure with its zone factor. -/
def basePressure (g : Geometry) (row : SpeciesRow) (q : Record) (x : Int) : Int :=
  percent (row.bandPressure (bandOf g (diameterAt q.stations x))) (zoneFactor row q.orientation q.working x)

/-- Step 4: the frozen add (R99). -/
def frozenStep (row : SpeciesRow) (c : TempClass) (v : Int) : Int :=
  match c with
  | .frozen => v + row.frozenAdd
  | .thawed => v

/-- Step 5: the trim of the record's class, from the row copy (R99). -/
def trimmed (row : SpeciesRow) (c : TempClass) (v : Int) : Int := v + row.trim c * row.trimStep

/-- Step 6: the rotor-2 share (R99). -/
def shared (row : SpeciesRow) (r : RotorId) (v : Int) : Int :=
  match r with
  | .r1 => v
  | .r2 => percent v row.rotor2Share

/-- Step 7: arm-count scaling, a count below 3 taken as 3 (R99). -/
def scaled (count : Nat) (v : Int) : Int := (v * 5).tdiv (max count 3 : Nat)

/-- Step 9: while the feed stands still the value is limited by "stall pressure" (R100). -/
def stalled (g : Geometry) (m : Motion) (v : Int) : Int :=
  match m with
  | .standstill => min v g.stallPressure
  | .moving => v

/-- Step 10: the clamp (R100). -/
def clamped (g : Geometry) (row : SpeciesRow) (v : Int) : Nat :=
  let upper := min row.maximum g.machineMax
  let lower := min row.minimum upper
  (max (lower : Int) (min v upper)).toNat

/-- The body target of an arm for a record (R95 to R100). -/
def State.bodyTarget (s : State) (a : ArmId) (row : SpeciesRow) (c : TempClass) (q : Record) : Nat :=
  let r := rotorOf a
  let v := basePressure s.geometry row q (s.sectionDistance r q)
  let v := scaled (s.activeCount r) (shared row r (trimmed row c (frozenStep row c v)))
  let v := if (s.arm a).relief then v - row.reliefStep else v
  clamped s.geometry row (stalled s.geometry s.feed.motion v)

/-- The entry target of a record (R101). -/
def State.entryTarget (s : State) (row : SpeciesRow) : Nat :=
  clamped s.geometry row (stalled s.geometry s.feed.motion row.entry)

/-- The release target (R102). -/
def releaseTarget (g : Geometry) : Nat := min g.releasePressure g.machineMax

/-- The target of an arm for the phase of the record it is ENGAGED on; other phases give none (section 5.3). -/
def State.targetFor (s : State) (a : ArmId) (q : Record) : Option Nat :=
  match q.row, q.tempClass, q.phase (rotorOf a) with
  | some row, some _, .entry => some (s.entryTarget row)
  | some row, some c, .body => some (s.bodyTarget a row c q)
  | _, _, _ => none

/-! ### Acting on a target (section 5.4) -/

/-- The aim: what the arm's request or move works toward, or its commanded pressure (R103). -/
def Arm.aim (c : Arm) : Nat :=
  match c.flow with
  | .waiting q => q.value
  | .inFlight q _ _ => q.value
  | .idle => c.commanded
  | .deferred _ _ => c.commanded

/-- The move of a CHARGE in flight is retargeted in place; it keeps its slot and grant time (R113, R115). -/
def Arm.retargetCharge (c : Arm) (q : FlowRequest) (granted timeout v : Nat) : Arm :=
  { c with
    flow := .inFlight { q with value := v } granted timeout
    commanded := v
    valve := .charge v
    settled := false }

/-- What a delivered target makes the arm do (R104, R115, R119). -/
def State.actOnTarget (s : State) (a : ArmId) (v : Nat) (cls : FlowClass) : State :=
  let c := s.arm a
  if s.ventHeld a then s
  else if v = c.aim then s
  else match c.flow with
    | .idle => if c.aim < v then s.enterRequest a ⟨.charge, v, cls, false⟩ else s.vent a v
    | .waiting q =>
      if c.aim < v ∨ c.commanded < v then s.replaceRequest a q { q with value := v, cls := q.cls.higher cls }
      else s.vent a v
    | .inFlight q granted timeout =>
      if c.aim < v then s.setArm a (c.retargetCharge q granted timeout v) else s.vent a v
    | .deferred _ _ => s

/-- The arm's flow state is a LIFT, which takes no body or entry target (R104). -/
def Arm.isLifting (c : Arm) : Bool :=
  match c.flow with
  | .waiting q => q.kind == .lift
  | .inFlight q _ _ => q.kind == .lift
  | .deferred _ _ => true
  | .idle => false

/-- The dead band drops a result that differs from the aim by less than it, unless the cause always acts (R103). -/
def dropped (deadBand aim v : Nat) (forced : Bool) : Bool :=
  !forced && decide (((v : Int) - aim).natAbs < deadBand)

/-- A result that is not dropped is delivered: the target, the record's maximum target (R78, R104), and the act. -/
def State.deliver (s : State) (a : ArmId) (q : Record) (deadBand v : Nat) (forced : Bool) (cls : FlowClass) : State :=
  if (s.arm a).isLifting || dropped deadBand (s.arm a).aim v forced then s
  else
    let s := s.updArm a fun c => { c with target := v }
    let s := s.updView (rotorOf a) q.tag fun w => { w with maxTarget := max w.maxTarget v }
    s.actOnTarget a v cls

/-- The class of a recompute (R105): given by its cause, or HIGH in ENTRY and NORMAL in BODY. -/
inductive RecomputeClass where
  | fixed (cls : FlowClass)
  | byPhase
  deriving DecidableEq, Repr

/-- The class a recompute gives its request. -/
def RecomputeClass.get (k : RecomputeClass) (p : Phase) : FlowClass :=
  match k with
  | .fixed cls => cls
  | .byPhase => if p = .entry then .high else .normal

/-- One recompute of one arm, if it is ENGAGED on a record in ENTRY or BODY (R105, R107). -/
def State.recompute (s : State) (forced : Bool) (k : RecomputeClass) (a : ArmId) : State :=
  if (s.arm a).state = .engaged then
    match (s.arm a).tag.bind s.record? with
    | some q =>
      match q.row, s.targetFor a q with
      | some row, some v => s.deliver a q row.deadBand v forced (k.get (q.phase (rotorOf a)))
      | _, _ => s
    | none => s
  else s

/-- The recompute of several arms, in their order. -/
def State.recomputeAll (s : State) (as : List ArmId) (forced : Bool) (k : RecomputeClass) : State :=
  as.foldl (fun s a => s.recompute forced k a) s

end Sys2Proof.Machine
end

