-- ==== Sys2Proof/Machine/Arms.lean ====
section
/-! DEFINITION. The Arm Controllers (chapter 6): lifts, standby, parking, vent hold, going out of service and returning; and
the park timer of a rotor (R77). -/

namespace Sys2Proof.Machine

/-! ### The active arm count (R132, R169) -/

/-- A record keeps the statistics of a rotor from its LIFT there to its release (R78). -/
def keepsStatistics : Phase → Bool
  | .lift | .entry | .body | .release => true
  | .approach | .passed => false

/-- The minimum active arms is lowered to a count that is lower (R78). -/
def RotorView.lowerMinActive (count : Nat) (w : RotorView) : RotorView :=
  if keepsStatistics w.phase then { w with minActive := w.minActive.map fun m => min m count } else w

/-- Usability is judged again; each change raises ROTOR, and the UNUSABLE hold cause follows (R169). -/
def State.judgeUsability (s : State) (r : RotorId) (old : Nat) : State :=
  let u := usabilityOf (s.activeCount r)
  if u = usabilityOf old then s else (s.putHold (unusableCause r) (u == .unusable)).raise .rotor

/-- A change of a rotor's active arm count from `old`, delivered after the arm's own change: to the Rotor Controller, to
Feed Hold Logic and to the Setpoint Unit (R132). -/
def State.countChanged (s : State) (r : RotorId) (old : Nat) : State :=
  let n := s.activeCount r
  let s := s.mapQueue fun q => q.updView r (RotorView.lowerMinActive n)
  (s.judgeUsability r old).recomputeAll (armsOf r) true .byPhase

/-! ### Leaving ENGAGED, standby and parking -/

/-- An arm that leaves ENGAGED stops its monitor and clears its relief (R159); the count, tag and parameters stay. -/
def Arm.leave (c : Arm) : Arm :=
  if c.state = .engaged then
    { c with relief := false, monitor := { c.monitor with counting := false, burst := none, decay := none } }
  else c

/-- An arm is sent to STANDBY (R120): vented to the release target; PARKED and OUT arms stay. -/
def State.toStandby (s : State) (a : ArmId) : State :=
  match (s.arm a).state with
  | .parked | .out => s
  | _ => (s.vent a (releaseTarget s.geometry)).updArm a fun c =>
      { c.leave with state := .standby, tag := none, target := releaseTarget s.geometry }

/-- An OUT arm returns and is sent to STANDBY (R131). -/
def State.returnToStandby (s : State) (a : ArmId) : State :=
  let old := s.activeCount (rotorOf a)
  let s := s.updArm a fun c =>
    { c with state := .standby, outCause := none, returnPending := false, inserted := false, valve := .energized }
  (s.toStandby a).countChanged (rotorOf a) old

/-- The park timer starts, or restarts from its full period (R77). -/
def State.startPark (s : State) (r : RotorId) : State :=
  s.updRotor r fun x => { x with park := some (s.now + s.geometry.parkDelay) }

/-- The park timer stops (R68, R77). -/
def State.stopPark (s : State) (r : RotorId) : State := s.updRotor r fun x => { x with park := none }

/-- The rotor sends one arm to STANDBY while it has no current record: a return-pending arm returns (R131), an arm in one of
the states named goes STANDBY (R120). -/
def State.idleStandby (which : ArmState → Bool) (s : State) (a : ArmId) : State :=
  if (s.arm a).state = .out then
    if (s.arm a).returnPending then s.returnToStandby a else s
  else if which (s.arm a).state then s.toStandby a else s

/-- A rotor with no current record sends its arms to STANDBY, and its park timer starts (R73, R77, R131, R172, R189). -/
def State.standbyRotor (s : State) (r : RotorId) (which : ArmState → Bool) : State :=
  ((armsOf r).foldl (State.idleStandby which) s).startPark r

/-- The arms sent to STANDBY at a tail mark (R73). -/
def afterTail : ArmState → Bool
  | .trailing | .free | .opened => true
  | _ => false

/-- A STANDBY arm goes PARKED, its valve de-energized (R120). -/
def State.park (s : State) (a : ArmId) : State :=
  if (s.arm a).state = .standby then
    s.updArm a fun c =>
      { c with state := .parked, commanded := 0, target := 0, aperture := 0, valve := .deEnergized }
  else s

/-! ### Out of service (R127) -/

/-- An arm goes OUT with a cause; one already OUT takes the new cause and loses its indications (R127). -/
def State.putOut (s : State) (a : ArmId) (cause : OutCause) : State :=
  if (s.arm a).state = .out then
    s.updArm a fun c => { c with outCause := some cause, returnPending := false, inserted := false }
  else
    let old := s.activeCount (rotorOf a)
    let s := (s.vent a 0).updArm a fun c =>
      { c.leave with
        state := .out
        outCause := some cause
        returnPending := false
        inserted := false
        tag := none
        target := 0
        aperture := 0
        valve := .deEnergized }
    s.countChanged (rotorOf a) old

/-! ### Lifts (R114) -/

/-- A new LIFT request enters, or under vent hold becomes a deferred lift (R114, R125). -/
def State.newLift (s : State) (a : ArmId) (aperture : Nat) (wake : Bool) : State :=
  if s.ventHeld a then s.updArm a fun c => { c with flow := .deferred aperture wake }
  else s.enterRequest a ⟨.lift, aperture, .urgent, wake⟩

/-- The arm becomes LIFTING for a record, or for none at a teardown (R114); its valve is energized. -/
def Arm.startLift (c : Arm) (aperture : Nat) (t : Option Tag) : Arm :=
  { c.leave with
    state := .lifting
    aperture := aperture
    tag := t
    valve := if c.state = .parked then .energized else c.valve }

/-- An OUT arm with return-pending leaves OUT at a LIFT and is then as PARKED (R131). -/
def State.returnForLift (s : State) (a : ArmId) : State :=
  let old := s.activeCount (rotorOf a)
  let s := s.updArm a fun c =>
    { c with state := .parked, outCause := none, returnPending := false, inserted := false }
  s.countChanged (rotorOf a) old

/-- A LIFT asked of an arm that is LIFTING already (R114). -/
def State.relift (s : State) (aperture : Nat) (t : Option Tag) (a : ArmId) : State :=
  match (s.arm a).flow with
  | .waiting q =>
    s.updArm a fun c => { c with aperture := aperture, tag := t, flow := .waiting { q with value := aperture } }
  | .inFlight q granted timeout =>
    if q.value = aperture then s.updArm a fun c => { c with aperture := aperture, tag := t }
    else s.updArm a fun c =>
      { c with
        aperture := aperture
        tag := t
        flow := .inFlight { q with value := aperture } granted timeout
        valve := .lift aperture
        settled := false }
  | .deferred _ wake =>
    s.updArm a fun c => { c with aperture := aperture, tag := t, flow := .deferred aperture wake }
  | .idle => (s.updArm a fun c => c.startLift aperture t).newLift a aperture false

/-- A LIFT asked of an ENGAGED arm (R114): a waiting CHARGE becomes the LIFT in place, a CHARGE in flight is cancelled. -/
def State.liftEngaged (s : State) (aperture : Nat) (t : Option Tag) (a : ArmId) : State :=
  match (s.arm a).flow with
  | .waiting q =>
    (s.updArm a fun c => c.startLift aperture t).replaceRequest a q ⟨.lift, aperture, .urgent, false⟩
  | .inFlight _ _ _ => ((s.leaveFlow a).updArm a fun c => c.startLift aperture t).newLift a aperture false
  | .idle | .deferred _ _ => (s.updArm a fun c => c.startLift aperture t).newLift a aperture false

/-- A LIFT to an aperture asked of an arm that is not OUT (R114). -/
def State.liftInService (s : State) (aperture : Nat) (t : Option Tag) (a : ArmId) : State :=
  match (s.arm a).state with
  | .out => s
  | .parked => (s.updArm a fun c => c.startLift aperture t).newLift a aperture true
  | .standby | .trailing | .free => (s.updArm a fun c => c.startLift aperture t).newLift a aperture false
  | .engaged => s.liftEngaged aperture t a
  | .lifting => s.relift aperture t a
  | .opened =>
    if (s.arm a).aperture = aperture then s.updArm a fun c => { c with tag := t }
    else (s.updArm a fun c => c.startLift aperture t).newLift a aperture false

/-- A LIFT asked of an arm that is not OUT, or that is OUT with return-pending (R68, R74, R76, R114). -/
def State.askLift (aperture : Nat) (t : Option Tag) (s : State) (a : ArmId) : State :=
  if (s.arm a).state = .out then
    if (s.arm a).returnPending then (s.returnForLift a).liftInService aperture t a else s
  else s.liftInService aperture t a

/-- A LIFT asked of every arm of a rotor (R68, R74). -/
def State.askLifts (s : State) (r : RotorId) (aperture : Nat) (t : Option Tag) : State :=
  (armsOf r).foldl (State.askLift aperture t) s

/-- The teardown's LIFT to "maximum aperture" of every arm not OUT of a rotor, whose park timer stops (R84). -/
def State.teardownLift (s : State) (r : RotorId) : State :=
  (armsOf r).foldl (State.liftInService · s.geometry.maxAperture none) (s.stopPark r)

/-! ### Vent hold (R125, R126) -/

/-- The deferred lift an arm keeps of its LIFT when a hold begins; a CHARGE is dropped (R125). -/
def Flow.deferLift : Flow → Flow
  | .waiting q => if q.kind = .lift then .deferred q.value q.wake else .idle
  | .inFlight q _ _ => if q.kind = .lift then .deferred q.value q.wake else .idle
  | .deferred aperture wake => .deferred aperture wake
  | .idle => .idle

/-- An arm comes under vent hold (R125). -/
def State.beginHold (s : State) (a : ArmId) : State :=
  match (s.arm a).state with
  | .parked | .out => s
  | _ =>
    let kept := (s.arm a).flow.deferLift
    (s.vent a 0).updArm a fun c => { c with flow := kept }

/-- An arm leaves vent hold: its deferred lift enters the wait list, or it is recomputed if ENGAGED (R106, R126). -/
def State.endHold (s : State) (a : ArmId) : State :=
  match (s.arm a).flow with
  | .deferred aperture wake => s.enterRequest a ⟨.lift, aperture, .urgent, wake⟩
  | _ => s.recompute true .byPhase a

end Sys2Proof.Machine
end

