-- ==== Sys2Proof/Machine/Operands.lean ====
section
/-! DEFINITION. The operands of commands and tickets: loop currents, the request fields of each ticket kind, species rows and
the geometry block as bytes, their range checks, and the codes of section 12.5. -/

namespace Sys2Proof.Machine

/-! ### Loop currents -/

/-- The supply reading of a loop current, absent for a faulted sample (R163). -/
def supplyReading (g : Geometry) (microAmp : Nat) : Option Nat :=
  if microAmp < 3600 then none
  else if microAmp ≤ 4000 then some 0
  else if 20000 < microAmp then some g.supplySpan
  else some ((microAmp - 4000) * g.supplySpan / 16000)

/-- The temperature reading of a loop current in 0.1 °C, absent for a faulted sample (R49); the product is divided and
truncated before the offset is taken. DESIGN CHOICE (log 9). -/
def temperatureReading (microAmp : Nat) : Option Int :=
  if microAmp < 3600 ∨ 21000 < microAmp then none
  else some ((((max 4000 (min microAmp 20000) - 4000) * 1000 / 16000 : Nat) : Int) - 400)

/-! ### The checked area of a ticket (R21): byte offsets are those of the frame, from 4 on -/

/-- The byte at a frame offset from 4 to 127. -/
def areaByte (area : List Byte) (k : Nat) : Byte := area.getD (k - 4) 0

/-- The word at a frame offset. -/
def areaWord (area : List Byte) (k : Nat) : Word := wordOf (areaByte area k) (areaByte area (k + 1))

/-- A run of bytes of the checked area. -/
def areaBytes (area : List Byte) (k n : Nat) : List Byte := (List.range n).map fun i => areaByte area (k + i)

/-- The kind of a code (section 12.5). -/
def TicketKind.ofCode (w : Word) : Option TicketKind :=
  match w.toNat with
  | 1 => some .log
  | 2 => some .species
  | 3 => some .geometry
  | 4 => some .trim
  | 5 => some .arm
  | 6 => some .save
  | 7 => some .sync
  | _ => none

/-! ### LOG request (R42) -/

/-- The species index as written. -/
def logSpecies (area : List Byte) : Nat := (areaWord area 8).toNat

/-- The orientation; a value other than the code of TOP_FIRST is BUTT_FIRST. -/
def logOrientation (area : List Byte) : Orientation := if areaWord area 10 = 1 then .topFirst else .buttFirst

/-- The expected length as written. -/
def logExpected (area : List Byte) : Nat := (areaWord area 12).toNat

/-- The frozen flag; a value other than the codes of FROZEN and THAWED is NONE. -/
def logFrozenFlag (area : List Byte) : FrozenFlag :=
  if areaWord area 14 = 1 then .frozen else if areaWord area 14 = 2 then .thawed else .unflagged

/-- The no-learn flag. -/
def logNoLearn (area : List Byte) : Bool := (areaWord area 16).getLsbD 0

/-- The station count as written. -/
def logStationCount (area : List Byte) : Nat := (areaWord area 18).toNat

/-- The stations in places 1 to the station count, at most 16. -/
def logStations (area : List Byte) : List Station :=
  (List.range (min (logStationCount area) 16)).map fun k =>
    ⟨(areaWord area (20 + 4 * k)).toNat, (areaWord area (22 + 4 * k)).toNat⟩

/-- The distances are strictly increasing. -/
def strictlyRising : List Station → Bool
  | [] => true
  | [_] => true
  | p :: q :: rest => decide (p.distance < q.distance) && strictlyRising (q :: rest)

/-- The field check of a LOG ticket: the first condition of the table that fails (R43). -/
def State.logFieldCheck (s : State) (area : List Byte) : FieldCheck :=
  if 31 < logSpecies area then .failed .speciesRange
  else if !(s.row (logSpecies area)).valid then .failed .speciesInvalid
  else if logStationCount area = 0 ∨ 16 < logStationCount area then .failed .stationCount
  else if !strictlyRising (logStations area) then .failed .stationOrder
  else if (logStations area).any fun p =>
      decide (p.diameter < 60) || decide ((s.geometry.maxAperture : Int) - s.geometry.clearance < p.diameter) then
    .failed .diameter
  else if logExpected area < 300 ∨ 20000 < logExpected area then .failed .expectedLength
  else .passed

/-! ### Species rows (R88, R92, layout of section 12.5) -/

/-- The word at a byte offset of a byte list. -/
def wordAt (bs : List Byte) (k : Nat) : Word := wordOf (bs.getD k 0) (bs.getD (k + 1) 0)

/-- The valid flag of a row's byte 0; other values than 0 and 1 have no stated meaning (log 8). -/
def validFlag (b : Byte) : Bool := if b = 0 then false else if b = 1 then true else Config.unstatedValidFlag b

/-- A row from its 64 bytes. -/
def SpeciesRow.ofBytes (bs : List Byte) : SpeciesRow where
  valid := validFlag (bs.getD 0 0)
  trimLimit := (bs.getD 1 0).toNat
  band0 := (wordAt bs 2).toNat
  band1 := (wordAt bs 4).toNat
  band2 := (wordAt bs 6).toNat
  band3 := (wordAt bs 8).toNat
  band4 := (wordAt bs 10).toNat
  band5 := (wordAt bs 12).toNat
  entry := (wordAt bs 14).toNat
  minimum := (wordAt bs 16).toNat
  maximum := (wordAt bs 18).toNat
  frozenAdd := (wordAt bs 20).toNat
  buttLength := (wordAt bs 22).toNat
  buttFactor := (wordAt bs 24).toNat
  topLength := (wordAt bs 26).toNat
  topFactor := (wordAt bs 28).toNat
  rotor2Share := (wordAt bs 30).toNat
  deadBand := (wordAt bs 32).toNat
  trimStep := (wordAt bs 34).toNat
  trimFrozen := (bs.getD 36 0).toInt
  trimThawed := (bs.getD 37 0).toInt
  residualTarget := (wordAt bs 38).toNat
  burstWindow := (wordAt bs 40).toNat
  threshold := (bs.getD 42 0).toNat
  maxDepth := (bs.getD 43 0).toNat
  decayInterval := (wordAt bs 44).toNat
  reliefStep := (wordAt bs 46).toNat

/-- The 48 bytes of a row's fields; the rest of its 64 bytes is unused. -/
def SpeciesRow.fieldBytes (x : SpeciesRow) : List Byte :=
  byteN (bit x.valid 0) ++ byteN x.trimLimit ++ wordN x.band0 ++ wordN x.band1 ++ wordN x.band2 ++ wordN x.band3
    ++ wordN x.band4 ++ wordN x.band5 ++ wordN x.entry ++ wordN x.minimum ++ wordN x.maximum ++ wordN x.frozenAdd
    ++ wordN x.buttLength ++ wordN x.buttFactor ++ wordN x.topLength ++ wordN x.topFactor ++ wordN x.rotor2Share
    ++ wordN x.deadBand ++ wordN x.trimStep ++ byteI x.trimFrozen ++ byteI x.trimThawed ++ wordN x.residualTarget
    ++ wordN x.burstWindow ++ byteN x.threshold ++ byteN x.maxDepth ++ wordN x.decayInterval ++ wordN x.reliefStep

/-- A row's 64 bytes, its unused bytes 0. -/
def SpeciesRow.toBytes (x : SpeciesRow) : List Byte := x.fieldBytes ++ List.replicate 16 0

/-- Every field other than the trim cells lies in its range of R88. -/
def SpeciesRow.inRange (x : SpeciesRow) : Bool :=
  [x.band0, x.band1, x.band2, x.band3, x.band4, x.band5, x.entry, x.minimum, x.maximum].all (decide <| · ≤ 600)
    && decide (x.frozenAdd ≤ 200)
    && decide (x.buttLength ≤ 10000) && decide (50 ≤ x.buttFactor ∧ x.buttFactor ≤ 200)
    && decide (x.topLength ≤ 10000) && decide (50 ≤ x.topFactor ∧ x.topFactor ≤ 200)
    && decide (50 ≤ x.rotor2Share ∧ x.rotor2Share ≤ 150)
    && decide (x.deadBand ≤ 100) && decide (x.trimStep ≤ 50) && decide (x.trimLimit ≤ 15)
    && decide (x.residualTarget ≤ 100)
    && decide (1 ≤ x.burstWindow ∧ x.burstWindow ≤ 1000)
    && decide (1 ≤ x.threshold ∧ x.threshold ≤ 255) && decide (1 ≤ x.maxDepth ∧ x.maxDepth ≤ 255)
    && decide (10 ≤ x.decayInterval ∧ x.decayInterval ≤ 10000)
    && decide (x.reliefStep ≤ 300)

/-- A cell lies within plus or minus a trim limit. -/
def withinTrim (limit : Nat) (v : Int) : Bool := decide (-(limit : Int) ≤ v ∧ v ≤ limit)

/-- The first of checks 1 to 6 of R92 that fails for a row index and a row, none if all pass. -/
def rowCheck (index : Nat) (x : SpeciesRow) : Option Nat :=
  if 31 < index then some 1
  else if !x.inRange then some 2
  else if x.maximum < x.minimum then some 3
  else if x.maxDepth < x.threshold then some 4
  else if !(withinTrim x.trimLimit x.trimFrozen && withinTrim x.trimLimit x.trimThawed) then some 5
  else if index = 0 ∧ ¬(x.trimFrozen = 0 ∧ x.trimThawed = 0) then some 6
  else none

/-! ### The geometry block (R195, layout of section 12.5) -/

/-- The geometry of a block given word by word. -/
def Geometry.ofWords (w : Nat → Word) : Geometry where
  encoderResolution := (w 0).toNat
  eyeDebounce := (w 1).toNat
  reverseLimit := (w 2).toNat
  maxLogLength := (w 3).toNat
  outfeedTolerance := (w 4).toNat
  stallWindow := (w 5).toNat
  stubLimit := (w 6).toNat
  lengthTolerance := (w 7).toNat
  guardDiameter := (w 8).toNat
  frozenThreshold := (w 9).toInt
  tempHoldLimit := (w 10).toNat
  entryLead := (w 11).toNat
  rampLength := (w 12).toNat
  releaseLead := (w 13).toNat
  jointGap := (w 14).toNat
  clearance := (w 15).toNat
  maxAperture := (w 16).toNat
  parkDelay := (w 17).toNat
  reportWindow := (w 18).toNat
  band1 := (w 19).toNat
  band2 := (w 20).toNat
  band3 := (w 21).toNat
  band4 := (w 22).toNat
  band5 := (w 23).toNat
  machineMax := (w 24).toNat
  stallPressure := (w 25).toNat
  releasePressure := (w 26).toNat
  chargeTimeout := (w 27).toNat
  liftTimeout := (w 28).toNat
  wakeAllowance := (w 29).toNat
  slotsNormal := (w 30).toNat
  slotsLow := (w 31).toNat
  protectionPeriod := (w 32).toNat
  fairHigh := (w 33).toNat
  fairNormal := (w 34).toNat
  fairLow := (w 35).toNat
  supplySpan := (w 36).toNat
  supplyLow := (w 37).toNat
  supplyCritical := (w 38).toNat
  supplyHysteresis := (w 39).toNat
  settleTime := (w 40).toNat
  d1 := (w 41).toNat
  d2 := (w 42).toNat
  d3 := (w 43).toNat

/-- A parameter's value and its range (the parameter tables of R17, R60, R86, R108, R133, R148, R173, R195). -/
structure RangedField where
  value : Int
  low : Int
  high : Int
  deriving DecidableEq, Repr

/-- The fields of the block in its order, with their ranges: first half. -/
def Geometry.rangedFieldsA (g : Geometry) : List RangedField :=
  [⟨g.encoderResolution, 1, 64⟩, ⟨g.eyeDebounce, 2, 100⟩, ⟨g.reverseLimit, 10, 500⟩, ⟨g.maxLogLength, 1000, 30000⟩,
   ⟨g.outfeedTolerance, 10, 1000⟩, ⟨g.stallWindow, 50, 5000⟩, ⟨g.stubLimit, 100, 2000⟩, ⟨g.lengthTolerance, 10, 5000⟩,
   ⟨g.guardDiameter, 60, 900⟩, ⟨g.frozenThreshold, -200, 50⟩, ⟨g.tempHoldLimit, 0, 20⟩, ⟨g.entryLead, 100, 1000⟩,
   ⟨g.rampLength, 0, 1000⟩, ⟨g.releaseLead, 20, 90⟩, ⟨g.jointGap, 0, 1000⟩, ⟨g.clearance, 10, 200⟩,
   ⟨g.maxAperture, 300, 1200⟩, ⟨g.parkDelay, 500, 60000⟩, ⟨g.reportWindow, 200, 20000⟩, ⟨g.band1, 60, 1200⟩,
   ⟨g.band2, 60, 1200⟩, ⟨g.band3, 60, 1200⟩]

/-- The fields of the block in its order, with their ranges: second half. -/
def Geometry.rangedFieldsB (g : Geometry) : List RangedField :=
  [⟨g.band4, 60, 1200⟩, ⟨g.band5, 60, 1200⟩, ⟨g.machineMax, 100, 600⟩, ⟨g.stallPressure, 0, 600⟩,
   ⟨g.releasePressure, 0, 200⟩, ⟨g.chargeTimeout, 50, 1000⟩, ⟨g.liftTimeout, 50, 2000⟩, ⟨g.wakeAllowance, 0, 2000⟩,
   ⟨g.slotsNormal, 1, 4⟩, ⟨g.slotsLow, 1, 4⟩, ⟨g.protectionPeriod, 0, 200⟩, ⟨g.fairHigh, 1, 1000⟩,
   ⟨g.fairNormal, 1, 1000⟩, ⟨g.fairLow, 1, 1000⟩, ⟨g.supplySpan, 400, 2500⟩, ⟨g.supplyLow, 100, 1500⟩,
   ⟨g.supplyCritical, 50, 1400⟩, ⟨g.supplyHysteresis, 0, 200⟩, ⟨g.settleTime, 100, 10000⟩, ⟨g.d1, 600, 10000⟩,
   ⟨g.d2, 1200, 20000⟩, ⟨g.d3, 1500, 30000⟩]

/-- All 44 fields in the block's order; field k lies at offset 2 × k. -/
def Geometry.rangedFields (g : Geometry) : List RangedField := g.rangedFieldsA ++ g.rangedFieldsB

/-- A field lies in its range. -/
def RangedField.ok (f : RangedField) : Bool := decide (f.low ≤ f.value ∧ f.value ≤ f.high)

/-- The offset, within the block, of the first field out of range (R195). -/
def Geometry.firstOutOfRange (g : Geometry) : Option Nat :=
  (g.rangedFields.findIdx? fun f => !f.ok).map fun k => 2 * k

/-- The 128 bytes of the block; the bytes beyond its fields are 0 (R196, R207). -/
def Geometry.toBytes (g : Geometry) : List Byte :=
  (g.rangedFields.flatMap fun f => wordI f.value) ++ List.replicate 40 0

/-- The first of checks 1 to 8 of R195 that fails, none if all pass. -/
def Geometry.firstFailed (g : Geometry) : Option Nat :=
  if g.firstOutOfRange.isSome then some 1
  else if (g.d1 : Int) - g.entryLead < g.stubLimit + g.eyeDebounce then some 2
  else if g.d2 < g.d1 + 600 then some 3
  else if g.d3 < g.d2 + 300 then some 4
  else if !(decide (g.band1 < g.band2) && decide (g.band2 < g.band3) && decide (g.band3 < g.band4)
      && decide (g.band4 < g.band5)) then some 5
  else if ¬(g.supplyCritical + g.supplyHysteresis < g.supplyLow) then some 6
  else if g.slotsNormal < g.slotsLow then some 7
  else if g.maxAperture < g.guardDiameter + g.clearance then some 8
  else none

/-! ### Codes (section 12.5, enumerations and absence codes) -/

/-- The code of a result. -/
def Result.code : Result → Nat
  | .done => 1
  | .failed => 2
  | .worked => 3
  | .workedNoReport => 4
  | .lost => 5
  | .check => 16
  | .kind => 17
  | .mode => 18
  | .field => 19
  | .busy => 20

/-- The results with which a frame is REJECTED; the others CLOSE it (R36). -/
def Result.rejects : Result → Bool
  | .check | .kind | .mode | .field | .busy => true
  | .done | .failed | .worked | .workedNoReport | .lost => false

/-- The code of a field-check reason, in the order of the field check; 0 is NONE. -/
def ProfileFault.code : ProfileFault → Nat
  | .speciesRange => 1
  | .speciesInvalid => 2
  | .stationCount => 3
  | .stationOrder => 4
  | .diameter => 5
  | .expectedLength => 6

/-- The code of a suppression reason. -/
def Suppression.code : Suppression → Nat
  | .notSuppressed => 0
  | .noLearn => 1
  | .profileFault => 2
  | .guardRow => 3
  | .rowInvalid => 4
  | .stall => 5
  | .rotorDown => 6
  | .lateLift => 7
  | .armsBelowFull => 8
  | .noReport => 9

/-- The code of an orientation in outcomes. -/
def Orientation.code : Orientation → Nat
  | .buttFirst => 0
  | .topFirst => 1

/-- The code of a temperature class; 0 none, for a stub. -/
def tempClassCode : Option TempClass → Nat
  | none => 0
  | some .frozen => 1
  | some .thawed => 2

/-- The code of a predecessor relation. -/
def Relation.code : Relation → Nat
  | .apart => 0
  | .close => 1
  | .joint => 2
  | .stubBehind => 3

/-- The code of a phase. -/
def Phase.code : Phase → Nat
  | .approach => 0
  | .lift => 1
  | .entry => 2
  | .body => 3
  | .release => 4
  | .passed => 5

/-- The code of a record kind. -/
def RecordKind.code : RecordKind → Nat
  | .log => 0
  | .orphan => 1
  | .stub => 2

/-- The code of an arm state. -/
def ArmState.code : ArmState → Nat
  | .parked => 0
  | .standby => 1
  | .lifting => 2
  | .opened => 3
  | .engaged => 4
  | .trailing => 5
  | .free => 6
  | .out => 7

/-- The code of an out cause; 0 none. -/
def outCauseCode : Option OutCause → Nat
  | none => 0
  | some .removed => 1
  | some .presenceLost => 2
  | some .valveFault => 3
  | some .byTicket => 4

/-- A tag, or 0xFF for none. -/
def tagCode : Option Tag → Nat
  | none => 0xFF
  | some t => t.val

/-- A temperature, or 0x8000 for absent or FAULTED. -/
def temperatureBytes : Option Int → List Byte
  | none => bytesOfWord 0x8000#16
  | some v => wordI v

/-- The bytes of a section from its fields: every byte no field covers is 0 (R206, R207). -/
def packBytes (size : Nat) (fields : List (Nat × List Byte)) : List Byte :=
  (List.range size).map fun k =>
    match fields.find? fun f => decide (f.1 ≤ k ∧ k < f.1 + f.2.length) with
    | some f => f.2.getD (k - f.1) 0
    | none => 0

/-- The eight bytes of a record's rotor block (LOG outcome and transit snapshot). -/
def RotorView.bytes (w : RotorView) : List Byte :=
  byteN w.phase.code ++ byteN (bit w.jointHead 0 + bit w.jointTail 1) ++ wordN w.maxTarget ++ byteN w.reliefEntries
    ++ byteN w.lateLifts ++ byteN (w.minActive.getD 0xFF)

/-- Bits 0 to 5 of the LOG outcome's flags. -/
def Record.flagBits (q : Record) : Nat :=
  bit q.profileFault.isSome 0 + bit q.tempHeld 1 + bit q.tempUnknown 2 + bit q.lengthMismatch 3 + bit q.stall 4
    + bit q.rotorDown 5

/-- The kind-specific outcome of a LOG ticket (R59, R83), by frame offset. -/
def logOutcome (q : Record) (rep : ReportFields) : List (Nat × List Byte) :=
  [(140, byteN q.tag.val), (141, byteN q.rowUsed),
   (142, byteN (match q.profileFault with
      | some f => f.code
      | none => 0)),
   (143, byteN q.orientation.code), (144, byteN (tempClassCode q.tempClass)), (145, byteN q.relation.code),
   (146, temperatureBytes q.reading), (148, bytesOfLong q.head), (152, bytesOfLong (q.tail.getD 0)),
   (156, wordN (q.measured.getD 0)), (158, wordN (q.expected.getD 0)),
   (160, wordN (q.flagBits + bit rep.scannerFault 6 + bit rep.atLimit 7 + bit rep.gouge 8)),
   (162, byteN rep.residual), (163, byteI rep.change), (164, byteN rep.suppression.code),
   (166, q.view1.bytes), (174, q.view2.bytes)]

end Sys2Proof.Machine
end

