-- ==== Sys2Proof/Machine/Chain.lean ====
section
/-! DEFINITION. The Manifest Reader's shared operations (chapter 2): closing a frame, calling a scan, the hold mark, the head of
the staged queue, and one step of a scan. -/

namespace Sys2Proof.Machine

/-! ### Closing a frame (R36) -/

/-- Raise the closure or the rejection counter by 1 (R36, R38). -/
def Counters.finish (k : Counters) (res : Result) : Counters :=
  if res.rejects then { k with rejections := k.rejections + 1 } else { k with closures := k.closures + 1 }

/-- The closure or rejection counter that a result raises. -/
def Counters.finished (k : Counters) (res : Result) : Word := if res.rejects then k.rejections else k.closures

/-- The outcome section, offsets 128 to 255: the common part, the kind-specific fields, and 0 in every other byte (R36,
R206). -/
def outcomeSection (res : Result) (detail : Nat) (sequence tag : Word) (time : Nat) (fields : List (Nat × List Byte)) :
    List Byte :=
  packBytes 128 (([(128, wordN res.code), (130, wordN detail), (132, bytesOfWord sequence), (134, bytesOfWord tag),
    (136, bytesOfLong (BitVec.ofNat 32 time))] ++ fields).map fun (f : Nat × List Byte) => (f.1 - 128, f.2))

/-- The state byte a result gives a frame: 3 CLOSED or 4 REJECTED (R36). -/
def Result.frameState (res : Result) : Byte := if res.rejects then 4 else 3

/-- The Manifest Reader writes a closure or a rejection (R36): into the frame only while it stands TAKEN; the counter and the
cause are raised in either case. -/
def State.closeFrame (s : State) (f : Nat) (tag : Word) (res : Result) (detail : Nat) (fields : List (Nat × List Byte)) :
    State :=
  let counters := s.counters.finish res
  let written :=
    if s.frameState f = 2 then
      (s.writeFrame f 128 (outcomeSection res detail (counters.finished res) tag s.now fields)).writeFrame f 2
        [res.frameState]
    else s
  { written with counters := counters }.raise (if res.rejects then .rejected else .closed)

/-! ### Calling a scan (R25) -/

/-- An occasion that calls a scan: it begins at once when none is in progress, and is remembered in the request flag
otherwise; until the preload ends no occasion sets the flag (R25). -/
def State.requestScan (s : State) : State :=
  if s.cfg.preload = .running then s
  else if s.manifest.scanning then { s with manifest := { s.manifest with scanRequest := true } }
  else { s with manifest := { s.manifest with scanning := true, scanRequest := false } }

/-- The scan in progress ends with a reason; a set request flag begins one more (R25, R27). -/
def State.endScan (s : State) (why : ScanEnd) : State :=
  { s with manifest := { s.manifest with
      endReason := why
      scanning := s.manifest.scanRequest
      scanRequest := false } }

/-! ### The head of the staged queue (R32, R33) -/

/-- A LOG ticket that has become the head has its field check made, once (R32, R43). -/
def State.checkHead (s : State) : State :=
  match s.manifest.staged with
  | e :: rest =>
    if e.kind = .log ∧ e.check = .notMade then
      { s with manifest := { s.manifest with staged := { e with check := s.logFieldCheck e.area } :: rest } }
    else s
  | [] => s

/-- The head leaves the staged queue: a scan is called, and the entry behind becomes the head (R33). -/
def State.departHead (s : State) : State :=
  ({ s with manifest := { s.manifest with staged := s.manifest.staged.tail } }.requestScan).checkHead

/-- Set or clear the bound marker of the head (R30). -/
def State.bindHead (s : State) (b : Bool) : State :=
  match s.manifest.staged with
  | e :: rest => { s with manifest := { s.manifest with staged := { e with bound := b } :: rest } }
  | [] => s

/-! ### One step of a scan (R27) -/

/-- A frame becomes the cursor: it takes the hold mark, and the frame that was the cursor loses it, unless that is frame 0 or
the same frame (R23). -/
def State.moveCursor (s : State) (f : Nat) : State :=
  let old := s.manifest.cursor
  let s := s.writeFrame f 3 [1]
  let s := if old = 0 ∨ old = f then s else s.writeFrame old 3 [0]
  { s with manifest := { s.manifest with cursor := f } }

/-- A frame is rejected at scan: TAKEN, then its outcome and REJECTED; it becomes the cursor (R29). -/
def State.rejectAtScan (s : State) (f : Nat) (res : Result) (detail : Word) : State :=
  (((s.writeFrame f 2 [2]).closeFrame f (s.ram.word (frameAddr f 6)) res detail.toNat []).moveCursor f)

/-- A frame is taken: TAKEN, a staged entry with the copy of its checked area, the cursor and the hold mark (R27 step 7). -/
def State.takeFrame (s : State) (f : Nat) (kind : TicketKind) (area : List Byte) : State :=
  let s := s.writeFrame f 2 [2]
  let e : StagedTicket :=
    { frame := f, kind := kind, tag := areaWord area 6, area := area, check := .notMade, bound := false }
  let s := { s with manifest := { s.manifest with staged := s.manifest.staged ++ [e] } }
  (s.moveCursor f).checkHead

/-- Steps 4 to 7 of a scan step, at a linked frame 1 to 239 (R27). -/
def State.scanFrame (s : State) (f : Nat) : State :=
  if s.frameState f ≠ 1 then s.endScan .notPosted
  else if s.holdsFrame f then s.endScan .held
  else
    let area := s.ram.readBytes (frameAddr f 4) 124
    if sumWords area ≠ 0 then s.rejectAtScan f .check (sumWords area)
    else match TicketKind.ofCode (areaWord area 4) with
      | none => s.rejectAtScan f .kind (areaWord area 4)
      | some kind => s.takeFrame f kind area

/-- One step of the scan in progress (R27, R28). -/
def State.scanOnce (s : State) : State :=
  if s.manifest.staged.length ≥ 4 then s.endScan .full
  else
    let link := (s.ram.word (frameAddr s.manifest.cursor 0)).toNat
    if link = 0 then s.endScan .chainEnd
    else if 239 < link then (s.raise .link).endScan .linkFault
    else s.scanFrame link

end Sys2Proof.Machine
end

