-- ==== Sys2Proof/Machine/Transit.lean ====
section
/-! DEFINITION. Closing transit records (sections 4.9, 4.10), the track-fault latch (section 9.6), and the phases of a record at
a rotor (sections 4.3 to 4.6). -/

namespace Sys2Proof.Machine

/-! ### Closing a record (R81) -/

/-- The report fields of a record closed at its window end (R180). -/
def ReportFields.noReport : ReportFields := ⟨0, false, false, 0, .noReport, false⟩

/-- The report fields of a record closed LOST: zero with no report (R83). -/
def ReportFields.zero : ReportFields := ⟨0, false, false, 0, .notSuppressed, false⟩

/-- The most records the transit queue holds (R64). -/
def maxRecords : Nat := 6

/-- A record leaves the queue: its tag becomes free, its marks are emptied, TRANSIT_FULL follows the count (R13, R64,
R81). -/
def State.removeRecord (s : State) (t : Tag) : State :=
  let s := { s with queue := s.queue.filter fun q => q.tag != t }.dropMarks t
  if s.queue.length < maxRecords then s.putHold .transitFull false else s

/-- A record is closed as one act: the outcome of the frame it holds, then its leaving (R81, R83). -/
def State.closeRecord (s : State) (q : Record) (res : Result) (rep : ReportFields) : State :=
  let s := match q.frame with
    | some f => s.closeFrame f (q.hostTag.getD 0) res 0 (logOutcome q rep)
    | none => s
  s.removeRecord q.tag

/-! ### The track-fault latch and the teardown (R84, R171) -/

/-- A teardown closes one record with LOST, after undoing a provisional binding (R57, R84). -/
def State.loseRecord (s : State) (q : Record) : State :=
  if q.provisional then
    if q.frame.isSome then (s.bindHead false).closeRecord { q with frame := none } .lost .zero
    else s.closeRecord q .lost .zero
  else s.closeRecord q .lost .zero

/-- The Feed Tracker's side of a latch: the blockage becomes unworked (R8) and the reason is published (R16). -/
def Feed.latched (f : Feed) (why : TrackReason) : Feed :=
  { f with reason := why, blockage := f.blockage.map fun b => { b with worked := false } }

/-- A TRACK fault is taken (R171): the latch, TRACK_FAULT, the TRACK cause and the teardown (R84). -/
def State.trackFault (s : State) (why : TrackReason) : State :=
  let s := (({ s with latch := true, feed := s.feed.latched why }).putHold .trackFault true).raise .track
  let s := s.queue.foldl State.loseRecord s
  let s := { s with feed := { s.feed with marks := .empty } }
  ((s.teardownLift .r1).teardownLift .r2).arbitrate

/-! ### Marks of a record at a rotor (R66, R67) -/

/-- The position of a point of a record at a rotor: head position + Dr + distance. -/
def State.pointOf (s : State) (r : RotorId) (q : Record) (d : Int) : Pos :=
  posAdd q.head (s.geometry.toolPlane r + d)

/-- The tail position + Dr, for a record whose tail is known. -/
def State.tailPoint (s : State) (r : RotorId) (tail : Pos) : Pos := posAdd tail (s.geometry.toolPlane r)

/-- The release position, tail position + Dr − "release lead" (R67). -/
def State.releasePoint (s : State) (r : RotorId) (tail : Pos) : Pos :=
  posAdd tail ((s.geometry.toolPlane r : Int) - s.geometry.releaseLead)

/-- The lift mark of a record that has become current in APPROACH (R66). -/
def State.armLift (s : State) (arm : Arming) (r : RotorId) (q : Record) : State :=
  arm s (clientOf r) q.tag .lift (s.pointOf r q (-(s.geometry.entryLead : Int)))

/-- The first mark of a record in LIFT: the entry mark, or for a stub the tail mark (R67). -/
def State.armFirst (s : State) (arm : Arming) (r : RotorId) (q : Record) : State :=
  match q.kind, q.tail with
  | .stub, some tail => arm s (clientOf r) q.tag .tail (s.tailPoint r tail)
  | _, _ => arm s (clientOf r) q.tag .entry (s.pointOf r q 0)

/-- The zone boundaries of a record, two distances from the head end (R70). -/
def Record.zoneBoundaries (q : Record) : List Int :=
  match q.row with
  | none => []
  | some row =>
    match q.orientation with
    | .buttFirst => [row.buttLength, max (row.buttLength : Int) ((q.working : Int) - row.topLength)]
    | .topFirst =>
      [min (row.topLength : Int) ((q.working : Int) - row.buttLength), (q.working : Int) - row.buttLength]

/-- The section points a rotor still has to follow: beyond "ramp length" and the points taken, below the working length,
or below the release distance once the tail is known (R70, log 14). -/
def State.sectionPoints (s : State) (r : RotorId) (q : Record) : List Int :=
  let limit : Int := if q.tail.isSome then (q.working : Int) - s.geometry.releaseLead else q.working
  ((q.stations.map fun p => (p.distance : Int)) ++ q.zoneBoundaries).filter fun d =>
    decide ((s.geometry.rampLength : Int) < d) && decide (((q.view r).followed : Int) < d) && decide (d < limit)

/-- In BODY the rotor arms its one mark at the nearest point ahead: a section point, or the release position (R70). -/
def State.armNearest (s : State) (arm : Arming) (r : RotorId) (q : Record) : State :=
  match (s.sectionPoints r q).min? with
  | some d => arm s (clientOf r) q.tag .sectionPoint (s.pointOf r q d)
  | none =>
    match q.tail with
    | some tail => arm s (clientOf r) q.tag .release (s.releasePoint r tail)
    | none => s.setMark (clientOf r) q.tag none

/-- The release position is at or before the ramp-end position (R69, R71). -/
def State.skipsBody (s : State) (r : RotorId) (q : Record) : Option Pos :=
  match q.tail with
  | some tail =>
    if reached (s.pointOf r q s.geometry.rampLength) (s.releasePoint r tail) then some (s.releasePoint r tail) else none
  | none => none

/-- The mark after the entry mark: release with BODY skipped, or ramp end (R69). -/
def State.armAfterEntry (s : State) (arm : Arming) (r : RotorId) (q : Record) : State :=
  match s.skipsBody r q with
  | some p => arm s (clientOf r) q.tag .release p
  | none => arm s (clientOf r) q.tag .rampEnd (s.pointOf r q s.geometry.rampLength)

/-! ### LIFT (R68, R75, R76) -/

/-- The head diameter: the first station's diameter (R68). -/
def Record.headDiameter (q : Record) : Nat :=
  match q.stations with
  | p :: _ => p.diameter
  | [] => 0

/-- The aperture of a record's LIFT: its head diameter + "clearance", or "maximum aperture" for a stub (R68). -/
def State.liftAperture (s : State) (q : Record) : Nat :=
  match q.kind with
  | .stub => s.geometry.maxAperture
  | .log | .orphan => q.headDiameter + s.geometry.clearance

/-- A record enters LIFT at a rotor once its arms have been asked: the phase, and the minimum active arms as the count stands
after the request (R68). -/
def State.setLifted (s : State) (r : RotorId) (t : Tag) : State :=
  s.updView r t fun w => { w with phase := .lift, minActive := some (s.activeCount r) }

/-- A record enters LIFT: park timer, LIFT of every arm, phase and first mark (R68, R75). -/
def State.takeLift (s : State) (arm : Arming) (r : RotorId) (q : Record) : State :=
  (((s.stopPark r).askLifts r (s.liftAperture q) (some q.tag)).setLifted r q.tag).armFirst arm r q

/-- A LIFT to "maximum aperture" asked of an arm that is neither OPEN nor LIFTING (R76). -/
def State.askLiftBehindStub (aperture : Nat) (t : Option Tag) (s : State) (a : ArmId) : State :=
  match (s.arm a).state with
  | .opened | .lifting => s
  | _ => s.askLift aperture t a

/-- A record behind a stub is lifted: OPEN and LIFTING arms keep their aperture and move (R76). -/
def State.liftBehindStub (s : State) (arm : Arming) (r : RotorId) (q : Record) : State :=
  let s := (armsOf r).foldl (State.askLiftBehindStub s.geometry.maxAperture (some q.tag)) (s.stopPark r)
  (s.setLifted r q.tag).armFirst arm r q

/-! ### ENTRY (R69, R122, R123, R158, R166, R168) -/

/-- An OPEN arm becomes ENGAGED on a record: its counts are 0 and its monitor starts with the row copy's parameters (R122,
R158). -/
def Arm.engage (c : Arm) (q : Record) : Arm :=
  { c with
    state := .engaged
    tag := some q.tag
    charges := 0
    vents := 0
    relief := false
    monitor :=
      { counting := true
        tag := some q.tag
        params := q.row.map fun x => ⟨x.burstWindow, x.threshold, x.maxDepth, x.decayInterval⟩
        counter := 0
        burst := none
        decay := none } }

/-- A late lift is vented to 0 and goes FREE for the rest of the record (R123). -/
def State.lateLift (s : State) (q : Record) (a : ArmId) : State :=
  (s.vent a 0).updArm a fun c => { c.leave with state := .free, tag := some q.tag, target := 0 }

/-- One arm at an entry mark: OPEN arms engage, OUT arms stay, the others are late lifts (R69). -/
def State.enterArm (q : Record) (s : State) (a : ArmId) : State :=
  match (s.arm a).state with
  | .opened => s.updArm a fun c => c.engage q
  | .out => s
  | _ => s.lateLift q a

/-- The arms of a rotor that are neither OPEN nor OUT (R69). -/
def State.lateCount (s : State) (r : RotorId) : Nat :=
  ((armsOf r).filter fun a => (s.arm a).state != .opened && (s.arm a).state != .out).length

/-- The STALL and ROTOR_DOWN flags of a record that enters ENTRY (R166, R168). -/
def State.flagEntry (s : State) (r : RotorId) (q : Record) : Record :=
  { q with
    stall := q.stall || s.feed.motion == .standstill || s.supply.level == .critical
    rotorDown := q.rotorDown || (s.rotor r).drive != .ready }

/-- The entry mark fires (R69). -/
def State.onEntry (s : State) (arm : Arming) (r : RotorId) (q : Record) : State :=
  let late := s.lateCount r
  let s := s.updRecord q.tag fun x =>
    (s.flagEntry r x).updView r fun w => { w with phase := .entry, lateLifts := min (w.lateLifts + late) 255 }
  let s := (armsOf r).foldl (State.enterArm q) s
  ((s.recomputeAll (armsOf r) true (.fixed .high)).armAfterEntry arm r q).arbitrate

/-! ### BODY (R70) -/

/-- Re-arm the mark of a record in BODY from the record as it now stands. -/
def State.rearmBody (s : State) (arm : Arming) (r : RotorId) (t : Tag) : State :=
  match s.record? t with
  | some q => s.armNearest arm r q
  | none => s

/-- The ramp-end mark fires (R70). -/
def State.onRampEnd (s : State) (arm : Arming) (r : RotorId) (q : Record) : State :=
  let s := s.updView r q.tag fun w => { w with phase := .body, followed := s.geometry.rampLength }
  ((s.recomputeAll (armsOf r) true (.fixed .normal)).rearmBody arm r q.tag).arbitrate

/-- A section mark fires at a position (R70). -/
def State.onSection (s : State) (arm : Arming) (r : RotorId) (q : Record) (position : Pos) : State :=
  let s := s.updView r q.tag fun w =>
    { w with followed := (posDiff position q.head - s.geometry.toolPlane r).toNat }
  ((s.recomputeAll (armsOf r) false (.fixed .normal)).rearmBody arm r q.tag).arbitrate

/-! ### RELEASE (R72, R74, R124) -/

/-- An arm ENGAGED on a record becomes TRAILING, vented to the release target (R72, R124). -/
def State.releaseArm (t : Tag) (s : State) (a : ArmId) : State :=
  if (s.arm a).state = .engaged ∧ (s.arm a).tag = some t then
    (s.vent a (releaseTarget s.geometry)).updArm a fun c =>
      { c.leave with state := .trailing, target := releaseTarget s.geometry }
  else s

/-- The tail diameter of a record: that of its section at its working length (R74). -/
def Record.tailDiameter (q : Record) : Nat := (diameterAt q.stations q.working).toNat

/-- The aperture of a joint lift (R74). -/
def State.jointAperture (s : State) (a b : Record) : Nat :=
  match b.kind with
  | .stub => s.geometry.maxAperture
  | .log | .orphan => max a.tailDiameter b.headDiameter + s.geometry.clearance

/-- The joint lift at the release of `a` with the JOINT follower `b` (R74). -/
def State.jointLift (s : State) (r : RotorId) (a b : Record) : State :=
  let s := s.updView r a.tag fun w => { w with phase := .release, jointTail := true }
  let s := s.updView r b.tag fun w => { w with phase := .lift, jointHead := true }
  (s.askLifts r (s.jointAperture a b) (some b.tag)).setLifted r b.tag

/-- The arms vent at a release without a JOINT follower (R72). -/
def State.ventRelease (s : State) (r : RotorId) (q : Record) : State :=
  let s := s.updView r q.tag fun w => { w with phase := .release }
  (armsOf r).foldl (State.releaseArm q.tag) s

/-- The record behind a rotor's current one, when it is JOINT to it. -/
def State.jointNext? (s : State) (r : RotorId) : Option Record :=
  (s.next? r).bind fun b => if b.relation = .joint then some b else none

/-- The tail mark of a released record (R72, R74). -/
def State.armTail (s : State) (arm : Arming) (r : RotorId) (q : Record) : State :=
  match q.tail with
  | some tail => arm s (clientOf r) q.tag .tail (s.tailPoint r tail)
  | none => s

/-- The release mark fires (R72, R74). -/
def State.onRelease (s : State) (arm : Arming) (r : RotorId) (q : Record) : State :=
  match s.jointNext? r with
  | some b => ((s.jointLift r q b).armTail arm r q).arbitrate
  | none => ((s.ventRelease r q).armTail arm r q).arbitrate

/-! ### PASSED (R73) -/

/-- An arm that is TRAILING, FREE or OPEN goes STANDBY while a record is behind (R73). -/
def State.tailStandby (s : State) (a : ArmId) : State := if afterTail (s.arm a).state then s.toStandby a else s

/-- The record that becomes current is taken up by its phase and relation (R73). -/
def State.takeUpNext (s : State) (arm : Arming) (r : RotorId) (b : Record) : State :=
  match b.phase r, b.relation with
  | .approach, .close => s.takeLift arm r b
  | .approach, .joint => s.takeLift arm r b
  | .approach, .stubBehind => s.liftBehindStub arm r b
  | .approach, .apart => ((armsOf r).foldl State.tailStandby s).armLift arm r b
  | _, _ => s.armFirst arm r b

/-- The tail mark fires (R73). -/
def State.onTail (s : State) (arm : Arming) (r : RotorId) (q : Record) : State :=
  let s := s.updView r q.tag fun w => { w with phase := .passed }
  match s.current? r with
  | some b => (s.takeUpNext arm r b).arbitrate
  | none => (s.standbyRotor r afterTail).arbitrate

/-! ### Marks delivered to their clients (R12, R67, R79, R80) -/

/-- A mark fires for a rotor (R67). -/
def State.rotorMark (s : State) (arm : Arming) (r : RotorId) (q : Record) (m : Mark) : State :=
  match m.purpose with
  | .lift => (s.takeLift arm r q).arbitrate
  | .entry => s.onEntry arm r q
  | .rampEnd => s.onRampEnd arm r q
  | .sectionPoint => s.onSection arm r q m.position
  | .release => s.onRelease arm r q
  | .tail => s.onTail arm r q
  | .outfeed | .windowEnd => s

/-- A mark fires for the Transit Tracker: the outfeed mark (R79) or the window end (R80). -/
def State.transitMark (s : State) (arm : Arming) (q : Record) (m : Mark) : State :=
  match m.purpose with
  | .outfeed =>
    arm (s.updRecord q.tag fun x => { x with outfeed := .awaitReport }) .transit q.tag .windowEnd
      (posAdd m.position s.geometry.reportWindow)
  | .windowEnd => s.closeRecord q .workedNoReport .noReport
  | _ => s

/-- A mark is delivered to its client with the record of its tag (R12). -/
def State.deliverMark (s : State) (arm : Arming) (c : Client) (q : Record) (m : Mark) : State :=
  match c with
  | .rotor1 => s.rotorMark arm .r1 q m
  | .rotor2 => s.rotorMark arm .r2 q m
  | .transit => s.transitMark arm q m

/-- A mark fires once: its place becomes empty and it is delivered to its client (R12). -/
def State.fireMark (s : State) (arm : Arming) (c : Client) (q : Record) (m : Mark) : State :=
  (s.setMark c q.tag none).deliverMark arm c q m

/-- Arm a mark (R11, R12): one that lies ahead of the peak takes its place; one that the peak has reached fires at the moment it is
armed, and its place is left empty. A mark that fires may arm the next one; the number bounds that chain (log 25). -/
def State.armMark : Nat → Arming
  | 0 => State.placeMark
  | n + 1 => fun s c t purpose position =>
    if reached s.feed.peak position then
      match s.record? t with
      | some q => s.fireMark (State.armMark n) c q ⟨purpose, position⟩
      | none => s.setMark c t none
    else s.placeMark c t purpose position

/-- More marks than six records can have at one step: at most 23 a record and rotor, and two for the Transit Tracker
(log 25). -/
def markFuel : Nat := 300

/-- The Feed Tracker's arming of a mark (R11, R12). -/
def State.arming : Arming := State.armMark markFuel

/-- The marks of a client that the peak has reached, of the oldest record first (R12). -/
def State.dueMarksOf (s : State) (c : Client) : List (Client × Record × Mark) :=
  s.queue.filterMap fun q =>
    match s.feed.marks.get c q.tag with
    | some m => if reached s.feed.peak m.position then some (c, q, m) else none
    | none => none

/-- The next mark to fire; the order among clients is the model's (log 3). -/
def State.dueMark (s : State) : Option (Client × Record × Mark) :=
  ((s.dueMarksOf .rotor1).head?.or (s.dueMarksOf .rotor2).head?).or (s.dueMarksOf .transit).head?

/-- Fire the marks that the peak has reached, one after another (R12). -/
def State.fireMarks : Nat → State → State
  | 0, s => s
  | n + 1, s =>
    match s.dueMark with
    | some (c, q, m) => State.fireMarks n (s.fireMark State.arming c q m)
    | none => s

end Sys2Proof.Machine
end

