-- ==== Sys2Proof/Machine/Memory.lean ====
section
/-! DEFINITION. The Configuration Memory Controller's shared operations (chapter 11): installing a geometry, the pages of a save, the
preload's judgment of the stored image, and the access port. -/

namespace Sys2Proof.Machine

/-! ### Installing a geometry (R17, R60, R137, R141, R196) -/

/-- An arm that is STANDBY takes the new release target (R196). -/
def State.newRelease (s : State) (a : ArmId) : State :=
  if (s.arm a).state = .standby then
    (s.vent a (releaseTarget s.geometry)).updArm a fun c => { c with target := releaseTarget s.geometry }
  else s

/-- Every waiting request whose age stands at or above the limit of its class is elevated (R141). -/
def State.elevateAged (s : State) : State :=
  { s with arbiter := { s.arbiter with
      wait := s.arbiter.wait.map fun e => if s.ageReached e then { e with elevated := true } else e } }

/-- A geometry replaces the one in force whole and becomes valid; each block takes the new values (R196). -/
def State.installGeometry (s : State) (g : Geometry) : State :=
  let edges := if g.encoderResolution = s.geometry.encoderResolution then s.feed.edges else 0
  let s := { s with
    geometry := g
    geometryValid := true
    feed := { s.feed with edges := edges }
    temp := { s.temp with heldLogs := min s.temp.heldLogs g.tempHoldLimit }
    arbiter := { s.arbiter with slots := slotsFor g s.supply.level } }
  (allArms.foldl State.newRelease s.elevateAged).arbitrate

/-! ### The memory's link (R192) -/

/-- A 16-bit address as it is sent, high byte first (R192). -/
def addressBytes (a : Nat) : List Byte := [BitVec.ofNat 8 (a / 256), BitVec.ofNat 8 a]

/-- The bytes sent for a command while CFG_CS is active (R192). -/
def MemoryCommand.sent : MemoryCommand → List Byte
  | .statusRead => [0x05#8]
  | .writeEnable => [0x06#8]
  | .read a => 0x03#8 :: addressBytes a
  | .write a bs => 0x02#8 :: (addressBytes a ++ bs)

/-- A status byte shows the memory ready: bit 0 clear, and the byte is not 0xFF, which is no answer (R192). -/
def statusReady (status : Byte) : Bool := status != 0xFF#8 && !status.getLsbD 0

/-- The bytes a memory holds of those sent: at the worn cells, others. -/
def applyWorn (sent : List Byte) (worn : List (Nat × Byte)) : List Byte :=
  worn.foldl (fun bs c => bs.set c.1 c.2) sent

/-- What the memory holds after the bytes of one command: a write puts its bytes from its address on, but for the worn cells (R192,
log 21). -/
def Memory.took (worn : List (Nat × Byte)) (m : Memory) (sent : List Byte) : Memory :=
  match sent with
  | code :: hi :: lo :: bytes => if code = 0x02#8 then m.writeBytes (256 * hi.toNat + lo.toNat) (applyWorn bytes worn) else m
  | _ => m

/-- What the memory returns to a read while CFG_CS stays active for `n` bytes: those of successive addresses (R192). -/
def Memory.returned (m : Memory) (sent : List Byte) (n : Nat) : List Byte :=
  match sent with
  | [code, hi, lo] => if code = 0x03#8 then m.readBytes (256 * hi.toNat + lo.toNat) n else []
  | _ => []

/-- The commands of a write: write enable before it, and the status read that is repeated until the memory is ready (R192). -/
def writeCommands (a : Nat) (bs : List Byte) : List MemoryCommand := [.writeEnable, .write a bs, .statusRead]

/-- Commands are sent to the memory, one after another. -/
def State.sendAll (s : State) (worn : List (Nat × Byte)) (cs : List MemoryCommand) : State :=
  { s with eeprom := cs.foldl (fun m c => m.took worn c.sent) s.eeprom }

/-- One read of `n` bytes from an address (R192). -/
def State.readMemory (s : State) (a n : Nat) : List Byte := s.eeprom.returned (MemoryCommand.read a).sent n

/-! ### The configuration image (R191) -/

/-- Bytes of a page. -/
def pageSize : Nat := 64

/-- The image marker. -/
def imageMarker : Word := 0x4B41#16

/-- The image length. -/
def imageLength : Word := 2176#16

/-- The time the memory has for a page or a transfer: 10 ms (R198, R199). -/
def memoryLimit : Nat := 10

/-- The bytes of page 0: marker, length, check, and its remaining bytes 0 (R191). -/
def headerBytes (check : Word) : List Byte :=
  bytesOfWord imageMarker ++ bytesOfWord imageLength ++ bytesOfWord check ++ List.replicate 58 0

/-- The bytes of a page as a save sends it: the geometry as copied, or the live row at that moment (R191, R197). -/
def State.pageBytes (s : State) (x : Save) (k : Nat) : List Byte :=
  if k = 0 then headerBytes x.sum
  else if k = 1 then x.geometry.take pageSize
  else if k = 2 then x.geometry.drop pageSize
  else (s.row (k - 3)).toBytes

/-- Begin a page: the geometry is copied whole at page 1, and the words of pages 1 to 34 are summed as sent (R197). -/
def State.beginPage (s : State) (x : Save) (k : Nat) : State :=
  let x := if k = 1 then { x with geometry := s.geometry.toBytes } else x
  let sent := s.pageBytes x k
  let x := { x with
    page := some ⟨k, sent, s.now + memoryLimit⟩
    sum := if k = 0 then x.sum else x.sum + sumWords sent }
  { s with cfg := { s.cfg with save := some x } }

/-- A save in flight that is WAITING starts writing when no transfer runs (R197). -/
def State.startSave (s : State) : State :=
  match s.cfg.save with
  | some x => if x.page.isNone && s.cfg.transfer.isNone then s.beginPage x 1 else s
  | none => s

/-- The save closes its ticket; the memory stops being busy and SAVE is raised after the closure (R198). -/
def State.closeSave (s : State) (x : Save) (res : Result) (detail : Nat) (fields : List (Nat × List Byte)) : State :=
  let s := s.closeFrame x.frame x.tag res detail fields
  { s with cfg := { s.cfg with save := none } }.raise .save

/-- The commands by which a page is written, in one write from its first address (R192). -/
def SavePage.commands (p : SavePage) : List MemoryCommand := writeCommands (pageSize * p.index) p.sent

/-- The next act of a save whose page was read back equal: the next page, page 0 last, or the closure DONE (R197, R198). -/
def State.nextPage (s : State) (x : Save) (k : Nat) : State :=
  if k = 0 then s.closeSave x .done 0 [(140, bytesOfWord x.sum)]
  else if k = 34 then s.beginPage x 0
  else s.beginPage x (k + 1)

/-- The memory reports a page written; it is read back in one read and compared with what was sent (R192, R197, R198). The
header-check field of a save closed FAILED is 0, the model's choice: R198 gives it for DONE only (log 37). -/
def State.pageDone (s : State) (x : Save) (p : SavePage) (worn : List (Nat × Byte)) : State :=
  let s := s.sendAll worn p.commands
  if s.readMemory (pageSize * p.index) p.sent.length = p.sent then s.nextPage x p.index
  else s.closeSave x .failed p.index []

/-! ### Interrupted writes (R190, log 7) -/

/-- The bytes a memory holds after a write that did not come to its end: each bit old or new, freely. -/
def mixBytes (n : Nat) (old : List Byte) (new : List Byte) : List Byte :=
  (List.range new.length).map fun k =>
    let m := Config.interruptedWriteMask n k
    ((old.getD k 0) &&& ~~~m) ||| ((new.getD k 0) &&& m)

/-- A write into the configuration memory that did not come to its end. -/
def State.interruptWrite (s : State) (address : Nat) (new : List Byte) : State :=
  { s with
    eeprom := s.eeprom.writeBytes address (mixBytes s.free (s.eeprom.readBytes address new.length) new)
    free := s.free + 1 }

/-- The page of a save that the memory did not report done stops the save (R198). -/
def State.pageTimeout (s : State) (x : Save) (p : SavePage) : State :=
  ((s.interruptWrite (pageSize * p.index) p.sent).closeSave x .failed p.index [])

/-- A reset abandons the page and the transfer that are being written (R190). -/
def State.abandonWrites (s : State) : State :=
  let s := match s.cfg.save.bind Save.page with
    | some p => s.interruptWrite (pageSize * p.index) p.sent
    | none => s
  match s.cfg.transfer with
  | some x => if x.write then s.interruptWrite x.address x.bytes else s
  | none => s

/-! ### The preload (R193, R194) -/

/-- A stored page, by one read of 64 bytes from its first address (R192). -/
def State.storedPage (s : State) (k : Nat) : List Byte := s.readMemory (pageSize * k) pageSize

/-- A little-endian word of a run of bytes. -/
def bytesWord (bs : List Byte) (k : Nat) : Word := wordOf (bs.getD k 0) (bs.getD (k + 1) 0)

/-- The stored geometry block, pages 1 and 2. -/
def State.storedGeometry (s : State) : Geometry :=
  let block := s.storedPage 1 ++ s.storedPage 2
  .ofWords fun k => bytesWord block (2 * k)

/-- The stored row k, one row per page from page 3 on. -/
def State.storedRow (s : State) (k : Nat) : SpeciesRow := .ofBytes (s.storedPage (k + 3))

/-- The sum of the words of pages 1 to 34 as stored. -/
def State.storedSum (s : State) : Word := sumWords ((List.range 34).flatMap fun k => s.storedPage (k + 1))

/-- How the preload ends, and the detail of a GEOMETRY failure (R193). The detail of every other end is 0, the model's choice: R193
gives one for GEOMETRY only (log 36). -/
def State.preloadResult (s : State) : Preload × Nat :=
  let header := s.storedPage 0
  if bytesWord header 0 ≠ imageMarker then (.marker, 0)
  else if bytesWord header 2 ≠ imageLength then (.length, 0)
  else if s.storedSum ≠ bytesWord header 4 then (.check, 0)
  else match s.storedGeometry.firstFailed with
    | some k => (.geometry, k)
    | none => (.good, 0)

/-- The live row that a stored row gives (R89, R90): row 0 falls back to the guard row, another failing row to an empty one. For a
stored row that is both invalid and failing, R89 says "installed invalid as stored" and "with every field 0"; the model's choice is
the empty row (log 31). -/
def installedRow (k : Nat) (x : SpeciesRow) : SpeciesRow :=
  if k = 0 then
    if (rowCheck 0 x).isNone then { x with valid := true } else .guard
  else if (rowCheck k x).isNone then x else .empty

/-- The stored rows are installed at a GOOD preload (R89, R90, R194). -/
def State.installRows (s : State) : State :=
  (List.range 32).foldl (fun t k => t.setRow k (installedRow k (s.storedRow k))) s

/-- The live tables at the end of a preload (the table of R194): a BAD one gives the defaults of the reset, with the slot count
they give (R137). -/
def State.installTables (s : State) (result : Preload) : State :=
  if result = .good then (s.installGeometry s.storedGeometry).installRows
  else { s with
    geometry := .default
    geometryValid := false
    species := speciesReset
    arbiter := { s.arbiter with slots := slotsFor .default s.supply.level } }

/-- The scan timer starts with its first period of n units (R26). -/
def State.startScanTimer (s : State) : State :=
  { s with manifest := { s.manifest with scanTimer := some (s.now + 10 * s.manifest.scanReload) } }

/-! ### The access port (R199) -/

/-- The address CFG_ADDR names: bits 12 to 2 (section 12.2). -/
def portAddress (w : Word) : Nat := (w &&& 0x1FFC#16).toNat

/-- CFG_ADDR as it reads back: address and direction flag (section 12.2). -/
def portWord (w : Word) : Word := w &&& 0x9FFC#16

/-- The direction flag of CFG_ADDR. -/
def portFlag (w : Word) : Bool := w.getLsbD 15

/-- CFG_ADDR with its flag set or cleared. -/
def withFlag (w : Word) (b : Bool) : Word := if b then w ||| 0x8000#16 else w &&& 0x7FFF#16

/-- A CFG_ADDR write is taken when the memory is not busy, and starts a transfer (R199). -/
def State.startTransfer (s : State) (w : Word) : State :=
  let bytes := if portFlag w then bytesOfWord s.cfg.dataLo ++ bytesOfWord s.cfg.dataHi else []
  { s with cfg := { s.cfg with
      addr := portWord w
      fault := false
      transfer := some ⟨portFlag w, portAddress w, bytes, s.now + memoryLimit⟩ } }

/-- A transfer ends: the flag changes, a read leaves two words in the data registers, and a waiting save starts writing
(R197, R199). -/
def State.endTransfer (s : State) (x : Transfer) (lo hi : Word) (fault : Bool) : State :=
  { s with cfg := { s.cfg with
      addr := withFlag s.cfg.addr (!x.write)
      dataLo := if x.write then s.cfg.dataLo else lo
      dataHi := if x.write then s.cfg.dataHi else hi
      fault := fault
      transfer := none } }.startSave

/-- The commands of a transfer: one write of its four bytes, or one read of 4 (R192). -/
def Transfer.commands (x : Transfer) : List MemoryCommand :=
  if x.write then writeCommands x.address x.bytes else [.read x.address]

/-- The memory completes a transfer (R199). -/
def State.transferDone (s : State) (x : Transfer) : State :=
  let s := s.sendAll [] x.commands
  let four := s.readMemory x.address 4
  s.endTransfer x (bytesWord four 0) (bytesWord four 2) s.cfg.fault

/-- The commands the controller has sent to the memory for the work in progress: the preload's first status read, a transfer's, or
those of the page being written (R192, R193, R197, R199). -/
def State.memoryCommands (s : State) : List MemoryCommand :=
  if s.cfg.preload = .running then [.statusRead]
  else match s.cfg.transfer, s.cfg.save.bind Save.page with
    | some x, _ => x.commands
    | none, some p => p.commands
    | none, none => []

/-- The command that a status byte of the memory is, for the work in progress: with the memory ready, that the preload's reads, the write of
a transfer or the page of a save is done. Otherwise, or with nothing written, it is none: the status read is repeated until the memory
is ready or the limit runs out (R192, R193, R197, R199). -/
def State.statusAnswer (s : State) (status : Byte) (worn : List (Nat × Byte)) : Option Instr :=
  if !statusReady status then none
  else if s.cfg.preload = .running then some .preloadEnd
  else match s.cfg.transfer, s.cfg.save.bind Save.page with
    | some x, _ => if x.write then some .accessTransferDone else none
    | none, some _ => some (.savePageDone worn)
    | none, none => none

/-- The memory does not complete a transfer in time (R199); a write leaves its bytes open (log 7). -/
def State.transferTimeout (s : State) (x : Transfer) : State :=
  let s := if x.write then s.interruptWrite x.address x.bytes else s
  s.endTransfer x 0xFFFF#16 0xFFFF#16 true

end Sys2Proof.Machine
end

