-- ==== Sys2Proof/Machine/Binding.lean ====
section
/-! DEFINITION. The Transit Tracker's head and tail events (chapter 3): creating and binding a record, its temperature class, its
classification at the tail, and the hand-over of the tail to the rotors (R71). -/

namespace Sys2Proof.Machine

/-! ### The head event (R44 to R50, R58) -/

/-- The predecessor relation of a new record with this head, from the record before it (R65). -/
def State.relationTo (s : State) (head : Pos) (a : Option Record) : Relation :=
  match a with
  | none => .apart
  | some a =>
    match a.tail with
    | none => .apart
    | some tail =>
      let gap := posDiff head tail
      match a.kind with
      | .stub => if gap < s.geometry.entryLead then .stubBehind else .apart
      | .log | .orphan =>
        if gap < s.geometry.jointGap then .joint
        else if gap < s.geometry.entryLead then .close
        else .apart

/-- A record's fields for a rotor at its creation (R63). -/
def RotorView.initial : RotorView := ⟨.approach, false, false, 0, 0, 0, none, 0⟩

/-- A new record bound to no ticket: an ORPHAN on the guard row (R48, R63). -/
def State.orphanRecord (s : State) (t : Tag) (head : Pos) : Record where
  tag := t
  kind := .orphan
  frame := none
  hostTag := none
  row := some (s.row 0)
  rowUsed := 0
  tempClass := none
  reading := none
  latched := none
  frozenFlag := .unflagged
  orientation := .buttFirst
  noLearn := true
  expected := none
  working := s.geometry.maxLogLength
  head := head
  tail := none
  measured := none
  stations := [⟨0, s.geometry.guardDiameter⟩]
  relation := s.relationTo head s.queue.getLast?
  view1 := .initial
  view2 := .initial
  stall := false
  rotorDown := false
  lengthMismatch := false
  profileFault := none
  tempHeld := false
  tempUnknown := false
  provisional := true
  outfeed := .inMachine

/-- What a record takes from the LOG ticket it is bound to, whatever its field check says (R45, R47). -/
def Record.bindTicket (q : Record) (e : StagedTicket) : Record :=
  { q with
    kind := .log
    frame := some e.frame
    hostTag := some e.tag
    orientation := logOrientation e.area
    frozenFlag := logFrozenFlag e.area
    noLearn := logNoLearn e.area }

/-- The binding of a new record (R45, R47, R48): to the LOG ticket at the head with its own values or with guard values, or
to none. -/
def State.boundRecord (s : State) (t : Tag) (head : Pos) : Record :=
  let q := s.orphanRecord t head
  match s.manifest.staged with
  | e :: _ =>
    if e.kind = .log then
      match e.check with
      | .failed why => { q.bindTicket e with profileFault := some why }
      | .passed | .notMade =>
        { q.bindTicket e with
          row := some (s.row (logSpecies e.area))
          rowUsed := logSpecies e.area
          expected := some (logExpected e.area)
          working := logExpected e.area
          stations := logStations e.area }
    else q
  | [] => q

/-- The head of the staged queue is a LOG ticket. -/
def State.headIsLog (s : State) : Bool :=
  match s.manifest.staged with
  | e :: _ => e.kind == .log
  | [] => false

/-- The frozen threshold comparison: a reading at or below the threshold is FROZEN (R50). -/
def frozenBy (g : Geometry) (reading : Int) : TempClass := if reading ≤ g.frozenThreshold then .frozen else .thawed

/-- The temperature class of a new record, from its frozen flag and the temperature state (the table of R50). -/
def State.classed (s : State) (q : Record) : Record :=
  let q := { q with latched := s.temp.latest }
  match q.frozenFlag with
  | .frozen => { q with tempClass := some .frozen, reading := s.temp.latest }
  | .thawed => { q with tempClass := some .thawed, reading := s.temp.latest }
  | .unflagged =>
    match s.temp.latest with
    | some v => { q with tempClass := some (frozenBy s.geometry v), reading := some v }
    | none =>
      match s.temp.lastValid with
      | some v =>
        if s.temp.heldLogs < s.geometry.tempHoldLimit then
          { q with tempClass := some (frozenBy s.geometry v), reading := some v, tempHeld := true }
        else { q with tempClass := some .thawed, reading := none, tempUnknown := true }
      | none => { q with tempClass := some .thawed, reading := none, tempUnknown := true }

/-- The held-log count rises where the table of R50 says so: the record used the last valid reading. -/
def Temperature.hold (x : Temperature) (q : Record) : Temperature :=
  if q.tempHeld then { x with heldLogs := x.heldLogs + 1 } else x

/-- A rotor at which the new record is current at once arms its lift mark (R66). -/
def State.armIfCurrent (s : State) (r : RotorId) (q : Record) : State :=
  match s.current? r with
  | some c => if c.tag = q.tag then s.armLift State.arming r q else s
  | none => s

/-- A record is created at a head position with a free tag, bound, classed and appended (R44). -/
def State.createRecord (s : State) (t : Tag) (head : Pos) : State :=
  let q := s.classed (s.boundRecord t head)
  let s := if s.headIsLog then s.bindHead true else s
  let s := { s with queue := s.queue ++ [q], temp := s.temp.hold q }
  let s := if s.queue.length ≥ maxRecords then s.putHold .transitFull true else s
  (s.armIfCurrent .r1 q).armIfCurrent .r2 q

/-- A head event's call for a scan, taken after the binding: the staged queue is empty (R25). -/
def State.headScan (s : State) : State := if s.manifest.staged.isEmpty then s.requestScan else s

/-- A head event reaches the Transit Tracker and the Manifest Reader (R44, R58). -/
def State.headEvent (s : State) (head : Pos) : State :=
  match s.mode with
  | .run | .hold =>
    if s.queue.length < maxRecords then
      match s.freeTag with
      | some t => (s.createRecord t head).headScan
      | none => s.headScan
    else (s.trackFault .queueFull).headScan
  | .config | .service =>
    { s with counters := { s.counters with unworked := s.counters.unworked + 1 } }.headScan

/-! ### The tail event (R51 to R56, R71, R79) -/

/-- A record demoted to a stub gives up what R52 lists; it keeps its tag, head, tail and measured length. -/
def Record.demote (q : Record) : Record :=
  { q with
    kind := .stub
    frame := none
    hostTag := none
    row := none
    stations := []
    expected := none
    tempClass := none
    profileFault := none
    tempHeld := false
    tempUnknown := false }

/-- The tail of the newest record, its measured length, and the working length that becomes it (R51, R53, R54, R71). -/
def Record.withTail (q : Record) (tail : Pos) : Record :=
  let n := (posDiff tail q.head).toNat
  { q with tail := some tail, measured := some n, working := n, provisional := false }

/-- The measured length lies outside "length tolerance" of the expected length (R55). -/
def lengthOff (g : Geometry) (q : Record) : Bool :=
  match q.expected, q.measured with
  | some e, some m => decide ((g.lengthTolerance : Int) < (((m : Int) - e).natAbs : Int))
  | _, _ => false

/-- Replace the record with the same tag. -/
def State.putRecord (s : State) (q : Record) : State := s.updRecord q.tag fun _ => q

/-- A LOG record is confirmed: the length mismatch check is made, and its ticket leaves the staged queue (R53, R55). -/
def State.confirmLog (s : State) (q : Record) : State :=
  let off := lengthOff s.geometry q
  let s := s.putRecord { q with lengthMismatch := q.lengthMismatch || off }
  let s := if off then { s with counters := { s.counters with mismatches := s.counters.mismatches + 1 } } else s
  s.departHead

/-- The record is classified by its measured length (R51): demoted (R52), confirmed (R53) or confirmed as an orphan (R54). -/
def State.classify (s : State) (q : Record) : State :=
  if q.working < s.geometry.stubLimit then
    let s := if q.frame.isSome then s.bindHead false else s
    { s with counters := { s.counters with stubs := s.counters.stubs + 1 } }.putRecord q.demote
  else match q.kind with
    | .log => s.confirmLog q
    | .orphan =>
      ({ s with counters := { s.counters with orphans := s.counters.orphans + 1 } }.putRecord q).raise .orphan
    | .stub => s.putRecord q

/-- A stub handed over in LIFT: arms not OUT that are not OPEN at or LIFTING to "maximum aperture" are asked for it (R71). -/
def State.reliftForStub (t : Tag) (s : State) (a : ArmId) : State :=
  let c := s.arm a
  if (c.state = .opened ∨ c.state = .lifting) ∧ c.aperture = s.geometry.maxAperture then s
  else s.liftInService s.geometry.maxAperture (some t) a

/-- The record is the rotor's current one. -/
def State.isCurrent (s : State) (r : RotorId) (t : Tag) : Bool :=
  match s.current? r with
  | some c => c.tag == t
  | none => false

/-- The tail of a record is handed to one rotor (the table of R71). -/
def State.handOver (s : State) (r : RotorId) (q : Record) : State :=
  match q.phase r, q.kind with
  | .lift, .stub =>
    let s := (armsOf r).foldl (State.reliftForStub q.tag) s
    if s.isCurrent r q.tag then s.armFirst State.arming r q else s
  | .entry, .log | .entry, .orphan =>
    match s.skipsBody r q with
    | some p => s.arming (clientOf r) q.tag .release p
    | none => s
  | .body, .log | .body, .orphan => s.armNearest State.arming r q
  | _, _ => s

/-- The hand-over to both rotors of the record as it now stands (R56). -/
def State.handOverBoth (s : State) (t : Tag) : State :=
  match s.record? t with
  | some q => ((s.handOver .r1 q).handOver .r2 q).arbitrate
  | none => s

/-- A tail event reaches the Transit Tracker for the newest record (R51): classification, hand-over (R56), outfeed mark (R79); the
order of the last two is the model's (log 3). -/
def State.tailEvent (s : State) (tail : Pos) : State :=
  match s.queue.getLast? with
  | none => s
  | some q =>
    let s := (s.classify (q.withTail tail)).handOverBoth q.tag
    s.arming .transit q.tag .outfeed (posAdd tail s.geometry.d3)

end Sys2Proof.Machine
end

