-- ==== Sys2Proof/Machine/Tracker.lean ====
section
/-! DEFINITION. The Feed Tracker (chapter 1): steps of the feed position, the eyes, the travel faults, standstill. -/

namespace Sys2Proof.Machine

/-! ### The eyes (R4) -/

/-- One sample of an eye at a new-peak step: the eye after it, and the declaration it makes with its edge position (the
table of R4). -/
def Eye.sample (e : Eye) (raw : EyeLevel) (position : Pos) (debounce : Nat) : Eye × Option (EyeLevel × Pos) :=
  match e.change with
  | none => if raw = e.declared then (e, none) else ({ e with change := some position }, none)
  | some edge =>
    if raw = e.declared then ({ e with change := none }, none)
    else if posDiff position edge < debounce then (e, none)
    else (⟨raw, none⟩, some (raw, edge))

/-- Abandon the open change (R2, R3). -/
def Eye.abandon (e : Eye) : Eye := { e with change := none }

/-- Re-base: the peak becomes the position and open changes are abandoned (R2, R3). -/
def Feed.rebase (f : Feed) : Feed :=
  { f with peak := f.position, eyeIn := f.eyeIn.abandon, eyeOut := f.eyeOut.abandon }

/-- The reverse travel: the signed difference of peak and position (R2). -/
def Feed.reverseTravel (f : Feed) : Int := posDiff f.peak f.position

/-- The mode is RUN or HOLD. -/
def Mode.works : Mode → Bool
  | .run | .hold => true
  | .config | .service => false

/-! ### The infeed eye (R5 to R7) -/

/-- The infeed eye is declared BLOCKED at an edge position: a blockage begins (R5). -/
def State.infeedBlocked (s : State) (edge : Pos) : State :=
  let worked := s.mode.works && !s.latch
  let s := { s with feed := { s.feed with blockage := some ⟨worked, some edge⟩ } }
  if s.latch then s else s.headEvent edge

/-- The infeed eye is declared CLEAR at an edge position: the blockage ends, with a tail event if it is worked (R6). -/
def State.infeedClear (s : State) (edge : Pos) : State :=
  let worked := match s.feed.blockage with
    | some b => b.worked
    | none => false
  let s := { s with feed := { s.feed with blockage := none } }
  if worked then s.tailEvent edge else s

/-- Sample the infeed eye and take the declaration it makes. -/
def State.sampleInfeed (s : State) : State :=
  let x := s.feed.eyeIn.sample s.pins.eyeIn s.feed.position s.geometry.eyeDebounce
  let s := { s with feed := { s.feed with eyeIn := x.1 } }
  match x.2 with
  | some (.blocked, edge) => s.infeedBlocked edge
  | some (.clear, edge) => s.infeedClear edge
  | none => s

/-- The overlong check: a worked blockage with no open CLEAR change that has reached "maximum log length" (R7). It is made after the sample
of the step, so the step whose sample abandons a CLEAR change makes it already; R7's last words on it, that after an abandoned change it is
made again at the next new-peak step, the model reads of the steps that follow: its own reading (log 38). -/
def State.overlong (s : State) : Bool :=
  match s.feed.blockage with
  | some ⟨true, some head⟩ =>
    s.feed.eyeIn.change.isNone && decide ((s.geometry.maxLogLength : Int) ≤ posDiff s.feed.position head)
  | _ => false

/-- The overlong check raises a travel fault, which makes the blockage unworked (R7). -/
def State.checkOverlong (s : State) : State := if s.overlong then s.trackFault .overlong else s

/-! ### The outfeed eye (R9, R10) -/

/-- The outfeed position check against the oldest IN_MACHINE record (R10). -/
def State.checkOutfeed (s : State) (edge : Pos) : State :=
  match s.queue.find? fun q => q.outfeed == .inMachine with
  | none => s
  | some q =>
    if (posDiff edge (posAdd q.head s.geometry.d3)).natAbs ≤ s.geometry.outfeedTolerance then s
    else s.trackFault .slip

/-- Sample the outfeed eye and take the declaration it makes (R9). -/
def State.sampleOutfeed (s : State) : State :=
  let x := s.feed.eyeOut.sample s.pins.eyeOut s.feed.position s.geometry.eyeDebounce
  let s := { s with feed := { s.feed with eyeOut := x.1 } }
  match x.2 with
  | some (.blocked, edge) => if s.mode.works then s.checkOutfeed edge else s
  | _ => s

/-! ### Steps of the feed position (R1 to R3) -/

/-- A new-peak step (R2): the eyes are sampled, the overlong check is made, and the marks that were armed ahead and are now reached
fire. The order of the three (log 3), and the overlong check at the step whose sample abandons a CLEAR change (log 38), are the model's. A
mark armed at a point already reached fires when it is armed (R12). -/
def State.newPeakStep (s : State) : State :=
  let s := { s with feed := { s.feed with peak := s.feed.position } }
  State.fireMarks markFuel (s.sampleInfeed.checkOverlong.sampleOutfeed)

/-- A forward step (R1, R2). -/
def State.forwardStep (s : State) : State :=
  let s := { s with feed := { s.feed with position := s.feed.position + 1 } }
  if 0 < posDiff s.feed.position s.feed.peak then s.newPeakStep else s

/-- The reverse travel has passed "reverse limit" in RUN or HOLD: re-base, and a travel fault unless the latch is set
(R3). -/
def State.reverseBeyond (s : State) : State :=
  let s := { s with feed := s.feed.rebase }
  if s.latch then s else s.trackFault .reverse

/-- A reverse step (R1 to R3). -/
def State.reverseStep (s : State) : State :=
  let s := { s with feed := { s.feed with position := s.feed.position - 1 } }
  if s.mode.works then
    if (s.geometry.reverseLimit : Int) < s.feed.reverseTravel then s.reverseBeyond else s
  else { s with feed := s.feed.rebase }

/-- A forward edge raises the edge count; at "encoder resolution" it is a forward step (R1). -/
def State.forwardEdge (s : State) : State :=
  if s.feed.edges + 1 < s.geometry.encoderResolution then
    { s with feed := { s.feed with edges := s.feed.edges + 1 } }
  else { s with feed := { s.feed with edges := 0 } }.forwardStep

/-- A reverse edge lowers the edge count; below 0 it is a reverse step (R1). -/
def State.reverseEdge (s : State) : State :=
  if s.feed.edges = 0 then
    { s with feed := { s.feed with edges := s.geometry.encoderResolution - 1 } }.reverseStep
  else { s with feed := { s.feed with edges := s.feed.edges - 1 } }

/-! ### Motion (R14, R15, R166) -/

/-- Flag STALL on every record under the tools of either rotor (R166). -/
def State.flagStall (s : State) : State :=
  s.mapQueue fun q => if underTools .r1 q || underTools .r2 q then { q with stall := true } else q

/-- Entry to STANDSTILL: the stall window stops, STALL is flagged, and every ENGAGED arm is recomputed (R14, R105, R166). -/
def State.beginStandstill (s : State) : State :=
  let s := { s with feed := { s.feed with motion := .standstill, stall := none } }
  (s.flagStall.recomputeAll allArms true (.fixed .normal)).arbitrate

/-- The end of standstill at a counted edge: every ENGAGED arm is recomputed (R15, R105). -/
def State.endStandstill (s : State) : State :=
  let s := { s with feed := { s.feed with motion := .moving } }
  (s.recomputeAll allArms true (.fixed .low)).arbitrate

/-- A counted edge ends standstill if feed-run is active (R15), and starts or restarts the stall window while it runs
(R14). -/
def State.countMotion (s : State) : State :=
  if s.pins.feedRun then
    let s := if s.feed.motion = .standstill then s.endStandstill else s
    { s with feed := { s.feed with stall := some (s.now + s.geometry.stallWindow) } }
  else s

end Sys2Proof.Machine
end

