-- ==== Sys2Proof/Machine/Tickets.lean ====
section
/-! DEFINITION. What the ticket at the head of the staged queue does when it is taken up (R31), kind by kind. -/

namespace Sys2Proof.Machine

/-- The ticket is closed or rejected, and leaves the head (R31, R33, R36). -/
def State.finishHead (s : State) (e : StagedTicket) (res : Result) (detail : Nat) (fields : List (Nat × List Byte)) :
    State :=
  (s.closeFrame e.frame e.tag res detail fields).departHead

/-! ### SYNC (R35) -/

/-- The outcome of a SYNC: the counters with this closure, the records in the transit queue, and the staged entries after the
SYNC has left (R35). -/
def State.syncOutcome (s : State) : List (Nat × List Byte) :=
  let k := s.counters.finish .done
  [(140, bytesOfWord k.closures), (142, bytesOfWord k.rejections), (144, bytesOfWord k.orphans),
   (146, bytesOfWord k.stubs), (148, bytesOfWord k.mismatches), (150, bytesOfWord k.discarded),
   (152, bytesOfWord k.unworked), (154, byteN s.queue.length), (155, byteN (s.manifest.staged.length - 1))]

/-- A SYNC ticket is closed at once (R35). -/
def State.takeSync (s : State) (e : StagedTicket) : State := s.finishHead e .done 0 s.syncOutcome

/-! ### SPECIES (R92, R93) -/

/-- The row a SPECIES ticket carries. -/
def ticketRow (area : List Byte) : SpeciesRow := .ofBytes (areaBytes area 12 64)

/-- A row's trim cells under a ticket's handling: CLEAR, LOAD, or KEEP clamped into the new limit (R93). -/
def handledTrim (handling : Word) (limit : Nat) (live ticket : Int) : Int :=
  if handling = 1 then 0 else if handling = 2 then ticket else clampTrim limit live

/-- The live row a SPECIES ticket writes (R93). -/
def speciesWrite (k : Nat) (handling : Word) (live ticket : SpeciesRow) : SpeciesRow :=
  { ticket with
    valid := ticket.valid || k == 0
    trimFrozen := handledTrim handling ticket.trimLimit live.trimFrozen ticket.trimFrozen
    trimThawed := handledTrim handling ticket.trimLimit live.trimThawed ticket.trimThawed }

/-- KEEP had to clamp a cell (R93). -/
def keepClamped (handling : Word) (limit : Nat) (live : SpeciesRow) : Bool :=
  handling != 1 && handling != 2
    && (clampTrim limit live.trimFrozen != live.trimFrozen || clampTrim limit live.trimThawed != live.trimThawed)

/-- Row k of the species image, frames 243 to 250 (R109, R207). -/
def imageAddr (k : Nat) : Nat := frameAddr 243 0 + 64 * k

/-- The Setpoint Unit rewrites a row in the species image (R93, R109). -/
def State.rewriteImageRow (s : State) (k : Nat) : State :=
  { s with ram := s.ram.writeBytes (imageAddr k) (s.row k).fieldBytes }

/-- The outcome of a SPECIES ticket (R93). -/
def speciesOutcome (k : Nat) (row : SpeciesRow) (clamped : Bool) : List (Nat × List Byte) :=
  [(140, byteN k), (141, byteN (bit row.valid 0)), (142, byteI row.trimFrozen), (143, byteI row.trimThawed),
   (144, byteN (bit clamped 0))]

/-- A SPECIES ticket is checked and carried out (R92, R93). -/
def State.takeSpecies (s : State) (e : StagedTicket) : State :=
  let k := (areaWord e.area 8).toNat
  let handling := areaWord e.area 10
  let ticket := ticketRow e.area
  match rowCheck k ticket with
  | some n => s.finishHead e .field n []
  | none =>
    let live := s.row k
    let row := speciesWrite k handling live ticket
    let s := (s.setRow k row).rewriteImageRow k
    s.finishHead e .done 0 (speciesOutcome k row (keepClamped handling ticket.trimLimit live))

/-! ### TRIM (R183, R184) -/

/-- The first check of R183 that fails. -/
def State.trimCheck (s : State) (action k : Nat) (frozen thawed : Int) : Option Nat :=
  if action ≠ 1 ∧ action ≠ 2 then some 1
  else if action = 1 ∧ 31 < k then some 2
  else if action = 1 ∧ ¬(withinTrim (s.row k).trimLimit frozen ∧ withinTrim (s.row k).trimLimit thawed) then some 3
  else if action = 1 ∧ k = 0 ∧ ¬(frozen = 0 ∧ thawed = 0) then some 4
  else none

/-- A row with both trim cells replaced. -/
def SpeciesRow.withTrims (x : SpeciesRow) (frozen thawed : Int) : SpeciesRow :=
  { x with trimFrozen := frozen, trimThawed := thawed }

/-- The number of rows whose cells a CLEAR_ALL changes (R184). -/
def State.trimmedRows (s : State) : Nat :=
  ((List.range 32).filter fun k => (s.row k).trimFrozen != 0 || (s.row k).trimThawed != 0).length

/-- CLEAR_ALL sets both cells of every row to 0 (R184). -/
def State.clearTrims (s : State) : State :=
  (List.range 32).foldl (fun t k => t.setRow k ((t.row k).withTrims 0 0)) s

/-- A TRIM ticket is checked and carried out (R183, R184). -/
def State.takeTrim (s : State) (e : StagedTicket) : State :=
  let action := (areaWord e.area 8).toNat
  let k := (areaWord e.area 10).toNat
  let frozen := (areaWord e.area 12).toInt
  let thawed := (areaWord e.area 14).toInt
  match s.trimCheck action k frozen thawed with
  | some n => s.finishHead e .field n []
  | none =>
    if action = 1 then
      (s.setRow k ((s.row k).withTrims frozen thawed)).finishHead e .done 0
        [(140, byteN 1), (141, byteN k), (142, byteI frozen), (143, byteI thawed)]
    else
      s.clearTrims.finishHead e .done 0 [(140, byteN 2), (144, byteN s.trimmedRows)]

/-! ### ARM (R130, R131) -/

/-- The outcome of an ARM ticket: the arm as it stands after the ticket (R131). The request's action has two bytes and the outcome's one:
of a refused ticket's action above 255 the field holds the low byte, the model's choice (R206; log 13). -/
def armOutcome (rotor index action : Nat) (c : Arm) : List (Nat × List Byte) :=
  [(140, byteN rotor), (141, byteN index), (142, byteN action), (143, byteN c.state.code),
   (144, byteN (outCauseCode c.outCause)), (145, byteN (bit c.returnPending 0)), (146, byteN (bit c.present 0))]

/-- A RETURN that passes its checks (R131): at once to an idle rotor with the latch clear, else return-pending. -/
def State.returnArm (s : State) (a : ArmId) : State :=
  if (s.arm a).state ≠ .out then s
  else if (s.current? (rotorOf a)).isNone && !s.latch then ((s.returnToStandby a).startPark (rotorOf a)).arbitrate
  else s.updArm a fun c => { c with returnPending := true }

/-- The first check of R130 that fails for an arm that exists: the action, then the presence of a returning arm. -/
def armCheck (action : Nat) (c : Arm) : Option Nat :=
  if action ≠ 1 ∧ action ≠ 2 then some 2
  else if action = 2 ∧ !c.present then some 3
  else none

/-- What an ARM ticket that passes does to the arm: OUT with cause BY_TICKET, or RETURN (R130, R131). -/
def State.armAction (s : State) (a : ArmId) (action : Nat) : State :=
  if action = 1 then (s.putOut a .byTicket).arbitrate else s.returnArm a

/-- The outcome of an ARM ticket that names no arm: the rotor, index and action it carries. That the fields of an arm are 0, and that of a
rotor, index or action above 255 its one-byte field holds the low byte, are the model's choices (R131, R206; log 13). -/
def noArmOutcome (rotor index action : Nat) : List (Nat × List Byte) :=
  [(140, byteN rotor), (141, byteN index), (142, byteN action)]

/-- An ARM ticket is checked and carried out (R130, R131); a refused one has its kind-specific fields too (R206). -/
def State.takeArm (s : State) (e : StagedTicket) : State :=
  let rotor := (areaWord e.area 8).toNat
  let index := (areaWord e.area 10).toNat
  let action := (areaWord e.area 12).toNat
  match armOf rotor index with
  | none => s.finishHead e .field 1 (noArmOutcome rotor index action)
  | some a =>
    match armCheck action (s.arm a) with
    | some n => s.finishHead e .field n (armOutcome rotor index action (s.arm a))
    | none =>
      let t := s.armAction a action
      t.finishHead e .done 0 (armOutcome rotor index action (t.arm a))

/-! ### GEOMETRY (R195, R196) -/

/-- The geometry a GEOMETRY ticket carries. -/
def ticketGeometry (area : List Byte) : Geometry := .ofWords fun k => areaWord area (8 + 2 * k)

/-- A GEOMETRY ticket is checked and carried out, in CONFIG only (R31, R195, R196). -/
def State.takeGeometry (s : State) (e : StagedTicket) : State :=
  if s.mode ≠ .config then s.finishHead e .mode s.mode.code []
  else
    let g := ticketGeometry e.area
    match g.firstFailed with
    | some n =>
      s.finishHead e .field n (match g.firstOutOfRange with
        | some k => [(142, wordN k)]
        | none => [])
    | none => (s.installGeometry g).finishHead e .done 0 [(140, bytesOfWord (sumWords g.toBytes))]

/-! ### SAVE (R31, R197) -/

/-- A SAVE ticket starts the save in flight and leaves the queue without a closure, or is rejected BUSY (R31, R197). -/
def State.takeSave (s : State) (e : StagedTicket) : State :=
  match s.cfg.save with
  | some x => s.finishHead e .busy x.frame []
  | none =>
    let x : Save := { frame := e.frame, tag := e.tag, page := none, sum := 0, geometry := [] }
    ({ s with cfg := { s.cfg with save := some x } }.departHead).startSave

/-! ### Taking up the head (R31) -/

/-- The ticket at the head of the staged queue is taken up; a LOG ticket has its field check made and waits (R31, R32). -/
def State.takeUp (s : State) : State :=
  match s.manifest.staged with
  | [] => s
  | e :: _ =>
    match e.kind with
    | .log => s.checkHead
    | .sync => s.takeSync e
    | .species => s.takeSpecies e
    | .trim => s.takeTrim e
    | .arm => s.takeArm e
    | .geometry => s.takeGeometry e
    | .save => s.takeSave e

end Sys2Proof.Machine
end

