-- ==== Sys2Proof/Machine/Publish.lean ====
section
/-! DEFINITION. Publication (section 12.4): the layouts of the status frame, the transit snapshot, the arm snapshot and the species
image, and the writing of a field when its value changes. -/

namespace Sys2Proof.Machine

/-- A run of bytes at an address of the manifest RAM. -/
abbrev Field := Nat × List Byte

/-! ### The status frame, frame 240 -/

/-- The code of a motion state. -/
def Motion.code : Motion → Nat
  | .moving => 0
  | .standstill => 1

/-- The code of a track fault reason. -/
def TrackReason.code : TrackReason → Nat
  | .noFault => 0
  | .reverse => 1
  | .overlong => 2
  | .slip => 3
  | .queueFull => 4

/-- The hold cause set as published. -/
def HoldCauses.code (h : HoldCauses) : Nat :=
  bit h.lockout 0 + bit h.modeHold 1 + bit h.supplyCritical 2 + bit h.rotor1Down 3 + bit h.rotor2Down 4
    + bit h.rotor1Unusable 5 + bit h.rotor2Unusable 6 + bit h.transitFull 7 + bit h.trackFault 8

/-- The code of a scan end reason. -/
def ScanEnd.code : ScanEnd → Nat
  | .noScan => 0
  | .chainEnd => 1
  | .notPosted => 2
  | .held => 3
  | .linkFault => 4
  | .full => 5

/-- The code of a supply level. -/
def SupplyLevel.code : SupplyLevel → Nat
  | .normal => 0
  | .low => 1
  | .critical => 2

/-- The code of a drive state. -/
def Drive.code : Drive → Nat
  | .down => 0
  | .settling => 1
  | .ready => 2

/-- The code of a usability. -/
def Usability.code : Usability → Nat
  | .full => 0
  | .degraded => 1
  | .unusable => 2

/-- The code of a preload state. -/
def Preload.code : Preload → Nat
  | .running => 0
  | .good => 1
  | .noResponse => 2
  | .marker => 3
  | .length => 4
  | .check => 5
  | .geometry => 6

/-- The code of a discard reason. -/
def Discard.code : Discard → Nat
  | .noDiscard => 0
  | .check => 1
  | .range => 2
  | .gap => 3
  | .framing => 4
  | .unmatched => 5

/-- The code of a save's progress. -/
def saveCode : Option Save → Nat
  | none => 0xFF
  | some x =>
    match x.page with
    | none => 0xFE
    | some p => p.index

/-- The kind and class byte of a request, move or deferred lift. -/
def kindClass (q : FlowRequest) (elevated wake : Bool) : Nat :=
  bit (q.kind == .charge) 0 + 2 * q.cls.rank + bit elevated 3 + bit wake 4

/-- The request, move or deferred lift of a flow state; a deferred lift is an URGENT LIFT (R111). -/
def Flow.request? : Flow → Option FlowRequest
  | .idle => none
  | .waiting q => some q
  | .inFlight q _ _ => some q
  | .deferred aperture wake => some ⟨.lift, aperture, .urgent, wake⟩

/-- The two bytes of an in-flight or wait-list entry: arm, and kind, class and elevated flag (R150). -/
def State.flowEntry (s : State) (a : ArmId) (elevated : Bool) : List Byte :=
  byteN (armCode a) ++ byteN (match (s.arm a).flow.request? with
    | some q => kindClass q elevated false
    | none => 0)

/-- One place of a list: its entry, or 0 beyond the count (R205). -/
def placeBytes (entries : List (List Byte)) (size k : Nat) : List Byte := entries.getD k (List.replicate size 0)

/-- The places of a list, `count` of `size` bytes each from an offset on. -/
def placeFields (entries : List (List Byte)) (size count base : Nat) : List Field :=
  (List.range count).map fun k => (base + size * k, placeBytes entries size k)

/-- The three fields of one rotor from an offset on: drive state, usability, at-speed (R174). -/
def State.rotorFields (s : State) (r : RotorId) (base : Nat) : List Field :=
  [(base, byteN (s.rotor r).drive.code), (base + 1, byteN (usabilityOf (s.activeCount r)).code),
   (base + 2, byteN (bit (s.rotor r).atSpeed 0))]

/-- The tag byte of the latest report: 0xFE UNMATCHED, 0xFF before the first valid report. -/
def reportTag : Option Report → Nat
  | none => 0xFF
  | some x =>
    match x.tag with
    | some t => t.val
    | none => 0xFE

/-- The latest report's residual; 0 before the first valid report (R185, log 22). -/
def reportResidual : Option Report → Nat
  | none => 0
  | some x => x.residual

/-- The latest report's flags; 0 before the first valid report (R185, log 22). -/
def reportFlags : Option Report → Nat
  | none => 0
  | some x => bit x.gouge 0 + bit x.scannerFault 1

/-- Status frame, offsets 0 to 38: Feed Tracker, modes, manifest. -/
def State.statusFieldsA (s : State) : List Field :=
  [(0, bytesOfLong s.feed.position), (4, bytesOfLong s.feed.peak), (8, wordI s.feed.reverseTravel),
   (10, byteN s.feed.motion.code),
   (11, byteN (bit (s.feed.eyeIn.declared == .blocked) 0 + bit (s.feed.eyeOut.declared == .blocked) 1)),
   (12, byteN s.feed.reason.code), (13, byteN (bit s.latch 0 + bit s.feedHold 1)), (14, wordN s.holds.code),
   (16, byteN s.mode.code), (17, byteN (bit s.modeRefused 0)), (18, byteN s.manifest.cursor),
   (19, byteN s.manifest.endReason.code), (20, byteN s.manifest.staged.length),
   (21, byteN (bit ((s.manifest.staged.head?.map fun e => e.bound).getD false) 0))]
    ++ placeFields (s.manifest.staged.map fun e => byteN e.frame) 1 4 22
    ++ [(26, bytesOfWord s.counters.closures), (28, bytesOfWord s.counters.rejections),
        (30, bytesOfWord s.counters.orphans), (32, bytesOfWord s.counters.stubs),
        (34, bytesOfWord s.counters.mismatches), (36, bytesOfWord s.counters.discarded),
        (38, bytesOfWord s.counters.unworked)]

/-- Status frame, offsets 40 to 59: sensors, supply, rotors, slots. -/
def State.statusFieldsB (s : State) : List Field :=
  [(40, byteN (bit s.temp.latest.isNone 0)), (41, byteN s.temp.heldLogs), (42, temperatureBytes s.temp.latest),
   (44, temperatureBytes s.temp.lastValid), (46, wordN (s.supply.latest.getD 0xFFFF)),
   (48, byteN (bit s.supply.latest.isNone 0)), (49, byteN s.supply.level.code), (50, byteN (bit s.supply.fast 0))]
    ++ s.rotorFields .r1 52 ++ s.rotorFields .r2 55
    ++ [(58, byteN s.arbiter.slots), (59, byteN s.arbiter.inFlight.length)]

/-- Status frame, offsets 60 to 98: the arbiter's lists, configuration memory, quality port. The in-flight entries stand in the order
of their grants, the model's choice (R150 gives the set no order: log 33). -/
def State.statusFieldsC (s : State) : List Field :=
  placeFields (s.arbiter.inFlight.map fun a => s.flowEntry a false) 2 4 60
    ++ [(68, byteN s.arbiter.wait.length),
        (69, byteN (bit s.rotor1.protection.isSome 0 + bit s.rotor2.protection.isSome 1))]
    ++ placeFields (s.arbiter.wait.map fun e => s.flowEntry e.arm e.elevated) 2 10 70
    ++ [(90, byteN s.cfg.preload.code), (91, byteN s.cfg.preloadDetail), (92, byteN (bit s.geometryValid 0)),
        (93, byteN (saveCode s.cfg.save)), (94, byteN s.quality.lastDiscard.code),
        (95, byteN (reportTag s.quality.latest)), (96, byteN (reportResidual s.quality.latest)),
        (97, byteN (reportFlags s.quality.latest)), (98, byteN s.supply.level.code)]

/-- The fields of the status frame by offset (section 12.5). -/
def State.statusFields (s : State) : List Field := s.statusFieldsA ++ s.statusFieldsB ++ s.statusFieldsC

/-! ### The transit snapshot, frame 241 -/

/-- Flags of a snapshot entry: bits 0 to 5 as the LOG outcome, bit 9 PROVISIONAL, bit 10 tail known. -/
def Record.snapshotFlags (q : Record) : Nat := q.flagBits + bit q.provisional 9 + bit q.tail.isSome 10

/-- Bytes 0 to 19 of a record's entry; its rotors' blocks follow at 20 and 28. -/
def Record.headBytes (q : Record) : List Byte :=
  byteN q.tag.val ++ byteN q.kind.code ++ byteN (q.frame.getD 0)
    ++ byteN (bit (q.outfeed == .awaitReport) 0) ++ bytesOfWord (q.hostTag.getD 0)
    ++ byteN (tempClassCode q.tempClass) ++ byteN q.relation.code ++ wordN q.snapshotFlags ++ bytesOfLong q.head
    ++ bytesOfLong (q.tail.getD 0) ++ wordN q.working

/-- One part of the record entries, `size` bytes at an offset of each 40-byte place; places beyond the count read 0. -/
def State.recordPart (s : State) (part : Record → List Byte) (size offset : Nat) : List Field :=
  (List.range 6).map fun k => (8 + 40 * k + offset, placeBytes (s.queue.map part) size k)

/-- The record entries, 40 bytes apart from offset 8: the head part and the two rotors' blocks of 7 bytes; bytes 27 and 35 and
those after them are unused. -/
def State.recordFields (s : State) : List Field :=
  s.recordPart Record.headBytes 20 0 ++ s.recordPart (fun q => q.view1.bytes) 7 20
    ++ s.recordPart (fun q => q.view2.bytes) 7 28

/-- Bytes 0 to 5: count, current and next tags of each rotor, park timers. -/
def State.transitHeader (s : State) : List Field :=
  [(0, byteN s.queue.length),
   (1, byteN (tagCode ((s.current? .r1).map fun q => q.tag))), (2, byteN (tagCode ((s.next? .r1).map fun q => q.tag))),
   (3, byteN (tagCode ((s.current? .r2).map fun q => q.tag))), (4, byteN (tagCode ((s.next? .r2).map fun q => q.tag))),
   (5, byteN (bit s.rotor1.park.isSome 0 + bit s.rotor2.park.isSome 1))]

/-! ### The arm snapshot, frame 242 -/

/-- The 18 bytes of an arm's entry. While the flow state is NONE the kind-and-class byte and the value are 0, the model's choice: the
spec gives no code for them (R134, R207; log 32). -/
def Arm.entryBytes (c : Arm) : List Byte :=
  byteN c.state.code ++ byteN (outCauseCode c.outCause)
    ++ byteN (bit c.returnPending 0 + bit c.inserted 1 + bit c.present 2 + bit c.relief 3)
    ++ byteN (tagCode c.tag) ++ wordN c.commanded ++ wordN c.target ++ wordN c.aperture
    ++ byteN (match c.flow with
        | .idle => 0
        | .waiting _ => 1
        | .inFlight _ _ _ => 2
        | .deferred _ _ => 3)
    ++ (match c.flow.request? with
        | some q => byteN (kindClass q false q.wake) ++ wordN q.value
        | none => [0, 0, 0])
    ++ byteN (bit c.monitor.counting 0) ++ byteN c.monitor.counter ++ byteN c.charges ++ byteN c.vents

/-- Bytes 0 and 1 hold the active arm counts; the entries follow, 24 bytes apart from offset 16. -/
def State.armFields (s : State) : List Field :=
  [(0, byteN (s.activeCount .r1)), (1, byteN (s.activeCount .r2))]
    ++ allArms.map fun a => (16 + 24 * (armCode a - 1), (s.arm a).entryBytes)

/-! ### Writing (R205) -/

/-- The fields moved to a frame. -/
def atFrame (f : Nat) (fs : List Field) : List Field := fs.map fun x => (frameAddr f x.1, x.2)

/-- The published groups, each written whole when a byte of it changes: fields of the status frame and of the snapshot's
header, all record entries together, each arm's entry, each row of the image (R20, R134, R205). -/
def State.groups (s : State) : List (List Field) :=
  (atFrame 240 s.statusFields).map (fun x => [x])
    ++ (atFrame 241 s.transitHeader).map (fun x => [x])
    ++ [atFrame 241 s.recordFields]
    ++ (atFrame 242 s.armFields).map (fun x => [x])
    ++ (List.range 32).map fun k => [(imageAddr k, (s.row k).fieldBytes)]

/-- Write fields into the manifest RAM. -/
def writeFields (m : Memory) (fs : List Field) : Memory := fs.foldl (fun m x => m.writeBytes x.1 x.2) m

/-- The part publishes from the end of the preload on, and not while a reset is held (R40, R194). -/
def State.publishes (s : State) : Bool := s.cfg.preload != .running && s.resetHeld.isNone

/-- Write the groups that changed. -/
def writeChanged : Memory → List (List Field) → List (List Field) → Memory
  | m, x :: xs, y :: ys => writeChanged (if x = y then m else writeFields m y) xs ys
  | m, _, _ => m

/-- Frames 240 to 250 in full, the bytes the layouts leave unused 0 (R194, R205). -/
def State.publishedImage (s : State) : List Byte :=
  let fs := s.groups.flatten.map fun x => (x.1 - frameAddr 240 0, x.2)
  packBytes (11 * 256) fs

/-- The frames 240 to 250 are rewritten in full (R194). -/
def State.rewriteAll (s : State) : State :=
  { s with ram := s.ram.writeBytes (frameAddr 240 0) s.publishedImage }

/-- At the end of a step the part has written the fields whose values the step changed (R205, log 12). -/
def publish (old new : State) : State :=
  if new.publishes then
    if old.publishes then { new with ram := writeChanged new.ram old.groups new.groups } else new.rewriteAll
  else new

/-- A command acts on a running part; while a reset is held every block is held in reset and only the commands that say so
act (R190, R201, log 19). -/
def act (s : State) (f : State → State) : Host.Outcome State Fault Refusal :=
  if s.resetHeld.isSome then .next s else .next (publish s (f s))

/-- A command of an input whose level is kept: while a reset is held the pin alone follows (log 19). -/
def actOrPin (s : State) (pin f : State → State) : Host.Outcome State Fault Refusal :=
  if s.resetHeld.isSome then .next (pin s) else .next (publish s (f s))

end Sys2Proof.Machine
end

