-- ==== Sys2Proof/Machine/ArmEvents.lean ====
section
/-! DEFINITION. The commands of the arms and of the arbiter's timers: settled reports, timeouts, elevation, protection, parking and
presence (chapters 4, 6, 7). -/

namespace Sys2Proof.Machine

/-- The arm once its move has completed: a CHARGE counts, a LIFT opens (R117). -/
def Arm.completed (c : Arm) (kind : MoveKind) : Arm :=
  match kind with
  | .charge => { c with flow := .idle, settled := true, charges := satSucc c.charges }
  | .lift => { c with flow := .idle, settled := true, state := .opened }

/-- A completed LIFT with no current record and the latch clear sends the arm to STANDBY (R77, R117). -/
def State.openedIdle (s : State) (a : ArmId) (kind : MoveKind) : State :=
  if kind = .lift ∧ s.current? (rotorOf a) = none ∧ s.latch = false then (s.toStandby a).startPark (rotorOf a) else s

/-- The settled input of an arm becomes active; without a move in flight it changes nothing (R117). -/
def State.settledReport (s : State) (a : ArmId) : State :=
  match (s.arm a).flow with
  | .inFlight q _ _ =>
    let s := (s.leaveFlow a).updArm a fun c => c.completed q.kind
    (s.openedIdle a q.kind).arbitrate
  | _ => s

/-- A move in flight times out (R118). -/
def State.moveExpired (s : State) (a : ArmId) : State :=
  match (s.arm a).flow with
  | .inFlight _ granted timeout =>
    (((s.reachTime (granted + timeout)).putOut a .valveFault).raise .arm).arbitrate
  | _ => s

/-- The wait-list entry of an arm. -/
def State.waitEntry? (s : State) (a : ArmId) : Option WaitEntry := s.arbiter.wait.find? fun e => e.arm == a

/-- The time at which a waiting request that is not elevated reaches the fairness limit of its class; none for URGENT
(R141). -/
def State.elevationTime (s : State) (e : WaitEntry) : Option Nat :=
  if e.elevated then none
  else ((s.waitingClass e.arm).bind (fairnessLimit s.geometry)).map fun limit => e.entered + limit

/-- The request of an arm is elevated when its age reaches the fairness limit of its class (R141). -/
def State.elevate (s : State) (a : ArmId) : State :=
  match (s.waitEntry? a).bind s.elevationTime with
  | some t => ((s.reachTime t).judgeElevation a).arbitrate
  | none => s

/-- A protection timer expires (R143). -/
def State.protectionExpired (s : State) (r : RotorId) : State :=
  match (s.rotor r).protection with
  | some t => ((s.reachTime t).updRotor r fun x => { x with protection := none }).arbitrate
  | none => s

/-- A park timer expires: every STANDBY arm of the rotor goes PARKED (R77, R120). -/
def State.parkExpired (s : State) (r : RotorId) : State :=
  match (s.rotor r).park with
  | some t => (armsOf r).foldl State.park ((s.reachTime t).stopPark r)
  | none => s

/-- Presence changes to ABSENT (R128). -/
def State.presenceLost (s : State) (a : ArmId) : State :=
  if (s.arm a).present then
    let s := s.updArm a fun c => { c with present := false }
    match s.mode with
    | .service => (s.putOut a .removed).arbitrate
    | .run | .hold | .config => ((s.putOut a .presenceLost).raise .arm).arbitrate
  else s

/-- Presence changes to PRESENT (R129). -/
def State.presenceBack (s : State) (a : ArmId) : State :=
  if (s.arm a).present then s
  else
    let s := s.updArm a fun c => { c with present := true }
    if (s.arm a).state = .out then (s.updArm a fun c => { c with inserted := true }).raise .arm else s

/-- MOVE_COMPLETE (R117). -/
def execMoveComplete (a : ArmId) (s : State) : Host.Outcome State Fault Refusal := act s fun s => s.settledReport a

/-- MOVE_TIMEOUT (R118). -/
def execMoveTimeout (a : ArmId) (s : State) : Host.Outcome State Fault Refusal := act s fun s => s.moveExpired a

/-- FAIRNESS_ELEVATION (R141). -/
def execFairnessElevation (a : ArmId) (s : State) : Host.Outcome State Fault Refusal := act s fun s => s.elevate a

/-- PROTECTION_TIMER_EXPIRY (R143). -/
def execProtectionTimerExpiry (r : RotorId) (s : State) : Host.Outcome State Fault Refusal :=
  act s fun s => s.protectionExpired r

/-- PARK_TIMER_EXPIRY (R77). -/
def execParkTimerExpiry (r : RotorId) (s : State) : Host.Outcome State Fault Refusal := act s fun s => s.parkExpired r

/-- PRESENCE_LOSS (R128). -/
def execPresenceLoss (a : ArmId) (s : State) : Host.Outcome State Fault Refusal := act s fun s => s.presenceLost a

/-- PRESENCE_RESTORED (R129). -/
def execPresenceRestored (a : ArmId) (s : State) : Host.Outcome State Fault Refusal := act s fun s => s.presenceBack a

end Sys2Proof.Machine
end

