-- ==== Sys2Proof/Machine/ConfigMemory.lean ====
section
/-! DEFINITION. The commands by which the configuration memory answers: access-port transfers, save pages, the preload (chapter
11). -/

namespace Sys2Proof.Machine

/-- The memory completes the access-port transfer in progress: a read when its bytes arrive, a write when a status byte shows the memory
ready (R192, R199). -/
def State.transferAnswered (s : State) : State :=
  match s.cfg.transfer with
  | some x => s.transferDone x
  | none => s

/-- The transfer in progress is not completed within 10 ms (R199). -/
def State.transferExpired (s : State) : State :=
  match s.cfg.transfer with
  | some x => (s.reachTime x.deadline).transferTimeout x
  | none => s

/-- The memory reports the page of the save written, by a status byte that shows it ready (R192, R197, R198). -/
def State.pageAnswered (s : State) (worn : List (Nat × Byte)) : State :=
  match s.cfg.save with
  | some x =>
    match x.page with
    | some p => s.pageDone x p worn
    | none => s
  | none => s

/-- The page of the save is not reported done within 10 ms (R198). -/
def State.pageExpired (s : State) : State :=
  match s.cfg.save with
  | some x =>
    match x.page with
    | some p => (s.reachTime p.deadline).pageTimeout x p
    | none => s
  | none => s

/-- The preload ends with a result: the tables, the preload state, the PRELOAD cause, the first scan and the scan timer (R193,
R194). -/
def State.endPreload (s : State) (result : Preload) (detail : Nat) : State :=
  let s := { s with cfg := { s.cfg with preload := result, preloadDetail := detail } }
  (((s.installTables result).raise .preload).requestScan).startScanTimer

/-- The memory gives no ready status within 10 ms (R193). -/
def State.preloadUnanswered (s : State) : State :=
  if s.cfg.preload = .running then (s.reachTime s.cfg.preloadDeadline).endPreload .noResponse 0 else s

/-- The memory has shown itself ready, and the reads of the preload are complete and judged (R192, R193). -/
def State.preloadRead (s : State) : State :=
  if s.cfg.preload = .running then s.endPreload s.preloadResult.1 s.preloadResult.2 else s

/-- ACCESS_TRANSFER_DONE (R192, R199). -/
def execAccessTransferDone (s : State) : Host.Outcome State Fault Refusal := act s State.transferAnswered

/-- ACCESS_TRANSFER_TIMEOUT (R199). -/
def execAccessTransferTimeout (s : State) : Host.Outcome State Fault Refusal := act s State.transferExpired

/-- SAVE_PAGE_DONE (R192, R197, R198). -/
def execSavePageDone (worn : List (Nat × Byte)) (s : State) : Host.Outcome State Fault Refusal :=
  act s fun s => s.pageAnswered worn

/-- SAVE_PAGE_TIMEOUT (R198). -/
def execSavePageTimeout (s : State) : Host.Outcome State Fault Refusal := act s State.pageExpired

/-- PRELOAD_NO_RESPONSE (R193, R194). -/
def execPreloadNoResponse (s : State) : Host.Outcome State Fault Refusal := act s State.preloadUnanswered

/-- PRELOAD_END (R192, R193, R194). -/
def execPreloadEnd (s : State) : Host.Outcome State Fault Refusal := act s State.preloadRead

end Sys2Proof.Machine
end

