-- ==== Sys2Proof/Machine/Feed.lean ====
section
/-! DEFINITION. The commands of the feed: encoder edges, the feed-run input and the stall window (chapter 1). -/

namespace Sys2Proof.Machine

/-- The levels of the eyes as they stand at an edge. -/
def State.seeEyes (s : State) (infeed outfeed : EyeLevel) : State :=
  { s with pins := { s.pins with eyeIn := infeed, eyeOut := outfeed } }

/-- A counted edge acts on the motion state, then on the edge count and the position (R1, R14, R15); a transition without a
direction is not counted. The order of the two is the model's (log 3). -/
def State.takeEdge (s : State) : Edge → State
  | .forward => s.countMotion.forwardEdge
  | .reverse => s.countMotion.reverseEdge
  | .noDirection => s

/-- The level of the feed-run input. -/
def State.setFeedRun (s : State) (b : Bool) : State := { s with pins := { s.pins with feedRun := b } }

/-- The feed-run input goes inactive (R14). -/
def State.feedRunLost (s : State) : State :=
  let s := { s.setFeedRun false with feed := { s.feed with stall := none } }
  match s.feed.motion with
  | .moving => s.beginStandstill
  | .standstill => s

/-- The stall window expires (R14). -/
def State.stallExpired (s : State) : State :=
  match s.feed.stall with
  | some t => (s.reachTime t).beginStandstill
  | none => s

/-- ENCODER_EDGE (R1, R2, R3, R4, R14, R15). -/
def execEncoderEdge (edge : Edge) (infeed outfeed : EyeLevel) (s : State) : Host.Outcome State Fault Refusal :=
  act s fun s => (s.seeEyes infeed outfeed).takeEdge edge

/-- FEED_RUN_INACTIVE (R14). While a reset is held the pin alone follows (log 19). -/
def execFeedRunInactive (s : State) : Host.Outcome State Fault Refusal :=
  actOrPin s (fun s => s.setFeedRun false) State.feedRunLost

/-- FEED_RUN_ACTIVE: by itself it does not end standstill (R15). -/
def execFeedRunActive (s : State) : Host.Outcome State Fault Refusal :=
  actOrPin s (fun s => s.setFeedRun true) fun s => s.setFeedRun true

/-- STALL_WINDOW_EXPIRY (R14). -/
def execStallWindowExpiry (s : State) : Host.Outcome State Fault Refusal := act s State.stallExpired

end Sys2Proof.Machine
end

