-- ==== Sys2Proof/Machine/Manifest.lean ====
section
/-! DEFINITION. The commands of the Manifest Reader: the scan timer, a step of a scan, the ticket at the head, and the host's
writes that concern them (chapter 2). -/

namespace Sys2Proof.Machine

/-- The scan timer expires: it calls a scan and reloads itself, every later period being n + 1 units (R26). -/
def State.scanTimerExpired (s : State) : State :=
  match s.manifest.scanTimer with
  | some t =>
    let s := s.reachTime t
    { s with manifest := { s.manifest with scanTimer := some (s.now + 10 * (s.manifest.scanReload + 1)) } }.requestScan
  | none => s

/-- One step of the scan in progress (R27); none while no scan is in progress. -/
def State.scanStep (s : State) : State := if s.manifest.scanning then s.scanOnce else s

/-- The reload value of a SCAN_RELOAD write: bits 7 to 0, and 0 taken as 1 (R26). -/
def reloadOf (w : Word) : Nat := max 1 (lowByte w).toNat

/-- A write to SCAN_RELOAD sets n and restarts the timer if it runs (R26). -/
def State.writeReload (s : State) (w : Word) : State :=
  let s := { s with manifest := { s.manifest with scanReload := reloadOf w } }
  match s.manifest.scanTimer with
  | some _ => s.startScanTimer
  | none => s

/-- The host stores a word of the manifest RAM (R201); the lowest address bit has no line. -/
def State.storeWord (s : State) (address w : Word) : State :=
  { s with ram := s.ram.writeBytes (2 * (address.toNat / 2)) (bytesOfWord w) }

/-- SCAN_TIMER_EXPIRY (R26). -/
def execScanTimerExpiry (s : State) : Host.Outcome State Fault Refusal := act s State.scanTimerExpired

/-- SCAN_STEP (R27, R28, R29). -/
def execScanStep (s : State) : Host.Outcome State Fault Refusal := act s State.scanStep

/-- TICKET_TAKE_UP (R31). -/
def execTicketTakeUp (s : State) : Host.Outcome State Fault Refusal := act s State.takeUp

/-- SCAN (R25). -/
def execScan (s : State) : Host.Outcome State Fault Refusal := act s State.requestScan

/-- SCAN_RELOAD_WRITE (R26). -/
def execScanReloadWrite (w : Word) (s : State) : Host.Outcome State Fault Refusal := act s fun s => s.writeReload w

/-- MANIFEST_RAM_WRITE (R201): served in every mode, during a preload, a save and a reset. -/
def execManifestRamWrite (address w : Word) (s : State) : Host.Outcome State Fault Refusal := .next (s.storeWord address w)

end Sys2Proof.Machine
end

