-- ==== Sys2Proof/Machine/Modes.lean ====
section
/-! DEFINITION. The commands of the Mode Controller and of Feed Hold Logic: mode requests (R187 to R189) and TRACK_CLEAR (R172). -/

namespace Sys2Proof.Machine

/-- The change of mode is allowed and its condition holds (the table of R188). -/
def State.modeAllowed (s : State) (m : Mode) : Bool :=
  match s.mode, m with
  | .config, .run => s.geometryValid
  | .run, .hold => true
  | .hold, .run => true
  | .hold, .service => s.queue.isEmpty
  | .service, .hold => true
  | .hold, .config => s.queue.isEmpty
  | .service, .config => s.queue.isEmpty
  | _, _ => false

/-- The hold causes of a mode: LOCKOUT in CONFIG, MODE_HOLD in HOLD and SERVICE (R170, R189). -/
def HoldCauses.forMode (h : HoldCauses) (m : Mode) : HoldCauses :=
  { h with lockout := m == .config, modeHold := m == .hold || m == .service }

/-- Every arm not OUT of both rotors is sent to STANDBY and the park timers start (R172, R189). -/
def State.standbyAll (s : State) : State := (s.standbyRotor .r1 fun _ => true).standbyRotor .r2 fun _ => true

/-- The Feed Tracker re-bases (R2). -/
def State.rebase (s : State) : State := { s with feed := s.feed.rebase }

/-- A mode change is taken, with its effects (R189). -/
def State.enterMode (s : State) (m : Mode) : State :=
  let old := s.mode
  let s := { s with mode := m, modeRefused := false, holds := s.holds.forMode m }
  match m with
  | .run | .hold => s
  | .config | .service => (if old = .hold then s.standbyAll.rebase else s.standbyAll).arbitrate

/-- A request for a mode is taken or refused (R187, R188). -/
def State.requestMode (s : State) (m : Mode) : State :=
  if m = s.mode then { s with modeRefused := false }
  else if s.modeAllowed m then s.enterMode m
  else { s with modeRefused := true }.raise .mode

/-- TRACK_CLEAR is taken while the latch is set and the infeed eye is declared CLEAR (R172). -/
def State.trackClear (s : State) : State :=
  if s.latch ∧ s.feed.eyeIn.declared = .clear then
    ({ s with latch := false }.putHold .trackFault false).standbyAll.arbitrate
  else s

/-- MODE_REQUEST_CONFIG (R187, R188, R189). -/
def execModeRequestConfig (s : State) : Host.Outcome State Fault Refusal := act s fun s => s.requestMode .config

/-- MODE_REQUEST_RUN (R187, R188, R189). -/
def execModeRequestRun (s : State) : Host.Outcome State Fault Refusal := act s fun s => s.requestMode .run

/-- MODE_REQUEST_HOLD (R187, R188, R189). -/
def execModeRequestHold (s : State) : Host.Outcome State Fault Refusal := act s fun s => s.requestMode .hold

/-- MODE_REQUEST_SERVICE (R187, R188, R189). -/
def execModeRequestService (s : State) : Host.Outcome State Fault Refusal := act s fun s => s.requestMode .service

/-- TRACK_CLEAR (R172). -/
def execTrackClear (s : State) : Host.Outcome State Fault Refusal := act s State.trackClear

end Sys2Proof.Machine
end

