-- ==== Sys2Proof/Machine/Resets.lean ====
section
/-! DEFINITION. The three resets and their end (R190, and the reset rule of each chapter). -/

namespace Sys2Proof.Machine

/-- The raw levels of the inputs a reset reads (R19, R167). -/
structure RawLevels where
  infeed : EyeLevel
  outfeed : EyeLevel
  atSpeed1 : Bool
  atSpeed2 : Bool
  deriving DecidableEq, Repr

/-- The raw levels as last reported. -/
def Pins.levels (p : Pins) : RawLevels := ⟨p.eyeIn, p.eyeOut, p.atSpeed1, p.atSpeed2⟩

/-- The input pins with new raw levels. -/
def Pins.withLevels (p : Pins) (x : RawLevels) : Pins :=
  { p with eyeIn := x.infeed, eyeOut := x.outfeed, atSpeed1 := x.atSpeed1, atSpeed2 := x.atSpeed2 }

/-- Every block takes the reset values of its chapter: R19, R40, R62, R87, R110, R135, R151, R162, R175, R186, R200, R203,
R204. The two memories, RESET_CAUSE and the reset in progress are not among them. -/
def State.resetBlocks (s : State) (x : RawLevels) : State :=
  { s with
    now := 0
    pins := s.pins.withLevels x
    feed := .reset x.infeed x.outfeed
    geometry := .default
    geometryValid := false
    species := speciesReset
    manifest := .reset
    counters := .reset
    temp := .reset
    queue := []
    arms := .reset
    arbiter := .reset
    rotor1 := .reset x.atSpeed1 Geometry.default.settleTime
    rotor2 := .reset x.atSpeed2 Geometry.default.settleTime
    supply := .reset
    holds := .reset
    latch := false
    quality := .reset
    mode := .config
    modeRefused := false
    cfg := .reset
    cause := 0
    enable := 0 }

/-- The flags of RESET_CAUSE at the start of a reset: POWER clears the other two, PIN and SOFT leave them (R190). -/
def resetFlags (old : Word) (k : ResetKind) : Word :=
  match k with
  | .power => oneBit k.place
  | .pin | .soft => old ||| oneBit k.place

/-- A reset starts and is held: the work in flight is abandoned and every block takes its reset values (R190, log 19). -/
def State.startReset (s : State) (k : ResetKind) : State :=
  let s := s.abandonWrites
  { s.resetBlocks s.pins.levels with
    resetHeld := some k
    resetCause := resetFlags s.resetCause k }

/-- After a POWER reset the manifest RAM holds undefined values: the model lists nothing (R41, log 5). -/
def State.powerUp (s : State) : State := { s.startReset .power with ram := [], resetPower := true }

/-- A CONTROL write with SOFT_RESET starts a SOFT reset (R190). -/
def State.softReset (s : State) : State := s.startReset .soft

/-- At the end of a POWER reset the part writes 0 into the link of frame 0 (R41). -/
def State.writeAnchor (s : State) : State := if s.resetPower then s.writeFrame 0 0 [0, 0] else s

/-- A reset ends: every block takes its reset values and the preload begins (R190, R193). -/
def State.endReset (s : State) (x : RawLevels) : State :=
  if s.resetHeld.isSome then { s.writeAnchor.resetBlocks x with resetHeld := none, resetPower := false } else s

/-- POWER_RESET (R190, R41). -/
def execPowerReset (s : State) : Host.Outcome State Fault Refusal := .next s.powerUp

/-- PIN_RESET (R190). -/
def execPinReset (s : State) : Host.Outcome State Fault Refusal := .next (s.startReset .pin)

/-- SOFT_RESET (R190): a register write, ignored while a reset is held (R201). -/
def execSoftReset (s : State) : Host.Outcome State Fault Refusal := act s State.softReset

/-- RESET_END (R190, R193). -/
def execResetEnd (infeed outfeed : EyeLevel) (atSpeed1 atSpeed2 : Bool) (s : State) : Host.Outcome State Fault Refusal :=
  .next (s.endReset ⟨infeed, outfeed, atSpeed1, atSpeed2⟩)

end Sys2Proof.Machine
end

