-- ==== Sys2Proof/Machine/HostBus.lean ====
section
/-! DEFINITION. The host's writes into the register block (sections 12.1 to 12.3). -/

namespace Sys2Proof.Machine

/-- A write of 1 to a bit of CAUSE clears it (R203). -/
def State.clearCauses (s : State) (w : Word) : State := { s with cause := s.cause &&& ~~~w }

/-- A write to ENABLE replaces all its bits (R202). -/
def State.writeEnable (s : State) (w : Word) : State := { s with enable := w &&& enableMask }

/-- A write of 1 to a flag of RESET_CAUSE clears it (R190, R202). -/
def State.clearResetFlags (s : State) (w : Word) : State := { s with resetCause := s.resetCause &&& ~~~w }

/-- A write to CFG_ADDR is taken when the memory is not busy, else ignored (R199). -/
def State.writePort (s : State) (w : Word) : State := if s.cfgBusy then s else s.startTransfer w

/-- The mode that a CONTROL write requests: codes 1 to 4; 0 and 5 to 7 request none (R187). -/
def requestedMode (w : Word) : Option Mode :=
  match (w &&& 7#16).toNat with
  | 1 => some .config
  | 2 => some .run
  | 3 => some .hold
  | 4 => some .service
  | _ => none

/-- The mode request of a CONTROL write. -/
def State.controlMode (s : State) (w : Word) : State :=
  match requestedMode w with
  | some m => s.requestMode m
  | none => s

/-- A CONTROL write: SOFT_RESET alone, or the mode field, SCAN and TRACK_CLEAR in the model's order (R187, R202, log 3). -/
def State.writeControl (s : State) (w : Word) : State :=
  if w.getLsbD 15 then s.softReset
  else
    let s := s.controlMode w
    let s := if w.getLsbD 4 then s.requestScan else s
    if w.getLsbD 5 then s.trackClear else s

/-- A register write by its offset; a read-only register or an unused offset ignores it (R201, R202). -/
def State.writeRegister (s : State) (offset w : Word) : State :=
  if offset = 0x02#16 then s.writeControl w
  else if offset = 0x06#16 then s.clearCauses w
  else if offset = 0x08#16 then s.writeEnable w
  else if offset = 0x0A#16 then s.writeReload w
  else if offset = 0x0E#16 then s.clearResetFlags w
  else if offset = 0x10#16 then s.writePort w
  else if offset = 0x12#16 then { s with cfg := { s.cfg with dataLo := w } }
  else if offset = 0x14#16 then { s with cfg := { s.cfg with dataHi := w } }
  else s

/-- CAUSE_WRITE (R203). -/
def execCauseWrite (w : Word) (s : State) : Host.Outcome State Fault Refusal := act s fun s => s.clearCauses w

/-- ENABLE_WRITE (R202, R204). -/
def execEnableWrite (w : Word) (s : State) : Host.Outcome State Fault Refusal := act s fun s => s.writeEnable w

/-- RESET_CAUSE_WRITE (R190, R202). -/
def execResetCauseWrite (w : Word) (s : State) : Host.Outcome State Fault Refusal := act s fun s => s.clearResetFlags w

/-- CFG_ADDR_WRITE (R199). -/
def execCfgAddrWrite (w : Word) (s : State) : Host.Outcome State Fault Refusal := act s fun s => s.writePort w

/-- REGISTER_WRITE (R201): a write to the register at a byte offset. -/
def execRegisterWrite (offset w : Word) (s : State) : Host.Outcome State Fault Refusal := act s fun s => s.writeRegister offset w

end Sys2Proof.Machine
end

