-- ==== Sys2Proof/Machine/Impact.lean ====
section
/-! DEFINITION. The commands of the Impact Rate Monitors (chapter 8). -/

namespace Sys2Proof.Machine

/-- The monitor after a pulse that finds the burst window closed (R154, R155). -/
def Monitor.count (m : Monitor) (p : MonitorParams) (now : Nat) : Monitor :=
  { m with
    counter := if m.counter < p.maxDepth then m.counter + 1 else m.counter
    burst := some (now + p.burstWindow)
    decay := if m.counter = 0 ∧ m.counter < p.maxDepth then some (now + p.decayInterval) else m.decay }

/-- Relief is set on an arm: the flag, the relief entries of the monitor's record, and the recompute (R156). -/
def State.setRelief (s : State) (a : ArmId) : State :=
  let s := s.updArm a fun c => { c with relief := true }
  let s := match (s.arm a).monitor.tag with
    | some t => s.updView (rotorOf a) t fun w => { w with reliefEntries := satSucc w.reliefEntries }
    | none => s
  (s.recompute true (.fixed .normal) a).arbitrate

/-- A pulse that reaches a COUNTING monitor with its burst window closed (R154, R156). -/
def State.countPulse (s : State) (a : ArmId) (p : MonitorParams) : State :=
  let before := (s.arm a).monitor.counter
  let s := s.updArm a fun c => { c with monitor := c.monitor.count p s.now }
  if before < p.maxDepth ∧ before + 1 = p.threshold then s.setRelief a else s

/-- An impact pulse of an arm (R153, R154): it reaches the monitor of an ENGAGED arm that is COUNTING, and counts when the burst
window is closed. -/
def State.impactPulse (s : State) (a : ArmId) : State :=
  let c := s.arm a
  if c.state = .engaged ∧ c.monitor.counting ∧ c.monitor.burst = none then
    match c.monitor.params with
    | some p => s.countPulse a p
    | none => s
  else s

/-- The burst window of an arm closes (R154). -/
def State.burstClosed (s : State) (a : ArmId) : State :=
  match (s.arm a).monitor.burst with
  | some t => (s.reachTime t).updArm a fun c => { c with monitor := { c.monitor with burst := none } }
  | none => s

/-- The monitor after a decay expiry (R155). -/
def Monitor.decayed (m : Monitor) (p : MonitorParams) (now : Nat) : Monitor :=
  { m with
    counter := m.counter - 1
    decay := if 1 < m.counter then some (now + p.decayInterval) else none }

/-- Relief is cleared on an arm, which is recomputed (R157). -/
def State.clearRelief (s : State) (a : ArmId) : State :=
  ((s.updArm a fun c => { c with relief := false }).recompute true (.fixed .low) a).arbitrate

/-- The decay timer of an arm expires (R155, R157). -/
def State.decayExpired (s : State) (a : ArmId) : State :=
  match (s.arm a).monitor.decay, (s.arm a).monitor.params with
  | some t, some p =>
    let before := (s.arm a).monitor.counter
    let s := s.reachTime t
    let s := s.updArm a fun c => { c with monitor := c.monitor.decayed p s.now }
    if before = p.threshold then s.clearRelief a else s
  | _, _ => s

/-- IMPACT_PULSE (R153, R154, R156). -/
def execImpactPulse (a : ArmId) (s : State) : Host.Outcome State Fault Refusal := act s fun s => s.impactPulse a

/-- BURST_WINDOW_CLOSE (R154). -/
def execBurstWindowClose (a : ArmId) (s : State) : Host.Outcome State Fault Refusal := act s fun s => s.burstClosed a

/-- DECAY_EXPIRY (R155, R157). -/
def execDecayExpiry (a : ArmId) (s : State) : Host.Outcome State Fault Refusal := act s fun s => s.decayExpired a

end Sys2Proof.Machine
end

