-- ==== Sys2Proof/Machine/Quality.lean ====
section
/-! DEFINITION. The commands of the Quality Port: a byte and the gap timer; judging, matching and learning (chapter 10). -/

namespace Sys2Proof.Machine

/-- The marker of a report frame (section 12.5). -/
def reportMarker : Byte := 0xA5#8

/-- The receiver returns to HUNT: buffer emptied, gap timer stopped (R176). -/
def State.hunt (s : State) : State := { s with quality := { s.quality with buffer := [], gap := none } }

/-- The three effects of a discard (R178). -/
def State.discard (s : State) (why : Discard) : State :=
  { s with
    counters := { s.counters with discarded := s.counters.discarded + 1 }
    quality := { s.quality with lastDiscard := why } }.raise .report

/-! ### Trim learning (R181, R182) -/

/-- A record's minimum active arms at a rotor is below 5 (R182). -/
def belowFull (w : RotorView) : Bool :=
  match w.minActive with
  | some n => decide (n < 5)
  | none => false

/-- The first condition of the suppression table that holds (R182). -/
def suppression (q : Record) (live : SpeciesRow) : Suppression :=
  if q.noLearn then .noLearn
  else if q.profileFault.isSome then .profileFault
  else if q.rowUsed = 0 then .guardRow
  else if !live.valid then .rowInvalid
  else if q.stall then .stall
  else if q.rotorDown then .rotorDown
  else if 0 < q.view1.lateLifts ∨ 0 < q.view2.lateLifts then .lateLift
  else if belowFull q.view1 || belowFull q.view2 then .armsBelowFull
  else .notSuppressed

/-- The step a report asks for (R181). -/
def requestedStep (live : SpeciesRow) (residual : Nat) (gouge : Bool) : Int :=
  if gouge then -1 else if live.residualTarget < residual then 1 else 0

/-- The report fields of a WORKED log from which nothing is learned (R182). -/
def unlearned (residual : Nat) (gouge : Bool) (why : Suppression) : ReportFields := ⟨residual, gouge, false, 0, why, false⟩

/-- One step of a live trim cell (R181). -/
def State.stepTrim (s : State) (k : Nat) (c : TempClass) (residual : Nat) (gouge : Bool) : State × ReportFields :=
  let live := s.row k
  let step := requestedStep live residual gouge
  let value := clampTrim live.trimLimit (live.trim c + step)
  let change := value - live.trim c
  (s.setRow k (live.setTrim c value),
    { unlearned residual gouge .notSuppressed with change := change, atLimit := step != 0 && change == 0 })

/-- What the Trim Learner does with the report of a WORKED record of kind LOG: the live table after it, and the report fields of
the outcome (R181, R182). -/
def State.learn (s : State) (q : Record) (residual : Nat) (gouge : Bool) : State × ReportFields :=
  match suppression q (s.row q.rowUsed), q.tempClass with
  | .notSuppressed, some c => s.stepTrim q.rowUsed c residual gouge
  | why, _ => (s, unlearned residual gouge why)

/-! ### Matching and closure (R179, R180) -/

/-- The report fields of a record whose report has the scanner-fault flag set (R180). -/
def scannerFaultFields : ReportFields := ⟨0, false, true, 0, .noReport, false⟩

/-- A matched report closes its record (R180). -/
def State.closeByReport (s : State) (q : Record) (residual : Nat) (gouge fault : Bool) : State :=
  if fault then s.closeRecord q .workedNoReport scannerFaultFields
  else
    match q.kind with
    | .log =>
      let x := s.learn q residual gouge
      x.1.closeRecord q .worked x.2
    | .orphan | .stub => s.closeRecord q .worked .zero

/-- The oldest record in AWAIT_REPORT (R179). -/
def State.awaiting? (s : State) : Option Record := s.queue.find? fun q => q.outfeed == .awaitReport

/-- A valid report is matched to the oldest record in AWAIT_REPORT, or discarded UNMATCHED (R179, R185). -/
def State.takeReport (s : State) (residual : Nat) (gouge fault : Bool) : State :=
  match s.awaiting? with
  | some q =>
    { s with quality := { s.quality with latest := some ⟨residual, gouge, fault, some q.tag⟩ } }.closeByReport q residual
      gouge fault
  | none =>
    { s with quality := { s.quality with latest := some ⟨residual, gouge, fault, none⟩ } }.discard .unmatched

/-- A complete frame is judged by its check and its residual (R178). -/
def State.judgeReport (s : State) (marker residual flags check : Byte) : State :=
  if marker + residual + flags ≠ check then s.discard .check
  else if 100 < residual.toNat then s.discard .range
  else s.takeReport residual.toNat (flags.getLsbD 0) (flags.getLsbD 1)

/-- A byte received without a framing error while IN_FRAME (R176). -/
def State.appendByte (s : State) (b : Byte) : State :=
  match s.quality.buffer with
  | [marker, residual, flags] => s.hunt.judgeReport marker residual flags b
  | bs => { s with quality := { s.quality with buffer := bs ++ [b], gap := some s.now } }

/-- The receiver takes a byte (the table of R176). -/
def State.takeByte (s : State) (b : Byte) (framingError : Bool) : State :=
  match s.quality.buffer with
  | [] =>
    if b = reportMarker ∧ framingError = false then
      { s with quality := { s.quality with buffer := [b], gap := some s.now } }
    else s
  | _ :: _ => if framingError then s.hunt.discard .framing else s.appendByte b

/-- The first whole millisecond at which the time since the latest byte exceeds 5 ms (R177, log 18). -/
def gapLimit : Nat := 6

/-- The gap timer expires (R177). -/
def State.gapExpired (s : State) : State :=
  match s.quality.gap with
  | some t => (s.reachTime (t + gapLimit)).hunt.discard .gap
  | none => s

/-- QUALITY_BYTE (R176, R178, R179, R180, R181, R182). -/
def execQualityByte (b : Byte) (framingError : Bool) (s : State) : Host.Outcome State Fault Refusal :=
  act s fun s => s.takeByte b framingError

/-- GAP_TIMER_EXPIRY (R177). -/
def execGapTimerExpiry (s : State) : Host.Outcome State Fault Refusal := act s State.gapExpired

end Sys2Proof.Machine
end

