-- ==== Sys2Proof/Machine/Supply.lean ====
section
/-! DEFINITION. The commands of the sensors and drives: the temperature loop (R49), the supply loop (R163 to R165), the at-speed
inputs and the settle timers (R167, R168). -/

namespace Sys2Proof.Machine

/-! ### Temperature (R49) -/

/-- The temperature state after a sample. -/
def Temperature.take (x : Temperature) (sample : Option Int) : Temperature :=
  match sample with
  | some v => { x with latest := some v, lastValid := some v, heldLogs := 0 }
  | none => { x with latest := none }

/-- The temperature loop is sampled; the next sample falls due 100 ms later (R49). -/
def State.sampleTemperature (s : State) (microAmp : Nat) : State :=
  let s := s.reachTime s.temp.nextSample
  { s with
    pins := { s.pins with tempMicroAmp := microAmp }
    temp := { s.temp.take (temperatureReading microAmp) with nextSample := s.now + 100 } }

/-! ### Supply (R163 to R165) -/

/-- The level after a valid reading (R164). -/
def levelOfReading (g : Geometry) (level : SupplyLevel) (v : Nat) : SupplyLevel :=
  match level with
  | .normal => if v < g.supplyCritical then .critical else if v < g.supplyLow then .low else .normal
  | .low =>
    if v < g.supplyCritical then .critical else if g.supplyLow + g.supplyHysteresis ≤ v then .normal else .low
  | .critical =>
    if g.supplyLow + g.supplyHysteresis ≤ v then .normal
    else if g.supplyCritical + g.supplyHysteresis ≤ v then .low
    else .critical

/-- The level after a sample; a faulted sample is judged as a reading below every threshold (R164). -/
def nextLevel (g : Geometry) (level : SupplyLevel) (sample : Option Nat) : SupplyLevel :=
  match sample with
  | some v => levelOfReading g level v
  | none => .critical

/-- The arms of the rotors whose drive is READY: those that come under vent hold, or leave it, with the supply (R125, R126,
R165). -/
def State.readyArms (s : State) : List ArmId := allArms.filter fun a => (s.rotor (rotorOf a)).drive == .ready

/-- A new level reaches the arms, the rotors and Feed Hold Logic (R165). -/
def State.deliverLevel (s : State) (old new : SupplyLevel) : State :=
  if new = .critical then ((s.readyArms.foldl State.beginHold s).flagStall).putHold .supplyCritical true
  else if old = .critical then (s.readyArms.foldl State.endHold s).putHold .supplyCritical false
  else s

/-- A change of the supply level (R137, R146, R165). -/
def State.changeLevel (s : State) (new : SupplyLevel) : State :=
  let old := s.supply.level
  let s := { s with
    supply := { s.supply with level := new }
    arbiter := { s.arbiter with slots := slotsFor s.geometry new } }
  ((s.deliverLevel old new).raise .supply).arbitrate

/-- Fast scan ends at the first valid reading at or above "supply LOW threshold" (R163). -/
def keepsFast (g : Geometry) (fast : Bool) (sample : Option Nat) : Bool :=
  match sample with
  | some v => fast && decide (v < g.supplyLow)
  | none => fast

/-- The sample period of a scan rate (R163). -/
def samplePeriod (fast : Bool) : Nat := if fast then 1 else 10

/-- The supply loop is sampled and the sample judged (R163, R164). -/
def State.sampleSupply (s : State) (microAmp : Nat) : State :=
  let s := s.reachTime s.supply.nextSample
  let sample := supplyReading s.geometry microAmp
  let fast := keepsFast s.geometry s.supply.fast sample
  let s := { s with
    pins := { s.pins with supplyMicroAmp := microAmp }
    supply := { s.supply with latest := sample, fast := fast, nextSample := s.now + samplePeriod fast } }
  let new := nextLevel s.geometry s.supply.level sample
  if new = s.supply.level then s else s.changeLevel new

/-! ### Rotor drives (R167, R168) -/

/-- The raw level of an at-speed input. -/
def State.setAtSpeed (s : State) (r : RotorId) (b : Bool) : State :=
  match r with
  | .r1 => { s with pins := { s.pins with atSpeed1 := b } }
  | .r2 => { s with pins := { s.pins with atSpeed2 := b } }

/-- At-speed becomes active: a DOWN drive goes SETTLING (R167). -/
def State.speedReached (s : State) (r : RotorId) : State :=
  let s := s.setAtSpeed r true
  match (s.rotor r).drive with
  | .down => s.updRotor r fun x =>
      { x with atSpeed := true, drive := .settling, settle := some (s.now + s.geometry.settleTime) }
  | .settling | .ready => s.updRotor r fun x => { x with atSpeed := true }

/-- Flag ROTOR_DOWN on every record under the tools of a rotor (R168). -/
def State.flagRotorDown (s : State) (r : RotorId) : State :=
  s.mapQueue fun q => if underTools r q then { q with rotorDown := true } else q

/-- The drive leaves READY: hold cause, vent hold of the rotor's arms unless they are under it already, ROTOR_DOWN flags
(R125, R147, R168). -/
def State.leaveReady (s : State) (r : RotorId) : State :=
  let s := (s.putHold (downCause r) true).flagRotorDown r
  if s.supply.level = .critical then s else (armsOf r).foldl State.beginHold s

/-- At-speed becomes inactive: the drive goes DOWN (R167, R168). -/
def State.speedLost (s : State) (r : RotorId) : State :=
  let old := (s.rotor r).drive
  let s := (s.setAtSpeed r false).updRotor r fun x => { x with atSpeed := false, drive := .down, settle := none }
  match old with
  | .down => s
  | .settling => s.raise .rotor
  | .ready => ((s.leaveReady r).raise .rotor).arbitrate

/-- The settle timer expires: the drive becomes READY, and the rotor's arms leave vent hold if the level allows (R126, R147,
R167, R168). -/
def State.settleExpired (s : State) (r : RotorId) : State :=
  match (s.rotor r).settle with
  | some t =>
    let s := (s.reachTime t).updRotor r fun x => { x with drive := .ready, settle := none }
    let s := (s.putHold (downCause r) false).raise .rotor
    (if s.supply.level = .critical then s else (armsOf r).foldl State.endHold s).arbitrate
  | none => s

/-- TEMPERATURE_SAMPLE (R49). -/
def execTemperatureSample (microAmp : Nat) (s : State) : Host.Outcome State Fault Refusal :=
  act s fun s => s.sampleTemperature microAmp

/-- SUPPLY_SAMPLE (R163, R164, R165). -/
def execSupplySample (microAmp : Nat) (s : State) : Host.Outcome State Fault Refusal :=
  act s fun s => s.sampleSupply microAmp

/-- AT_SPEED_ACTIVE (R167): a change of the debounced input. -/
def execAtSpeedActive (r : RotorId) (s : State) : Host.Outcome State Fault Refusal :=
  act s fun s => if (s.rotor r).atSpeed then s else s.speedReached r

/-- AT_SPEED_INACTIVE (R167, R168): a change of the debounced input. -/
def execAtSpeedInactive (r : RotorId) (s : State) : Host.Outcome State Fault Refusal :=
  act s fun s => if (s.rotor r).atSpeed then s.speedLost r else s

/-- SETTLE_TIMER_EXPIRY (R167, R168). -/
def execSettleTimerExpiry (r : RotorId) (s : State) : Host.Outcome State Fault Refusal := act s fun s => s.settleExpired r

end Sys2Proof.Machine
end

