-- ==== Sys2Proof/Machine/Idle.lean ====
section
/-! DEFINITION. The part's own time: which internal event falls due on an empty queue, and what an idle step does. DESIGN CHOICE
(log 2). -/

namespace Sys2Proof.Machine

/-- A time has come. -/
def State.due (s : State) (t : Nat) : Bool := decide (t ≤ s.now)

/-- The command of a timer whose expiry time has come. -/
def State.dueAt (s : State) (timer : Option Nat) (c : Instr) : Option Instr :=
  match timer with
  | some t => if s.due t then some c else none
  | none => none

/-- The timeout of a move in flight (R118). -/
def Arm.timeoutTime (c : Arm) : Option Nat :=
  match c.flow with
  | .inFlight _ granted timeout => some (granted + timeout)
  | _ => none

/-- The elevation of the waiting request of an arm (R141). -/
def State.elevationOf (s : State) (a : ArmId) : Option Nat := (s.waitEntry? a).bind s.elevationTime

/-- A ticket of a kind other than LOG stands at the head, to be taken up (R31). -/
def State.headWaits (s : State) : Bool :=
  match s.manifest.staged with
  | e :: _ => e.kind != .log
  | [] => false

/-- A SOFT reset ends 1 ms after it began (R190). -/
def State.dueReset (s : State) : Option Instr :=
  if s.resetHeld = some .soft ∧ 1 ≤ s.now then
    some (.resetEnd s.pins.eyeIn s.pins.eyeOut s.pins.atSpeed1 s.pins.atSpeed2)
  else none

/-- The due events of the tracker, the reader and the sensors; a sample reads the current its input last showed. -/
def State.dueTimers (s : State) : List (Option Instr) :=
  [s.dueAt s.feed.stall .stallWindowExpiry, s.dueAt s.manifest.scanTimer .scanTimerExpiry,
   s.dueAt (some s.temp.nextSample) (.temperatureSample s.pins.tempMicroAmp),
   s.dueAt (some s.supply.nextSample) (.supplySample s.pins.supplyMicroAmp),
   s.dueAt s.rotor1.settle (.settleTimerExpiry .r1), s.dueAt s.rotor2.settle (.settleTimerExpiry .r2)]
    ++ (allArms.map fun a => s.dueAt (s.arm a).timeoutTime (.moveTimeout a))
    ++ (allArms.map fun a => s.dueAt (s.elevationOf a) (.fairnessElevation a))
    ++ [s.dueAt s.rotor1.protection (.protectionTimerExpiry .r1),
        s.dueAt s.rotor2.protection (.protectionTimerExpiry .r2), s.dueAt s.rotor1.park (.parkTimerExpiry .r1),
        s.dueAt s.rotor2.park (.parkTimerExpiry .r2)]
    ++ (allArms.map fun a => s.dueAt (s.arm a).monitor.burst (.burstWindowClose a))
    ++ (allArms.map fun a => s.dueAt (s.arm a).monitor.decay (.decayExpiry a))
    ++ [s.dueAt (s.quality.gap.map fun t => t + gapLimit) .gapTimerExpiry,
        s.dueAt (s.cfg.transfer.map Transfer.deadline) .accessTransferTimeout,
        s.dueAt ((s.cfg.save.bind Save.page).map SavePage.deadline) .savePageTimeout]

/-- The next internal event that is due: the end of a SOFT reset, and on a running part the head of the staged queue, the scan in
progress, and the timers in the model's order (log 2). -/
def State.dueCommand (s : State) : Option Instr :=
  if s.resetHeld.isSome then s.dueReset
  else if s.headWaits then some .ticketTakeUp
  else if s.manifest.scanning then some .scanStep
  else s.dueTimers.findSome? id

/-- An idle step: the internal event that is due is put in the queue; when none is, a millisecond passes (log 2). -/
def State.idle (s : State) : State :=
  match s.dueCommand with
  | some c => { s with pending := [c] }
  | none => { s with now := s.now + 1 }

end Sys2Proof.Machine
end

