-- ==== Sys2Proof/Machine/Dispatch.lean ====
section
/-! DEFINITION. The meaning of every command: one arm per constructor of Instr. -/

namespace Sys2Proof.Machine

def exec (i : Instr) (s : State) : Host.Outcome State Fault Refusal :=
  match i with
  | .encoderEdge edge infeed outfeed => Sys2Proof.Machine.execEncoderEdge edge infeed outfeed s
  | .feedRunInactive => Sys2Proof.Machine.execFeedRunInactive s
  | .feedRunActive => Sys2Proof.Machine.execFeedRunActive s
  | .stallWindowExpiry => Sys2Proof.Machine.execStallWindowExpiry s
  | .scanTimerExpiry => Sys2Proof.Machine.execScanTimerExpiry s
  | .scanStep => Sys2Proof.Machine.execScanStep s
  | .ticketTakeUp => Sys2Proof.Machine.execTicketTakeUp s
  | .temperatureSample microAmp => Sys2Proof.Machine.execTemperatureSample microAmp s
  | .supplySample microAmp => Sys2Proof.Machine.execSupplySample microAmp s
  | .atSpeedActive r => Sys2Proof.Machine.execAtSpeedActive r s
  | .atSpeedInactive r => Sys2Proof.Machine.execAtSpeedInactive r s
  | .settleTimerExpiry r => Sys2Proof.Machine.execSettleTimerExpiry r s
  | .moveComplete a => Sys2Proof.Machine.execMoveComplete a s
  | .moveTimeout a => Sys2Proof.Machine.execMoveTimeout a s
  | .fairnessElevation a => Sys2Proof.Machine.execFairnessElevation a s
  | .protectionTimerExpiry r => Sys2Proof.Machine.execProtectionTimerExpiry r s
  | .parkTimerExpiry r => Sys2Proof.Machine.execParkTimerExpiry r s
  | .presenceLoss a => Sys2Proof.Machine.execPresenceLoss a s
  | .presenceRestored a => Sys2Proof.Machine.execPresenceRestored a s
  | .impactPulse a => Sys2Proof.Machine.execImpactPulse a s
  | .burstWindowClose a => Sys2Proof.Machine.execBurstWindowClose a s
  | .decayExpiry a => Sys2Proof.Machine.execDecayExpiry a s
  | .qualityByte b framingError => Sys2Proof.Machine.execQualityByte b framingError s
  | .gapTimerExpiry => Sys2Proof.Machine.execGapTimerExpiry s
  | .modeRequestConfig => Sys2Proof.Machine.execModeRequestConfig s
  | .modeRequestRun => Sys2Proof.Machine.execModeRequestRun s
  | .modeRequestHold => Sys2Proof.Machine.execModeRequestHold s
  | .modeRequestService => Sys2Proof.Machine.execModeRequestService s
  | .scan => Sys2Proof.Machine.execScan s
  | .trackClear => Sys2Proof.Machine.execTrackClear s
  | .softReset => Sys2Proof.Machine.execSoftReset s
  | .causeWrite w => Sys2Proof.Machine.execCauseWrite w s
  | .enableWrite w => Sys2Proof.Machine.execEnableWrite w s
  | .scanReloadWrite w => Sys2Proof.Machine.execScanReloadWrite w s
  | .resetCauseWrite w => Sys2Proof.Machine.execResetCauseWrite w s
  | .cfgAddrWrite w => Sys2Proof.Machine.execCfgAddrWrite w s
  | .registerWrite offset w => Sys2Proof.Machine.execRegisterWrite offset w s
  | .accessTransferDone => Sys2Proof.Machine.execAccessTransferDone s
  | .accessTransferTimeout => Sys2Proof.Machine.execAccessTransferTimeout s
  | .savePageDone worn => Sys2Proof.Machine.execSavePageDone worn s
  | .savePageTimeout => Sys2Proof.Machine.execSavePageTimeout s
  | .preloadNoResponse => Sys2Proof.Machine.execPreloadNoResponse s
  | .preloadEnd => Sys2Proof.Machine.execPreloadEnd s
  | .powerReset => Sys2Proof.Machine.execPowerReset s
  | .pinReset => Sys2Proof.Machine.execPinReset s
  | .resetEnd infeed outfeed atSpeed1 atSpeed2 => Sys2Proof.Machine.execResetEnd infeed outfeed atSpeed1 atSpeed2 s
  | .manifestRamWrite address w => Sys2Proof.Machine.execManifestRamWrite address w s

end Sys2Proof.Machine
end

