-- ==== Sys2Proof/Safety.lean ====
section
/-! DEFINITION. The vocabulary of the statements: what a command's next state is up to the published frames, what is left out of a
frame rule, and the invariants of the part. -/

namespace Sys2Proof.Machine

/-! ### The outcome of a command -/

/-- The frames the part publishes into, 240 to 250 (R20). -/
def isPublished (a : Nat) : Prop := frameAddr 240 0 ≤ a ∧ a < frameAddr 251 0

/-- `t` is `u` in every field, but for the bytes of the published frames. -/
def PublishedFrom (u t : State) : Prop :=
  { t with ram := u.ram } = u ∧ ∀ a, ¬ isPublished a → t.ram.read a = u.ram.read a

/-- The command answers a next state, and it is `u` but for the published frames. -/
def Reaches (c : Instr) (s u : State) : Prop := ∃ t, exec c s = .next t ∧ PublishedFrom u t

/-- The command answers a next state that meets `P`. -/
def Answers (c : Instr) (s : State) (P : State → Prop) : Prop := ∃ t, exec c s = .next t ∧ P t

/-- No byte of the manifest RAM outside the published frames is changed. -/
def TicketFramesKept (s t : State) : Prop := ∀ a, ¬ isPublished a → t.ram.read a = s.ram.read a

/-- The part runs: no reset is held. -/
abbrev State.running (s : State) : Prop := s.resetHeld = none

/-- The commands that act while a reset is held: the feed-run pin, the resets, their end, and the manifest RAM (R190, R201,
log 19). -/
def servedInReset : Instr → Bool
  | .feedRunInactive | .feedRunActive | .powerReset | .pinReset | .resetEnd _ _ _ _ | .manifestRamWrite _ _ => true
  | _ => false

/-- The raw levels of the two eyes, as an ENCODER_EDGE command carries them. -/
def State.withEyes (s : State) (infeed outfeed : EyeLevel) : State :=
  { s with pins := { s.pins with eyeIn := infeed, eyeOut := outfeed } }

/-- The records as they stand once STALL has been set on those under the tools of either rotor (R166). -/
def State.stallFlagged (s : State) : List Record :=
  s.queue.map fun q => if underTools .r1 q || underTools .r2 q then { q with stall := true } else q

/-- The state once the scan in progress has ended with a reason: a set request flag begins one more (R25, R27). -/
def State.scanEnded (s : State) (why : ScanEnd) : State :=
  { s with manifest := { s.manifest with
      endReason := why, scanning := s.manifest.scanRequest, scanRequest := false } }

/-- The state once the ticket at the head has been closed or rejected and has left (R33, R36). -/
def State.headFinished (s : State) (e : StagedTicket) (res : Result) (detail : Nat) (fields : List (Nat × List Byte)) :
    State :=
  (s.closeFrame e.frame e.tag res detail fields).departHead

/-- The CONTROL write that requests a mode (R187). -/
def requestOf : Mode → Instr
  | .config => .modeRequestConfig
  | .run => .modeRequestRun
  | .hold => .modeRequestHold
  | .service => .modeRequestService

/-- What every block holds after a reset that ends, or stands, with these raw levels; the queue of commands, the free-value
counter, the pins, the reset in progress, RESET_CAUSE and the two memories are given (R190). -/
def State.afterReset (s : State) (x : RawLevels) : State :=
  { State.reset with
    pending := s.pending
    free := s.free
    pins := s.pins.withLevels x
    resetHeld := s.resetHeld
    resetPower := s.resetPower
    resetCause := s.resetCause
    feed := .reset x.infeed x.outfeed
    rotor1 := .reset x.atSpeed1 2000
    rotor2 := .reset x.atSpeed2 2000
    ram := s.ram
    eeprom := s.eeprom }

/-! ### What a change of flow may touch -/

/-- A record without its maximum targets (R78). -/
def Record.withoutTargets (q : Record) : Record :=
  { q with view1 := { q.view1 with maxTarget := 0 }, view2 := { q.view2 with maxTarget := 0 } }

/-- The state without what requests, moves, grants and targets change: the arms, the arbiter's two lists, the protection timers,
and the records' maximum targets; and without the manifest RAM. -/
def State.withoutFlow (s : State) : State :=
  { s with
    arms := .reset
    arbiter := { s.arbiter with inFlight := [], wait := [] }
    rotor1 := { s.rotor1 with protection := none }
    rotor2 := { s.rotor2 with protection := none }
    queue := s.queue.map Record.withoutTargets
    ram := [] }

/-- The arm has a waiting request. -/
def Flow.isWaiting : Flow → Bool
  | .waiting _ => true
  | _ => false

/-- The arm has a move in flight. -/
def Flow.isInFlight : Flow → Bool
  | .inFlight _ _ _ => true
  | _ => false

/-- From `u` to `t` the arm is `c`, or `c` granted the request it has waiting (R116). -/
def GrantedFrom (u t : State) (a : ArmId) (c : Arm) : Prop :=
  t.arm a = c ∨ ∃ q, c.flow = .waiting q ∧ t.arm a = c.granted q u.now (moveTimeout u.geometry q)

/-- Between `u` and `t` the arm has only been granted, if anything (R116). -/
def GrantedOnly (u t : State) (a : ArmId) : Prop := GrantedFrom u t a (u.arm a)

/-- An arm that a recompute gives the target `v`, `held` under vent hold or not, its flow state no LIFT (the table of R104). Held, or at its
aim already, it takes the target only. Else a higher target is a CHARGE request of the class, replaces the waiting one with the higher
class, or retargets the move; a lower one is a VENT, which ends the request or move, but for a waiting request above the commanded pressure,
which is replaced. -/
def Arm.workingToward (c : Arm) (held : Bool) (v : Nat) (cls : FlowClass) : Arm :=
  let vented : Arm := { c with
    target := v
    flow := .idle
    commanded := min c.commanded v
    valve := .vent (min c.commanded v)
    vents := min (c.vents + 1) 255 }
  if held = true ∨ v = c.aim then { c with target := v }
  else match c.flow with
    | .idle => if c.commanded < v then { c with target := v, flow := .waiting ⟨.charge, v, cls, false⟩ } else vented
    | .waiting x =>
      if x.value < v ∨ c.commanded < v then
        { c with target := v, flow := .waiting { x with value := v, cls := if x.cls.rank ≤ cls.rank then x.cls else cls } }
      else vented
    | .inFlight x g w =>
      if x.value < v then
        { c with target := v, flow := .inFlight { x with value := v } g w, commanded := v, valve := .charge v, settled := false }
      else vented
    | .deferred _ _ => { c with target := v }

/-- The class of a recompute that the active count, the supply or a drive calls: HIGH in ENTRY, NORMAL in BODY (R105). -/
def phaseClass (p : Phase) : FlowClass := if p = .entry then .high else .normal

/-- From `u` to `t` the ENGAGED arms among `on` have been recomputed and granted what they asked. A result within the dead band is dropped,
unless the cause always acts, and an arm whose flow state is a LIFT takes none (R103, R104); any other result is the arm's target, which it
works toward with a CHARGE of the class that the cause gives its record's phase (R104, R105, R106). Every other arm has only been granted,
and so has one without a record that has a target. -/
def Retargeted (u t : State) (on : ArmId → Prop) (forced : Bool) (cls : Phase → FlowClass) : Prop :=
  (∀ a, ¬ (on a ∧ (u.arm a).state = .engaged) → GrantedOnly u t a)
    ∧ ∀ a, on a → (u.arm a).state = .engaged → (t.arm a).state = .engaged
      ∧ ((∀ q v, (u.arm a).tag.bind u.record? = some q → u.targetFor a q ≠ some v) → GrantedOnly u t a)
      ∧ ∀ q row v, (u.arm a).tag.bind u.record? = some q → q.row = some row → u.targetFor a q = some v →
        ((u.arm a).isLifting = true ∨ forced = false ∧ ((v : Int) - (u.arm a).aim).natAbs < row.deadBand → GrantedOnly u t a)
          ∧ ((u.arm a).isLifting = false → (forced = true ∨ row.deadBand ≤ ((v : Int) - (u.arm a).aim).natAbs) →
            GrantedFrom u t a ((u.arm a).workingToward (u.ventHeld a) v (cls (q.phase (rotorOf a)))))

/-- The command answers `x` but for requests, moves and targets, and every ENGAGED arm has been recomputed from `u`, whatever the dead band,
with requests of a class (R105). -/
def Recomputes (c : Instr) (s u x : State) (cls : FlowClass) : Prop :=
  Answers c s fun t =>
    t.withoutFlow = x.withoutFlow ∧ TicketFramesKept s t ∧ Retargeted u t (fun _ => True) true (fun _ => cls)

/-- The flow states possible in an arm state (the table of R112). -/
def flowFits : ArmState → Flow → Bool
  | .lifting, .waiting q => q.kind == .lift
  | .lifting, .inFlight q _ _ => q.kind == .lift
  | .lifting, .deferred _ _ => true
  | .lifting, .idle => false
  | .engaged, .idle => true
  | .engaged, .waiting q => q.kind == .charge
  | .engaged, .inFlight q _ _ => q.kind == .charge
  | .engaged, .deferred _ _ => false
  | _, .idle => true
  | _, _ => false

/-- A record once the active arm count of a rotor stands at a number: in LIFT, ENTRY, BODY and RELEASE there its minimum active arms is no
higher (R78, R132). -/
def Record.countedAt (q : Record) (r : RotorId) (n : Nat) : Record :=
  if q.phase r = .approach ∨ q.phase r = .passed then q
  else q.updView r fun w => { w with minActive := w.minActive.map fun m => min m n }

/-- From `s` to `t` the arm has left service or returned to it, and its rotor's active count has changed with it (R132): ROTOR is raised
and the UNUSABLE hold cause set or cleared exactly at a change of usability (R169), the minimum active arms of the records are lowered, and
the rotor's ENGAGED arms are recomputed whatever the dead band, HIGH in ENTRY and NORMAL in BODY (R105). -/
def CountFollows (s t : State) (a : ArmId) : Prop :=
  (usabilityOf (t.activeCount (rotorOf a)) = usabilityOf (s.activeCount (rotorOf a)) →
      t.holds = s.holds ∧ t.pendingCause .rotor = s.pendingCause .rotor)
    ∧ (usabilityOf (t.activeCount (rotorOf a)) ≠ usabilityOf (s.activeCount (rotorOf a)) →
      t.holds = s.holds.put (unusableCause (rotorOf a)) (decide (t.activeCount (rotorOf a) ≤ 2))
        ∧ t.pendingCause .rotor = true)
    ∧ t.queue.map Record.withoutTargets =
      s.queue.map (fun q => (q.countedAt (rotorOf a) (t.activeCount (rotorOf a))).withoutTargets)
    ∧ Retargeted ({ s with now := t.now }.setArm a (t.arm a)) t (fun b => rotorOf b = rotorOf a) true phaseClass

/-- What an arm does when it comes under vent hold (the table of R125): PARKED and OUT arms stay; every other is vented to 0, its LIFT,
waiting or in flight, becomes a deferred lift with its aperture and wake flag, and its CHARGE is dropped. State, tag and target stay. -/
def HeldVented (c d : Arm) : Prop :=
  ((c.state = .parked ∨ c.state = .out) → d = c)
    ∧ (c.state ≠ .parked → c.state ≠ .out → d = { c with
      flow := match c.flow with
        | .waiting x => if x.kind = .lift then .deferred x.value x.wake else .idle
        | .inFlight x _ _ => if x.kind = .lift then .deferred x.value x.wake else .idle
        | .deferred aperture wake => .deferred aperture wake
        | .idle => .idle
      commanded := 0
      valve := .vent 0
      vents := min (c.vents + 1) 255 })

/-- What an arm without request or move does when it leaves vent hold, from `u` to `t`: its deferred lift is an URGENT LIFT request, or
granted already (R126); ENGAGED, it has been recomputed whatever the dead band, and a target above its commanded pressure is a CHARGE
request of class HIGH in ENTRY and NORMAL in BODY, or granted already (R105, R106); any other stays as it is. -/
def HoldReleased (u t : State) (a : ArmId) : Prop :=
  (∀ aperture wake, (u.arm a).flow = .deferred aperture wake → ∀ x : FlowRequest, x = ⟨.lift, aperture, .urgent, wake⟩ →
      t.arm a = { u.arm a with flow := .waiting x } ∨ t.arm a = (u.arm a).granted x u.now (moveTimeout u.geometry x))
    ∧ ((u.arm a).flow = .idle → (u.arm a).state ≠ .engaged → t.arm a = u.arm a)
    ∧ ((u.arm a).flow = .idle → (u.arm a).state = .engaged → ∀ q v, (u.arm a).tag.bind u.record? = some q →
      u.targetFor a q = some v → ∀ (c : Arm) (x : FlowRequest), c = { u.arm a with target := v } →
        x = ⟨.charge, v, phaseClass (q.phase (rotorOf a)), false⟩ →
          (v = c.commanded → t.arm a = c)
            ∧ (c.commanded < v → t.arm a = { c with flow := .waiting x }
              ∨ t.arm a = c.granted x u.now (moveTimeout u.geometry x)))

/-! ### Marks and phases -/

/-- An arming that puts a mark that lies ahead of the peak into its place (R11). The tracker's own is one. -/
def Arming.placesAhead (arm : Arming) : Prop :=
  ∀ u c t p x, reached u.feed.peak x = false → arm u c t p x = u.setMark c t (some ⟨p, x⟩)

/-- The mark stands armed in its client's place. -/
def State.armed (s : State) (c : Client) (t : Tag) (p : MarkPurpose) (x : Pos) : Prop :=
  s.feed.marks.get c t = some ⟨p, x⟩

/-- The position lies ahead of the peak. -/
def State.ahead (s : State) (x : Pos) : Prop := reached s.feed.peak x = false

/-- The first mark of a record in LIFT: the entry mark at head position + Dr, or for a stub the tail mark at tail position + Dr (R67). -/
def State.firstMark (s : State) (r : RotorId) (q : Record) : Mark :=
  match q.kind, q.tail with
  | .stub, some tail => ⟨.tail, posAdd tail (s.geometry.toolPlane r)⟩
  | _, _ => ⟨.entry, posAdd q.head (s.geometry.toolPlane r)⟩

/-- An arm that leaves ENGAGED: its monitor stops and its relief is cleared; the count, the tag and the parameters stay (R159). Any other
arm is as it was. -/
def Arm.disengaged (c : Arm) : Arm :=
  if c.state = .engaged then
    { c with relief := false, monitor := { c.monitor with counting := false, burst := none, decay := none } }
  else c

/-- An arm vented to a pressure: without request, move or deferred lift, the commanded pressure lowered to it, the VENT counted (R119). -/
def Arm.ventedTo (c : Arm) (p : Nat) : Arm :=
  { c with
    flow := .idle
    commanded := min c.commanded p
    valve := .vent (min c.commanded p)
    vents := min (c.vents + 1) 255 }

/-- An arm sent to STANDBY, for no record, at the release target (R120); one that was OUT returns, without cause or indication (R131). -/
def Arm.sentToStandby (c : Arm) (release : Nat) : Arm :=
  { c.ventedTo release with
    state := .standby
    tag := none
    target := release
    outCause := if c.state = .out then none else c.outCause
    returnPending := if c.state = .out then false else c.returnPending
    inserted := if c.state = .out then false else c.inserted }

/-- What a LIFT to an aperture makes of an arm that takes it (the table of R114, and R125, R131). One OPEN at the aperture already takes the
record tag only. Any other becomes LIFTING with a LIFT request of class URGENT, with the wake flag and an energized valve where it was
PARKED or returns from OUT; under vent hold with a deferred lift, but that a CHARGE which waits becomes the LIFT in its place. One that was
ENGAGED stops its monitor (R159); one that was OUT has no cause and no indication. The lift of an arm that is LIFTING takes the aperture in
place: waiting, in flight or deferred. -/
def Arm.askedLift (c : Arm) (held : Bool) (aperture : Nat) (tag : Option Tag) : Arm :=
  let wake : Bool := decide (c.state = .parked ∨ c.state = .out)
  let lifted : Arm := { c.disengaged with
    state := .lifting
    aperture := aperture
    tag := tag
    valve := if wake = true then .energized else c.valve
    flow := if held = true ∧ ¬ (c.state = .engaged ∧ c.flow.isWaiting = true) then .deferred aperture wake
      else .waiting ⟨.lift, aperture, .urgent, wake⟩ }
  match c.state with
  | .out => { lifted with outCause := none, returnPending := false, inserted := false }
  | .opened => if c.aperture = aperture then { c with tag := tag } else lifted
  | .lifting =>
    match c.flow with
    | .idle => lifted
    | .waiting x => { c with aperture := aperture, tag := tag, flow := .waiting { x with value := aperture } }
    | .deferred _ w => { c with aperture := aperture, tag := tag, flow := .deferred aperture w }
    | .inFlight x g w =>
      if x.value = aperture then { c with aperture := aperture, tag := tag }
      else { c with
        aperture := aperture
        tag := tag
        flow := .inFlight { x with value := aperture } g w
        valve := .lift aperture
        settled := false }
  | _ => lifted

/-- The arms of a rotor that a LIFT, or STANDBY, takes back into service, in their order: those OUT with return-pending (R131). -/
def State.returning (s : State) (r : RotorId) : List ArmId :=
  (armsOf r).filter fun a => decide ((s.arm a).state = .out) && (s.arm a).returnPending

/-- The state with some arms back in service, where the active count is to be read. -/
def State.withReturned (s : State) (as : List ArmId) : State :=
  as.foldl (fun u a => u.setArm a { u.arm a with state := .parked }) s

/-- An arm when its turn to be asked a LIFT comes. Each arm that returns before it raises the active count, and the count's recompute
acts on an ENGAGED arm whatever the dead band, with class HIGH in ENTRY and NORMAL in BODY (R105, R132); an arm whose record is in neither
phase, and every other arm, is as it was. -/
def State.beforeLift (s : State) (a : ArmId) : Arm :=
  if (s.arm a).state = .engaged ∧ (s.arm a).isLifting = false then
    match (s.arm a).tag.bind s.record? with
    | some q =>
      let before := (s.returning (rotorOf a)).filter fun b => decide (armCode b < armCode a)
      let targets := (List.range before.length).filterMap fun k => (s.withReturned (before.take (k + 1))).targetFor a q
      targets.foldl (fun c v => c.workingToward (s.ventHeld a) v (phaseClass (q.phase (rotorOf a)))) (s.arm a)
    | none => s.arm a
  else s.arm a

/-- What the arms that returned from `s` to `t` bring (R132, R169): a rotor whose usability has changed is UNUSABLE no longer, ROTOR is
raised exactly at such a change, and no other cause. -/
def ReturnsCounted (s t : State) : Prop :=
  t.holds.rotor1Unusable =
      (if usabilityOf (t.activeCount .r1) = usabilityOf (s.activeCount .r1) then s.holds.rotor1Unusable else false)
    ∧ t.holds.rotor2Unusable =
      (if usabilityOf (t.activeCount .r2) = usabilityOf (s.activeCount .r2) then s.holds.rotor2Unusable else false)
    ∧ ∀ c : Cause, t.pendingCause c = (s.pendingCause c || decide (c = .rotor
      ∧ ∃ r ∈ [RotorId.r1, .r2], usabilityOf (t.activeCount r) ≠ usabilityOf (s.activeCount r)))

/-- What the arms of a rotor bring that return from `s` to `t`: the active count is higher by their number, usability, the UNUSABLE hold
cause and ROTOR follow it (R132, R169), no other hold cause changes, and a record but that of the tag is as it was, or, if any arm
returns, as at the raised count (R78), beside its maximum targets. -/
def ReturnsTaken (s t : State) (r : RotorId) (tag : Option Tag) : Prop :=
  t.activeCount r = s.activeCount r + (s.returning r).length
    ∧ ReturnsCounted s t
    ∧ t.holds = { s.holds with rotor1Unusable := t.holds.rotor1Unusable, rotor2Unusable := t.holds.rotor2Unusable }
    ∧ ∀ x y, s.record? x.tag = some x → t.record? x.tag = some y → tag ≠ some x.tag →
      y.withoutTargets =
        (if s.returning r = [] then x else x.countedAt r (s.activeCount r + 1)).withoutTargets

/-- What a LIFT to an aperture, asked of the arms of a rotor in their order, leaves: an arm OUT without return-pending stays OUT, every
other has taken the LIFT for the record of the tag, as it stood when its turn came, or has been granted it already; and what the arms that
return by it bring. The other rotor's arms have only been granted (R68, R105, R114, R131, R132, R159). -/
def LiftAsked (s t : State) (r : RotorId) (aperture : Nat) (tag : Option Tag) : Prop :=
  (∀ a, rotorOf a ≠ r → GrantedOnly s t a)
    ∧ (∀ a, rotorOf a = r →
      ((s.arm a).state = .out → (s.arm a).returnPending = false → GrantedOnly s t a)
        ∧ (((s.arm a).state ≠ .out ∨ (s.arm a).returnPending = true) →
          GrantedFrom s t a ((s.beforeLift a).askedLift (s.ventHeld a) aperture tag)))
    ∧ ReturnsTaken s t r tag

/-- What a record's LIFT at a rotor leaves, beside the arms: the park timer stopped, the phase, the minimum active arms and the first mark
(R68, R75, R76). -/
def Lifted (s t : State) (r : RotorId) (b : Record) : Prop :=
  (t.rotor r).park = none
    ∧ (∃ x, t.record? b.tag = some x ∧ x.phase r = .lift ∧ (x.view r).minActive = some (t.activeCount r))
    ∧ t.armed (clientOf r) b.tag (s.firstMark r b).purpose (s.firstMark r b).position

/-- A distance from the head end at which a zone of the row begins or ends, by the record's orientation (R70). -/
def Record.boundaryAt (q : Record) (d : Int) : Prop :=
  ∃ row, q.row = some row
    ∧ (q.orientation = .buttFirst ∧ (d = row.buttLength ∨ d = max (row.buttLength : Int) ((q.working : Int) - row.topLength))
      ∨ q.orientation = .topFirst
        ∧ (d = min (row.topLength : Int) ((q.working : Int) - row.buttLength) ∨ d = (q.working : Int) - row.buttLength))

/-- The section points a rotor follows beyond a distance: stations and zone boundaries beyond "ramp length" and below the working length, or
below the release distance once the tail is known (R70). -/
def State.followedPoint (s : State) (q : Record) (beyond : Nat) (d : Int) : Prop :=
  ((∃ p ∈ q.stations, d = p.distance) ∨ q.boundaryAt d) ∧ (s.geometry.rampLength : Int) < d ∧ (beyond : Int) < d
    ∧ (q.tail = none → d < q.working) ∧ (q.tail.isSome = true → d < (q.working : Int) - s.geometry.releaseLead)

/-- The mark of a record in BODY lies ahead of the peak: the nearest followed point, or with none the release position of a known tail. -/
def State.nearestAhead (s : State) (r : RotorId) (q : Record) (beyond : Nat) : Prop :=
  (∀ d, s.followedPoint q beyond d → (∀ e, s.followedPoint q beyond e → d ≤ e) →
      s.ahead (posAdd q.head (s.geometry.toolPlane r + d)))
    ∧ ((∀ d, ¬ s.followedPoint q beyond d) → ∀ tail, q.tail = some tail →
      s.ahead (posAdd tail ((s.geometry.toolPlane r : Int) - s.geometry.releaseLead)))

/-- In `t` the one mark of a record in BODY stands at the nearest point beyond a distance: a section point, else the release position of a
known tail, else nowhere (R70). -/
def NearestArmed (s t : State) (r : RotorId) (q : Record) (beyond : Nat) : Prop :=
  (∀ d, s.followedPoint q beyond d → (∀ e, s.followedPoint q beyond e → d ≤ e) →
      t.armed (clientOf r) q.tag .sectionPoint (posAdd q.head (s.geometry.toolPlane r + d)))
    ∧ ((∀ d, ¬ s.followedPoint q beyond d) → ∀ tail, q.tail = some tail →
      t.armed (clientOf r) q.tag .release (posAdd tail ((s.geometry.toolPlane r : Int) - s.geometry.releaseLead)))
    ∧ ((∀ d, ¬ s.followedPoint q beyond d) → q.tail = none → t.feed.marks.get (clientOf r) q.tag = none)

/-- The aperture of a record's own LIFT: the first station's diameter + "clearance", or "maximum aperture" for a stub (R68). -/
def State.ownAperture (s : State) (q : Record) : Nat :=
  if q.kind = .stub then s.geometry.maxAperture
  else ((q.stations.head?.map Station.diameter).getD 0) + s.geometry.clearance

/-- The mark that the hand-over of a tail arms at a rotor lies ahead of the peak: the tail mark of a stub in LIFT, the release mark of a
record in ENTRY, the nearest point ahead of one in BODY (R71). The record is that of before the hand-over, with its tail and length. -/
def State.handOverAhead (s : State) (r : RotorId) (q : Record) (tail : Pos) : Prop :=
  (q.phase r = .lift → q.working < s.geometry.stubLimit → s.ahead (posAdd tail (s.geometry.toolPlane r)))
    ∧ (q.phase r = .entry → s.geometry.stubLimit ≤ q.working →
      s.ahead (posAdd tail ((s.geometry.toolPlane r : Int) - s.geometry.releaseLead)))
    ∧ (q.phase r = .body → s.geometry.stubLimit ≤ q.working → s.nearestAhead r q (q.view r).followed)

/-- What the hand-over of a tail does at a rotor (the table of R71), from `s` to `t`, of a record with its tail and measured length. A stub
in LIFT: every arm not OUT and not OPEN at or LIFTING to "maximum aperture" has a LIFT to it requested, and if the record is current its
mark is the tail mark. A LOG or ORPHAN in ENTRY: the release mark where its position is at or before the ramp end. In BODY: the nearest
point ahead. A record in APPROACH, or a LOG or ORPHAN in LIFT: its mark stays. But for a stub in LIFT the arms have only been granted. -/
def HandedOver (s t : State) (r : RotorId) (q : Record) (tail : Pos) : Prop :=
  (q.phase r = .lift → q.working < s.geometry.stubLimit →
      ((s.current? r).map Record.tag = some q.tag →
          t.armed (clientOf r) q.tag .tail (posAdd tail (s.geometry.toolPlane r)))
        ∧ ((s.current? r).map Record.tag ≠ some q.tag →
          t.feed.marks.get (clientOf r) q.tag = s.feed.marks.get (clientOf r) q.tag)
        ∧ ∀ a, rotorOf a = r →
          (((s.arm a).state = .out
              ∨ ((s.arm a).state = .opened ∨ (s.arm a).state = .lifting) ∧ (s.arm a).aperture = s.geometry.maxAperture) →
            GrantedOnly s t a)
          ∧ ((s.arm a).state ≠ .out →
            ¬ (((s.arm a).state = .opened ∨ (s.arm a).state = .lifting) ∧ (s.arm a).aperture = s.geometry.maxAperture) →
            GrantedFrom s t a ((s.arm a).askedLift (s.ventHeld a) s.geometry.maxAperture (some q.tag))))
    ∧ (q.phase r = .entry → s.geometry.stubLimit ≤ q.working → ∀ release rampEnd : Pos,
      release = posAdd tail ((s.geometry.toolPlane r : Int) - s.geometry.releaseLead) →
      rampEnd = posAdd q.head ((s.geometry.toolPlane r : Int) + s.geometry.rampLength) →
      (reached rampEnd release = true → t.armed (clientOf r) q.tag .release release)
        ∧ (reached rampEnd release = false →
          t.feed.marks.get (clientOf r) q.tag = s.feed.marks.get (clientOf r) q.tag))
    ∧ (q.phase r = .body → s.geometry.stubLimit ≤ q.working → NearestArmed s t r q (q.view r).followed)
    ∧ ((q.phase r = .approach ∨ q.phase r = .lift ∧ s.geometry.stubLimit ≤ q.working) →
      t.feed.marks.get (clientOf r) q.tag = s.feed.marks.get (clientOf r) q.tag)
    ∧ (¬ (q.phase r = .lift ∧ q.working < s.geometry.stubLimit) → ∀ a, rotorOf a = r → GrantedOnly s t a)

/-! ### Standby -/

/-- From `s` to `t` the arms of both rotors have been sent to STANDBY (R120, R131, R172, R189): one in service but not PARKED, or OUT with
return-pending, is STANDBY for no record at the release target, without request, move or deferred lift, and a returned one has no cause and
no indication; a PARKED arm, and one OUT without return-pending, has only been granted. -/
def AllStandby (s t : State) : Prop :=
  ∀ a, ((s.arm a).state = .parked ∨ (s.arm a).state = .out ∧ (s.arm a).returnPending = false → GrantedOnly s t a)
    ∧ (¬ ((s.arm a).state = .parked ∨ (s.arm a).state = .out ∧ (s.arm a).returnPending = false) → ∀ release,
      release = min s.geometry.releasePressure s.geometry.machineMax →
      (t.arm a).state = .standby ∧ (t.arm a).tag = none ∧ (t.arm a).target = release ∧ (t.arm a).commanded ≤ release
        ∧ (t.arm a).flow = .idle ∧ a ∉ t.arbiter.inFlight ∧ (∀ e ∈ t.arbiter.wait, e.arm ≠ a)
        ∧ ((s.arm a).state = .out →
          (t.arm a).outCause = none ∧ (t.arm a).returnPending = false ∧ (t.arm a).inserted = false))

/-- No arm returns: none is OUT with return-pending. -/
def State.noneReturns (s : State) : Prop := ∀ a, (s.arm a).state = .out → (s.arm a).returnPending = false

/-! ### Published bytes -/

/-- The bytes of a frame from an offset on. -/
def State.shows (s : State) (f k : Nat) (bs : List Byte) : Prop := s.ram.readBytes (frameAddr f k) bs.length = bs

/-! ### Invariants -/

/-- Both memories have the canonical form. -/
def State.memoriesCanonical (s : State) : Prop := s.ram.wf ∧ s.eeprom.wf

/-- The geometry in force passes all eight checks (R195). -/
def State.geometryConsistent (s : State) : Prop := s.geometry.firstFailed = none

/-- The slot count is that of the level, and no more than four moves are in flight (R137). -/
def State.slotsFollowSupply (s : State) : Prop :=
  s.geometryConsistent ∧ s.arbiter.slots = slotsFor s.geometry s.supply.level ∧ s.arbiter.inFlight.length ≤ 4

/-- The hold cause set that the conditions of R170 call for. -/
def State.conditions (s : State) : HoldCauses where
  lockout := s.mode == .config
  modeHold := s.mode == .hold || s.mode == .service
  supplyCritical := s.supply.level == .critical
  rotor1Down := s.rotor1.drive != .ready
  rotor2Down := s.rotor2.drive != .ready
  rotor1Unusable := usabilityOf (s.activeCount .r1) == .unusable
  rotor2Unusable := usabilityOf (s.activeCount .r2) == .unusable
  transitFull := decide (6 ≤ s.queue.length)
  trackFault := s.latch

/-- An arm that is OUT has no request, move or deferred lift (R111). -/
def State.outIsIdle (s : State) : Prop := ∀ a, (s.arm a).state = .out → (s.arm a).flow = .idle

/-- The hold causes in the set are exactly those whose condition stands (R170). -/
def State.holdsStand (s : State) : Prop := s.holds = s.conditions ∧ s.outIsIdle

/-- The arms' flow states fit their states (R112), an arm under vent hold has no request and no move (R125), and the arbiter's
lists name each arm once, as its flow state says (R111, R136). -/
def State.flowAgrees (s : State) : Prop :=
  (∀ a, flowFits (s.arm a).state (s.arm a).flow = true)
    ∧ (∀ a, s.ventHeld a = true → (s.arm a).flow.isWaiting = false ∧ (s.arm a).flow.isInFlight = false)
    ∧ (s.arbiter.wait.map WaitEntry.arm).Nodup ∧ s.arbiter.inFlight.Nodup
    ∧ (∀ a, a ∈ s.arbiter.wait.map WaitEntry.arm ↔ (s.arm a).flow.isWaiting = true)
    ∧ ∀ a, a ∈ s.arbiter.inFlight ↔ (s.arm a).flow.isInFlight = true

/-- Each impact counter lies between zero and the maximum depth it counts for (R152). -/
def State.impactBounded (s : State) : Prop :=
  ∀ a p, (s.arm a).monitor.params = some p → (s.arm a).monitor.counter ≤ p.maxDepth

/-- The reader's and the queue's bounds: at most four staged tickets (R30), a cursor of 0 to 239 (R23), a reload value of 1 to 255
(R26), at most six records (R64), no two of one tag (R44). -/
def State.readerBounded (s : State) : Prop :=
  s.manifest.staged.length ≤ 4 ∧ s.manifest.cursor ≤ 239
    ∧ (1 ≤ s.manifest.scanReload ∧ s.manifest.scanReload ≤ 255) ∧ s.queue.length ≤ 6
    ∧ (s.queue.map Record.tag).Nodup

/-- Every trim cell lies within its row's trim limit, and both cells of row 0 are zero (R91). -/
def State.trimsBounded (s : State) : Prop :=
  (∀ k, k < 32 → withinTrim (s.row k).trimLimit (s.row k).trimFrozen = true
      ∧ withinTrim (s.row k).trimLimit (s.row k).trimThawed = true)
    ∧ (s.row 0).trimFrozen = 0 ∧ (s.row 0).trimThawed = 0

/-- A ticket frame, 1 to 239 (R20). -/
def isTicketFrame (f : Nat) : Prop := 1 ≤ f ∧ f ≤ 239

/-- The staged entries, the records and the save in flight hold ticket frames; the cursor is one, or the anchor (R20, R22, R23). -/
def State.framesAreTickets (s : State) : Prop :=
  s.manifest.cursor ≤ 239 ∧ (∀ e ∈ s.manifest.staged, isTicketFrame e.frame)
    ∧ (∀ q ∈ s.queue, ∀ f, q.frame = some f → isTicketFrame f) ∧ ∀ x, s.cfg.save = some x → isTicketFrame x.frame

/-- Frames 240 to 250 hold the published values, and 0 where the layouts leave a byte unused (R205). -/
def State.imageStands (s : State) : Prop := s.ram.readBytes (frameAddr 240 0) (11 * 256) = s.publishedImage

/-- No register holds a bit that section 12.2 does not name, the receiver's gap timer runs exactly while one to three bytes are held (R176,
R177), and the configuration memory is at work on one of its pages 0 to 34 (R191) or on an address of the port. -/
def State.registersLegal (s : State) : Prop :=
  s.cause &&& causeMask = s.cause ∧ s.enable &&& enableMask = s.enable ∧ s.resetCause &&& resetCauseMask = s.resetCause
    ∧ portWord s.cfg.addr = s.cfg.addr ∧ s.quality.buffer.length ≤ 3
    ∧ (s.quality.gap.isSome = true ↔ s.quality.buffer ≠ [])
    ∧ (∀ p, s.cfg.save.bind Save.page = some p → p.index ≤ 34) ∧ ∀ x, s.cfg.transfer = some x → x.address ≤ 0x1FFC

end Sys2Proof.Machine
end

