-- ==== Sys2Proof/Certificates/Slice0/Obligations.lean ====
section
/-! DEFINITION. The statements for the provers. -/

open Sys2Proof Sys2Proof.Machine

/-! ### The machine -/

/-- A step takes the command at the front of the queue and runs it on the queue's rest. -/
def Obligations.StepTakesTheFrontCommand : Prop :=
  ∀ (c : Instr) (rest : List Instr) (s : State), s.pending = c :: rest → step s = exec c { s with pending := rest }

/-- On an empty queue an event of the part that is due becomes the next command; when none is due a millisecond passes. The model's choice
(log 2). -/
def Obligations.IdleStepIssuesADueEventOrPassesAMillisecond : Prop :=
  ∀ s : State, s.pending = [] →
    (∀ c, s.dueCommand = some c → step s = .next { s with pending := [c] })
      ∧ (s.dueCommand = none → step s = .next { s with now := s.now + 1 })

/-- No command stops the part: each answers a next state, whatever the state and the operands (log 28), and the commands that wait behind it
stay as they are. -/
def Obligations.EveryCommandAnswersANextState : Prop :=
  ∀ (c : Instr) (s : State), ∃ t, exec c s = .next t ∧ t.pending = s.pending

/-- While a reset is held every block is held in reset and register writes are ignored (R190, R201; log 19). -/
def Obligations.HeldResetIgnoresCommands : Prop :=
  ∀ (c : Instr) (s : State), s.resetHeld.isSome = true → servedInReset c = false → exec c s = .next s

/-! ### Feed travel (chapter 1) -/

/-- Encoder edges with the feed-run input inactive or the feed MOVING (R1 to R3): a counted edge within a millimetre moves the edge count by
one; a forward step that does not pass the peak; a new-peak step at which neither eye changes, no blockage is worked and no mark is armed; a
reverse step within the limit in RUN or HOLD; a reverse step in CONFIG or SERVICE, which re-bases. While feed-run is active each counted
edge restarts the stall window (R14); a transition without a direction is not counted. -/
def Obligations.EdgesMoveTheCountAndTheFeedPosition : Prop :=
  ∀ (s : State) (i o : EyeLevel) (w : Option Nat), s.running → (s.pins.feedRun = false ∨ s.feed.motion = .moving) →
    w = (if s.pins.feedRun then some (s.now + s.geometry.stallWindow) else s.feed.stall) →
    Reaches (.encoderEdge .noDirection i o) s (s.withEyes i o)
      ∧ (s.feed.edges + 1 < s.geometry.encoderResolution →
        Reaches (.encoderEdge .forward i o) s { s.withEyes i o with
          feed := { s.feed with edges := s.feed.edges + 1, stall := w } })
      ∧ (s.feed.edges ≠ 0 →
        Reaches (.encoderEdge .reverse i o) s { s.withEyes i o with
          feed := { s.feed with edges := s.feed.edges - 1, stall := w } })
      ∧ (s.geometry.encoderResolution ≤ s.feed.edges + 1 → posDiff (s.feed.position + 1) s.feed.peak ≤ 0 →
        Reaches (.encoderEdge .forward i o) s { s.withEyes i o with
          feed := { s.feed with edges := 0, position := s.feed.position + 1, stall := w } })
      ∧ (s.geometry.encoderResolution ≤ s.feed.edges + 1 → 0 < posDiff (s.feed.position + 1) s.feed.peak →
        s.feed.eyeIn = ⟨i, none⟩ → s.feed.eyeOut = ⟨o, none⟩ → (∀ b, s.feed.blockage = some b → b.worked = false) →
        s.feed.marks = .empty →
        Reaches (.encoderEdge .forward i o) s { s.withEyes i o with
          feed := { s.feed with
            edges := 0, position := s.feed.position + 1, peak := s.feed.position + 1, stall := w } })
      ∧ (s.feed.edges = 0 → (s.mode = .run ∨ s.mode = .hold) →
        posDiff s.feed.peak (s.feed.position - 1) ≤ s.geometry.reverseLimit →
        Reaches (.encoderEdge .reverse i o) s { s.withEyes i o with
          feed := { s.feed with
            edges := s.geometry.encoderResolution - 1, position := s.feed.position - 1, stall := w } })
      ∧ (s.feed.edges = 0 → (s.mode = .config ∨ s.mode = .service) →
        Reaches (.encoderEdge .reverse i o) s { s.withEyes i o with
          feed := { s.feed with
            edges := s.geometry.encoderResolution - 1
            position := s.feed.position - 1
            peak := s.feed.position - 1
            stall := w
            eyeIn := { s.feed.eyeIn with change := none }
            eyeOut := { s.feed.eyeOut with change := none } } })

/-- One sample of an eye, by the table of R4. -/
def Obligations.EyeSampleFollowsItsTable : Prop :=
  ∀ (e : Eye) (raw : EyeLevel) (p : Pos) (debounce : Nat),
    (e.change = none → raw = e.declared → e.sample raw p debounce = (e, none))
      ∧ (e.change = none → raw ≠ e.declared → e.sample raw p debounce = ({ e with change := some p }, none))
      ∧ ∀ edge, e.change = some edge →
        (raw = e.declared → e.sample raw p debounce = ({ e with change := none }, none))
          ∧ (raw ≠ e.declared → posDiff p edge < debounce → e.sample raw p debounce = (e, none))
          ∧ (raw ≠ e.declared → (debounce : Int) ≤ posDiff p edge →
            e.sample raw p debounce = (⟨raw, none⟩, some (raw, edge)))

/-- What a new-peak step does with the eyes' declarations, then with the marks (R2, R12). BLOCKED at the infeed begins a blockage, worked in
RUN or HOLD with the latch clear, and is a head event unless the latch is set (R5); CLEAR ends it, with a tail event if it was worked (R6);
a worked blockage without an open CLEAR change that reaches "maximum log length" is an OVERLONG fault (R7). BLOCKED at the outfeed is
checked in RUN and HOLD against the oldest record IN_MACHINE, and outside the tolerance is a SLIP fault (R9, R10); CLEAR at the outfeed is
no event. The last clause covers every sample of both eyes, by the table of R4 (the statement above): a change opened, kept or abandoned
leaves the eye so, and both eyes may declare at one step. The order of eyes, overlong check and marks within one step (log 3), and that a
step whose sample abandons a CLEAR change makes the overlong check itself (log 38), are the model's choices. -/
def Obligations.NewPeakStepTakesTheEyesDeclarations : Prop :=
  ∀ (s x : State) (i o : EyeLevel), s.running → (s.pins.feedRun = false ∨ s.feed.motion = .moving) →
    s.geometry.encoderResolution ≤ s.feed.edges + 1 → 0 < posDiff (s.feed.position + 1) s.feed.peak →
    x = { s.withEyes i o with feed := { s.feed with
      edges := 0
      position := s.feed.position + 1
      peak := s.feed.position + 1
      stall := if s.pins.feedRun then some (s.now + s.geometry.stallWindow) else s.feed.stall } } →
    ∀ short : Prop,
      (short ↔ ∀ h, s.feed.blockage = some ⟨true, some h⟩ → posDiff (s.feed.position + 1) h < s.geometry.maxLogLength) →
      (s.feed.eyeIn = ⟨i, none⟩ → s.feed.eyeOut = ⟨o, none⟩ → short →
        Reaches (.encoderEdge .forward i o) s (State.fireMarks markFuel x))
      ∧ (∀ p, i = .blocked → s.feed.eyeIn = ⟨.clear, some p⟩ →
        (s.geometry.eyeDebounce : Int) ≤ posDiff (s.feed.position + 1) p →
        posDiff (s.feed.position + 1) p < s.geometry.maxLogLength → s.feed.eyeOut = ⟨o, none⟩ → ∀ y : State,
        y = { x with feed := { x.feed with
          eyeIn := ⟨.blocked, none⟩
          blockage := some ⟨decide ((s.mode = .run ∨ s.mode = .hold) ∧ s.latch = false), some p⟩ } } →
        (s.latch = true → Reaches (.encoderEdge .forward i o) s (State.fireMarks markFuel y))
          ∧ (s.latch = false → Reaches (.encoderEdge .forward i o) s (State.fireMarks markFuel (y.headEvent p))))
      ∧ (∀ p, i = .clear → s.feed.eyeIn = ⟨.blocked, some p⟩ →
        (s.geometry.eyeDebounce : Int) ≤ posDiff (s.feed.position + 1) p → s.feed.eyeOut = ⟨o, none⟩ → ∀ y : State,
        y = { x with feed := { x.feed with eyeIn := ⟨.clear, none⟩, blockage := none } } →
        (∀ h, s.feed.blockage = some ⟨true, h⟩ →
            Reaches (.encoderEdge .forward i o) s (State.fireMarks markFuel (y.tailEvent p)))
          ∧ ((∀ b, s.feed.blockage = some b → b.worked = false) →
            Reaches (.encoderEdge .forward i o) s (State.fireMarks markFuel y)))
      ∧ (∀ p, i = .clear → s.feed.eyeIn = ⟨.blocked, some p⟩ →
        posDiff (s.feed.position + 1) p < s.geometry.eyeDebounce → s.feed.eyeOut = ⟨o, none⟩ →
        Reaches (.encoderEdge .forward i o) s (State.fireMarks markFuel x))
      ∧ (∀ h, i = .blocked → s.feed.eyeIn = ⟨.blocked, none⟩ → s.feed.blockage = some ⟨true, some h⟩ →
        (s.geometry.maxLogLength : Int) ≤ posDiff (s.feed.position + 1) h → s.feed.eyeOut = ⟨o, none⟩ →
        Reaches (.encoderEdge .forward i o) s (x.trackFault .overlong))
      ∧ (∀ p, o = .blocked → s.feed.eyeOut = ⟨.clear, some p⟩ → s.feed.eyeIn = ⟨i, none⟩ → short →
        (s.geometry.eyeDebounce : Int) ≤ posDiff (s.feed.position + 1) p → ∀ y : State,
        y = { x with feed := { x.feed with eyeOut := ⟨.blocked, none⟩ } } →
        ((s.mode = .config ∨ s.mode = .service) → Reaches (.encoderEdge .forward i o) s (State.fireMarks markFuel y))
          ∧ ((s.mode = .run ∨ s.mode = .hold) →
            ((∀ q ∈ s.queue, q.outfeed ≠ .inMachine) →
                Reaches (.encoderEdge .forward i o) s (State.fireMarks markFuel y))
              ∧ ∀ q, s.queue.find? (fun q => q.outfeed == .inMachine) = some q → ∀ off : Nat,
                off = (posDiff p (posAdd q.head s.geometry.d3)).natAbs →
                (off ≤ s.geometry.outfeedTolerance →
                    Reaches (.encoderEdge .forward i o) s (State.fireMarks markFuel y))
                  ∧ (s.geometry.outfeedTolerance < off →
                    Reaches (.encoderEdge .forward i o) s (y.trackFault .slip))))
      ∧ (∀ p, o = .clear → s.feed.eyeOut = ⟨.blocked, some p⟩ → s.feed.eyeIn = ⟨i, none⟩ → short →
        (s.geometry.eyeDebounce : Int) ≤ posDiff (s.feed.position + 1) p →
        Reaches (.encoderEdge .forward i o) s
          (State.fireMarks markFuel { x with feed := { x.feed with eyeOut := ⟨.clear, none⟩ } }))
      ∧ ∀ (inEye outEye : Eye) (inSays outSays : Option (EyeLevel × Pos)) (b y z v w : State),
        s.feed.eyeIn.sample i (s.feed.position + 1) s.geometry.eyeDebounce = (inEye, inSays) →
        s.feed.eyeOut.sample o (s.feed.position + 1) s.geometry.eyeDebounce = (outEye, outSays) →
        b = { x with feed := { x.feed with eyeIn := inEye } } →
        y = (match inSays with
          | none => b
          | some (.blocked, p) =>
            let u : State := { b with feed := { b.feed with
              blockage := some ⟨decide ((s.mode = .run ∨ s.mode = .hold) ∧ s.latch = false), some p⟩ } }
            if s.latch = true then u else u.headEvent p
          | some (.clear, p) =>
            let u : State := { b with feed := { b.feed with blockage := none } }
            match s.feed.blockage with
            | some ⟨true, _⟩ => u.tailEvent p
            | _ => u) →
        z = (match y.feed.blockage with
          | some ⟨true, some h⟩ =>
            if inEye.change = none ∧ (s.geometry.maxLogLength : Int) ≤ posDiff (s.feed.position + 1) h then
              y.trackFault .overlong
            else y
          | _ => y) →
        v = { z with feed := { z.feed with eyeOut := outEye } } →
        w = (match outSays, v.queue.find? (fun q => q.outfeed == .inMachine) with
          | some (.blocked, p), some q =>
            if (s.mode = .run ∨ s.mode = .hold)
                ∧ s.geometry.outfeedTolerance < (posDiff p (posAdd q.head s.geometry.d3)).natAbs then
              v.trackFault .slip
            else v
          | _, _ => v) →
        Reaches (.encoderEdge .forward i o) s (State.fireMarks markFuel w)

/-- A TRACK fault sets the latch, adds TRACK_FAULT, raises TRACK and tears the transit queue down, and leaves the staged queue's tickets,
the species table, the supply, the drives and the mode as they are; reverse travel beyond the limit in RUN or HOLD is such a fault, and with
the latch set it re-bases only (R3, R16, R84, R171). -/
def Obligations.TrackFaultTearsDownTheQueue : Prop :=
  (∀ (s : State) (why : TrackReason),
    (s.trackFault why).latch = true ∧ (s.trackFault why).holds.trackFault = true
      ∧ (s.trackFault why).pendingCause .track = true ∧ (s.trackFault why).queue = []
      ∧ (s.trackFault why).feed = { s.feed with
          reason := why
          blockage := s.feed.blockage.map fun b => { b with worked := false }
          marks := .empty }
      ∧ (s.trackFault why).manifest.staged.map StagedTicket.frame = s.manifest.staged.map StagedTicket.frame
      ∧ (s.trackFault why).species = s.species ∧ (s.trackFault why).supply = s.supply
      ∧ (s.trackFault why).rotor1.drive = s.rotor1.drive ∧ (s.trackFault why).rotor2.drive = s.rotor2.drive
      ∧ (s.trackFault why).mode = s.mode)
    ∧ ∀ (s x : State) (i o : EyeLevel), s.running → (s.pins.feedRun = false ∨ s.feed.motion = .moving) →
      s.feed.edges = 0 → (s.mode = .run ∨ s.mode = .hold) →
      (s.geometry.reverseLimit : Int) < posDiff s.feed.peak (s.feed.position - 1) →
      x = { s.withEyes i o with feed := { s.feed with
        edges := s.geometry.encoderResolution - 1
        position := s.feed.position - 1
        peak := s.feed.position - 1
        stall := if s.pins.feedRun then some (s.now + s.geometry.stallWindow) else s.feed.stall
        eyeIn := { s.feed.eyeIn with change := none }
        eyeOut := { s.feed.eyeOut with change := none } } } →
      (s.latch = false → Reaches (.encoderEdge .reverse i o) s (x.trackFault .reverse))
        ∧ (s.latch = true → Reaches (.encoderEdge .reverse i o) s x)

/-- The teardown (R84): both park timers stop; every arm not OUT is asked a LIFT to "maximum aperture" for no record, class URGENT, deferred
under vent hold; an arm OUT stays OUT. Provisional bindings are undone; the frames of the other records are closed LOST in queue order while
they stand TAKEN, with rising sequence numbers, and no other byte of the manifest RAM changes. That an arm OPEN at "maximum aperture"
already loses its record tag too (log 17), and that the report fields of a LOST closure, its suppression reason among them, are 0 (log 23),
are the model's. -/
def Obligations.TeardownLiftsTheArmsAndClosesTheRecords : Prop :=
  ∀ (s t : State) (why : TrackReason) (held : List Record), t = s.trackFault why →
    held = (s.queue.filter fun q => !q.provisional && q.frame.isSome) →
    t.rotor1.park = none ∧ t.rotor2.park = none
      ∧ (∀ a, (s.arm a).state = .out → GrantedOnly s t a)
      ∧ (∀ a, (s.arm a).state ≠ .out → (t.arm a).tag = none ∧ (t.arm a).aperture = s.geometry.maxAperture
        ∧ (t.arm a).state =
          (if (s.arm a).state = .opened ∧ (s.arm a).aperture = s.geometry.maxAperture then .opened else .lifting)
        ∧ ((t.arm a).state = .lifting → flowFits (s.arm a).state (s.arm a).flow = true →
          ∃ x, (t.arm a).flow.request? = some x ∧ x.kind = .lift ∧ x.value = s.geometry.maxAperture
            ∧ ((s.arm a).state ≠ .lifting → x.cls = .urgent ∧ x.wake = decide ((s.arm a).state = .parked)))
        ∧ ((t.arm a).state = .lifting → (s.arm a).state ≠ .lifting → s.ventHeld a = true → (s.arm a).flow.isWaiting = false →
          (t.arm a).flow = .deferred s.geometry.maxAperture (decide ((s.arm a).state = .parked))))
      ∧ t.manifest = { s.manifest with staged :=
        if (s.queue.any fun q => q.provisional && q.frame.isSome) = true then
          match s.manifest.staged with
          | [] => []
          | e :: rest => { e with bound := false } :: rest
        else s.manifest.staged }
      ∧ t.counters = { s.counters with closures := s.counters.closures + BitVec.ofNat 16 held.length }
      ∧ (held ≠ [] → t.pendingCause .closed = true)
      ∧ (∀ k q f, held[k]? = some q → q.frame = some f → s.frameState f = 2 → (held.map Record.frame).Nodup →
        t.frameState f = 3 ∧ t.ram.readBytes (frameAddr f 128) 128 =
          outcomeSection .lost 0 (s.counters.closures + BitVec.ofNat 16 (k + 1)) (q.hostTag.getD 0) s.now
            (logOutcome q ⟨0, false, false, 0, .notSuppressed, false⟩))
      ∧ ∀ a, (∀ q ∈ held, ∀ f, q.frame = some f → a ≠ frameAddr f 2 ∧ (a < frameAddr f 128 ∨ frameAddr f 256 ≤ a)) →
        t.ram.read a = s.ram.read a

/-- Feed-run and standstill. The input going active does not by itself end standstill; going inactive in STANDSTILL it begins none. Entry to
STANDSTILL, at the loss of feed-run or at the end of the stall window: the motion state, the window stopped, STALL on the records under the
tools, and the ENGAGED arms recomputed with class NORMAL, whose targets are then at most "stall pressure" or the clamp's lower bound; every
other arm is as before or only granted (R14, R100, R105, R166). The clock at the window's end, and that the command of a window that does
not run changes nothing, are the model's (log 1). -/
def Obligations.StandstillBegins : Prop :=
  (∀ (u : State) (a : ArmId) (q : Record) (row : SpeciesRow) (v : Nat), u.feed.motion = .standstill → q.row = some row →
      u.targetFor a q = some v →
      v ≤ max u.geometry.stallPressure (min row.minimum (min row.maximum u.geometry.machineMax)))
    ∧ ∀ s : State, s.running →
      Reaches .feedRunActive s { s with pins := { s.pins with feedRun := true } }
        ∧ (s.feed.motion = .standstill → Reaches .feedRunInactive s
            { s with pins := { s.pins with feedRun := false }, feed := { s.feed with stall := none } })
        ∧ (s.feed.motion = .moving → ∀ u : State,
          u = { s with
            pins := { s.pins with feedRun := false }
            feed := { s.feed with motion := .standstill, stall := none }
            queue := s.stallFlagged } →
          Recomputes .feedRunInactive s u u .normal)
        ∧ (∀ w, s.feed.stall = some w → ∀ u : State,
          u = { s with
            now := max s.now w
            feed := { s.feed with motion := .standstill, stall := none }
            queue := s.stallFlagged } →
          Recomputes .stallWindowExpiry s u u .normal)
        ∧ (s.feed.stall = none → Reaches .stallWindowExpiry s s)

/-- The first counted edge with feed-run active, forward or reverse, ends standstill and starts the stall window (R14, R15): the ENGAGED
arms are recomputed with class LOW, every other arm is as before or only granted (R105), and the edge then counts as any other: within a
millimetre, completing a forward step that does not pass the peak or that is a quiet new-peak step, or completing a reverse step (R1 to R3).
That the motion state changes before the position is the model's choice (log 3). -/
def Obligations.StandstillEndsAtACountedEdge : Prop :=
  ∀ (s u : State) (i o : EyeLevel) (f : Feed), s.running → s.pins.feedRun = true → s.feed.motion = .standstill →
    u = { s.withEyes i o with feed := { s.feed with motion := .moving } } →
    f = { s.feed with motion := .moving, stall := some (s.now + s.geometry.stallWindow) } →
    (∀ edge, edge ≠ .noDirection → Answers (.encoderEdge edge i o) s fun t =>
        t.feed.motion = .moving ∧ t.feed.stall = some (s.now + s.geometry.stallWindow))
      ∧ (s.feed.edges + 1 < s.geometry.encoderResolution →
        Recomputes (.encoderEdge .forward i o) s u { u with feed := { f with edges := s.feed.edges + 1 } } .low)
      ∧ (s.feed.edges ≠ 0 →
        Recomputes (.encoderEdge .reverse i o) s u { u with feed := { f with edges := s.feed.edges - 1 } } .low)
      ∧ (s.geometry.encoderResolution ≤ s.feed.edges + 1 → posDiff (s.feed.position + 1) s.feed.peak ≤ 0 →
        Recomputes (.encoderEdge .forward i o) s u
          { u with feed := { f with edges := 0, position := s.feed.position + 1 } } .low)
      ∧ (s.geometry.encoderResolution ≤ s.feed.edges + 1 → 0 < posDiff (s.feed.position + 1) s.feed.peak →
        s.feed.eyeIn = ⟨i, none⟩ → s.feed.eyeOut = ⟨o, none⟩ → (∀ b, s.feed.blockage = some b → b.worked = false) →
        s.feed.marks = .empty →
        Recomputes (.encoderEdge .forward i o) s u
          { u with feed := { f with edges := 0, position := s.feed.position + 1, peak := s.feed.position + 1 } } .low)
      ∧ (s.feed.edges = 0 → (s.mode = .run ∨ s.mode = .hold) →
        posDiff s.feed.peak (s.feed.position - 1) ≤ s.geometry.reverseLimit →
        Recomputes (.encoderEdge .reverse i o) s u
          { u with feed := { f with edges := s.geometry.encoderResolution - 1, position := s.feed.position - 1 } } .low)
      ∧ (s.feed.edges = 0 → (s.mode = .config ∨ s.mode = .service) →
        Recomputes (.encoderEdge .reverse i o) s u { u with feed := { f with
          edges := s.geometry.encoderResolution - 1
          position := s.feed.position - 1
          peak := s.feed.position - 1
          eyeIn := { s.feed.eyeIn with change := none }
          eyeOut := { s.feed.eyeOut with change := none } } } .low)

/-! ### The manifest (chapter 2) -/

/-- SCAN and the scan timer call a scan: it begins when none is in progress, and is remembered otherwise; until the preload ends SCAN has no
effect. The timer reloads itself with n + 1 units of 10 ms (R25, R26). A scan step ends the scan at a full staged queue, at a link of 0, at
a frame not POSTED and at a frame the part holds; nothing else changes (R27). The clock at the timer's expiry, and that the command of a
timer that does not run changes nothing, are the model's (log 1). -/
def Obligations.ScansAreCalledAndEnd : Prop :=
  ∀ s : State, s.running →
    (s.cfg.preload = .running → Reaches .scan s s)
      ∧ (s.cfg.preload ≠ .running → s.manifest.scanning = true →
        Reaches .scan s { s with manifest := { s.manifest with scanRequest := true } })
      ∧ (s.cfg.preload ≠ .running → s.manifest.scanning = false →
        Reaches .scan s { s with manifest := { s.manifest with scanning := true, scanRequest := false } })
      ∧ (∀ w, s.manifest.scanTimer = some w → s.cfg.preload ≠ .running → s.manifest.scanning = true →
        Reaches .scanTimerExpiry s { s with
          now := max s.now w
          manifest := { s.manifest with
            scanTimer := some (max s.now w + 10 * (s.manifest.scanReload + 1)), scanRequest := true } })
      ∧ (∀ w, s.manifest.scanTimer = some w → s.cfg.preload ≠ .running → s.manifest.scanning = false →
        Reaches .scanTimerExpiry s { s with
          now := max s.now w
          manifest := { s.manifest with
            scanTimer := some (max s.now w + 10 * (s.manifest.scanReload + 1)), scanning := true, scanRequest := false } })
      ∧ (s.manifest.scanTimer = none → Reaches .scanTimerExpiry s s)
      ∧ (s.manifest.scanning = false → Reaches .scanStep s s)
      ∧ (s.manifest.scanning = true → 4 ≤ s.manifest.staged.length → Reaches .scanStep s (s.scanEnded .full))
      ∧ (s.manifest.scanning = true → s.manifest.staged.length < 4 →
        s.ram.word (frameAddr s.manifest.cursor 0) = 0 → Reaches .scanStep s (s.scanEnded .chainEnd))
      ∧ (s.manifest.scanning = true → s.manifest.staged.length < 4 → ∀ f,
        (s.ram.word (frameAddr s.manifest.cursor 0)).toNat = f → 1 ≤ f → f ≤ 239 →
        (s.frameState f ≠ 1 → Reaches .scanStep s (s.scanEnded .notPosted))
          ∧ (s.frameState f = 1 → s.holdsFrame f = true → Reaches .scanStep s (s.scanEnded .held)))

/-- A link outside 1 to 239, and not 0, in the cursor frame is a link fault: LINK is raised, the scan ends, the cursor and every frame stay;
a link of 0 or within 1 to 239 raises no LINK (R28). -/
def Obligations.LinkFaultEndsTheScan : Prop :=
  ∀ s : State, s.running → s.manifest.scanning = true → s.manifest.staged.length < 4 →
    (239 < (s.ram.word (frameAddr s.manifest.cursor 0)).toNat →
        Reaches .scanStep s { s.scanEnded .linkFault with cause := s.cause ||| 0x0008#16 })
      ∧ ((s.ram.word (frameAddr s.manifest.cursor 0)).toNat ≤ 239 → Answers .scanStep s fun t =>
        t.pendingCause .link = s.pendingCause .link
          ∧ (t.manifest.endReason = .linkFault → s.manifest.endReason = .linkFault))

/-- A POSTED frame that passes its check and has a known kind is taken: TAKEN, a staged entry with the copy of its checked area, the cursor
and the hold mark; no other byte of a ticket frame changes (R23, R27, R32). -/
def Obligations.ScanStepTakesAPostedFrame : Prop :=
  ∀ (s : State) (f : Nat) (kind : TicketKind), s.running → s.manifest.scanning = true → s.manifest.staged.length < 4 →
    (s.ram.word (frameAddr s.manifest.cursor 0)).toNat = f → 1 ≤ f → f ≤ 239 → s.frameState f = 1 →
    s.holdsFrame f = false → sumWords (s.ram.readBytes (frameAddr f 4) 124) = 0 →
    TicketKind.ofCode (areaWord (s.ram.readBytes (frameAddr f 4) 124) 4) = some kind →
    Answers .scanStep s fun t =>
      { t with ram := s.ram } = ({ s with manifest := { s.manifest with
          cursor := f
          staged := s.manifest.staged ++ [
            { frame := f, kind := kind, tag := areaWord (s.ram.readBytes (frameAddr f 4) 124) 6,
              area := s.ram.readBytes (frameAddr f 4) 124, check := .notMade, bound := false }] } } : State).checkHead
        ∧ ∀ a, ¬ isPublished a → t.ram.read a =
          if a = frameAddr f 2 then 2
          else if a = frameAddr f 3 then 1
          else if s.manifest.cursor ≠ 0 ∧ a = frameAddr s.manifest.cursor 3 then 0
          else s.ram.read a

/-- A POSTED frame whose check fails, or whose kind is unknown, is rejected at scan and becomes the cursor: TAKEN passes to REJECTED with
the outcome, the rejection counter and REJECTED are raised, the hold mark moves, and nothing else changes (R23, R29, R36). That the rest of
its outcome is 0 is the model's choice (log 13). -/
def Obligations.ScanStepRejectsABadFrame : Prop :=
  ∀ (s : State) (f : Nat) (res : Result) (detail : Word), s.running → s.manifest.scanning = true →
    s.manifest.staged.length < 4 → (s.ram.word (frameAddr s.manifest.cursor 0)).toNat = f → 1 ≤ f → f ≤ 239 →
    s.frameState f = 1 → s.holdsFrame f = false →
    (res = .check ∧ detail = sumWords (s.ram.readBytes (frameAddr f 4) 124) ∧ detail ≠ 0
      ∨ res = .kind ∧ detail = areaWord (s.ram.readBytes (frameAddr f 4) 124) 4
        ∧ sumWords (s.ram.readBytes (frameAddr f 4) 124) = 0 ∧ TicketKind.ofCode detail = none) →
    Answers .scanStep s fun t =>
      { t with ram := s.ram } = { s with
          counters := { s.counters with rejections := s.counters.rejections + 1 }
          cause := s.cause ||| 0x0002#16
          manifest := { s.manifest with cursor := f } }
        ∧ t.ram.readBytes (frameAddr f 128) 128 = outcomeSection res detail.toNat (s.counters.rejections + 1)
          (s.ram.word (frameAddr f 6)) s.now []
        ∧ ∀ a, ¬ isPublished a → a < frameAddr f 128 ∨ frameAddr f 256 ≤ a → t.ram.read a =
          if a = frameAddr f 2 then 4
          else if a = frameAddr f 3 then 1
          else if s.manifest.cursor ≠ 0 ∧ a = frameAddr s.manifest.cursor 3 then 0
          else s.ram.read a

/-- The writing of a closure or a rejection: the counter and the cause in every case; the outcome section and the state byte only while the
frame stands TAKEN, and no other byte. The outcome section is 128 bytes, from offset 128 of the frame on: the common part carries result,
detail, sequence number, tag and closure time (R36); each kind-specific field stands at its offset, and every other byte is 0 (R206). The
outcome of a LOG ticket holds its fields at the offsets of section 12.5, by its codes (R59, R83, R207). -/
def Obligations.FrameIsClosedOnlyWhileTaken : Prop :=
  (∀ (s : State) (f : Nat) (tag : Word) (res : Result) (detail : Nat) (fields : List (Nat × List Byte)),
    { s.closeFrame f tag res detail fields with ram := s.ram } =
        (if res.rejects then
          { s with counters := { s.counters with rejections := s.counters.rejections + 1 }, cause := s.cause ||| 0x0002#16 }
        else
          { s with counters := { s.counters with closures := s.counters.closures + 1 }, cause := s.cause ||| 0x0001#16 })
      ∧ (s.frameState f ≠ 2 → (s.closeFrame f tag res detail fields).ram = s.ram)
      ∧ (s.frameState f = 2 →
        (s.closeFrame f tag res detail fields).frameState f = (if res.rejects then 4 else 3)
          ∧ (s.closeFrame f tag res detail fields).ram.readBytes (frameAddr f 128) 128 =
            outcomeSection res detail
              ((if res.rejects then s.counters.rejections else s.counters.closures) + 1) tag s.now fields
          ∧ ∀ a, a ≠ frameAddr f 2 → a < frameAddr f 128 ∨ frameAddr f 256 ≤ a →
            (s.closeFrame f tag res detail fields).ram.read a = s.ram.read a))
    ∧ (∀ (res : Result) (detail : Nat) (sequence tag : Word) (time : Nat) (fields : List (Nat × List Byte)),
      (∀ x ∈ fields, 140 ≤ x.1) →
      (outcomeSection res detail sequence tag time fields).take 12 =
        wordN res.code ++ wordN detail ++ bytesOfWord sequence ++ bytesOfWord tag ++ bytesOfLong (BitVec.ofNat 32 time))
    ∧ (∀ (res : Result) (detail : Nat) (sequence tag : Word) (time : Nat) (fields : List (Nat × List Byte)) (outcome : List Byte),
      outcome = outcomeSection res detail sequence tag time fields →
      (∀ x ∈ fields, 140 ≤ x.1 ∧ x.1 + x.2.length ≤ 256) →
      fields.Pairwise (fun x y => x.1 + x.2.length ≤ y.1 ∨ y.1 + y.2.length ≤ x.1) →
      outcome.length = 128 ∧ (∀ x ∈ fields, (outcome.drop (x.1 - 128)).take x.2.length = x.2)
        ∧ ∀ k, 140 ≤ k → k < 256 → (∀ x ∈ fields, k < x.1 ∨ x.1 + x.2.length ≤ k) → outcome[k - 128]? = some 0)
    ∧ (∀ (q : Record) (rep : ReportFields), logOutcome q rep =
      [(140, byteN q.tag.val), (141, byteN q.rowUsed),
       (142, byteN (match q.profileFault with
          | some why => why.code
          | none => 0)),
       (143, byteN q.orientation.code), (144, byteN (tempClassCode q.tempClass)), (145, byteN q.relation.code),
       (146, temperatureBytes q.reading), (148, bytesOfLong q.head), (152, bytesOfLong (q.tail.getD 0)),
       (156, wordN (q.measured.getD 0)), (158, wordN (q.expected.getD 0)),
       (160, wordN (bit q.profileFault.isSome 0 + bit q.tempHeld 1 + bit q.tempUnknown 2 + bit q.lengthMismatch 3
          + bit q.stall 4 + bit q.rotorDown 5 + bit rep.scannerFault 6 + bit rep.atLimit 7 + bit rep.gouge 8)),
       (162, byteN rep.residual), (163, byteI rep.change), (164, byteN rep.suppression.code)]
        ++ [(166, q.view1), (174, q.view2)].map fun (x : Nat × RotorView) => (x.1, byteN x.2.phase.code
          ++ byteN (bit x.2.jointHead 0 + bit x.2.jointTail 1) ++ wordN x.2.maxTarget ++ byteN x.2.reliefEntries
          ++ byteN x.2.lateLifts ++ byteN (x.2.minActive.getD 0xFF)))
    ∧ (temperatureBytes none = bytesOfWord 0x8000#16 ∧ (∀ v, temperatureBytes (some v) = wordI v)
      ∧ [Result.done, .failed, .worked, .workedNoReport, .lost].map Result.code = [1, 2, 3, 4, 5]
      ∧ [Result.check, .kind, .mode, .field, .busy].map Result.code = [16, 17, 18, 19, 20]
      ∧ [ProfileFault.speciesRange, .speciesInvalid, .stationCount, .stationOrder, .diameter, .expectedLength].map
        ProfileFault.code = [1, 2, 3, 4, 5, 6]
      ∧ [Suppression.notSuppressed, .noLearn, .profileFault, .guardRow, .rowInvalid, .stall, .rotorDown, .lateLift,
        .armsBelowFull, .noReport].map Suppression.code = List.range 10
      ∧ [Orientation.buttFirst, .topFirst].map Orientation.code = [0, 1])

/-- The head of the staged queue: with none nothing happens; a LOG ticket has its field check made, by the table of R43, and waits; a SYNC
ticket is closed DONE with the counters and counts at its closure (R31, R32, R35). When the head leaves, a scan is called and the entry
behind becomes the head, whose field check is made if it is a LOG ticket; nothing else changes (R33). -/
def Obligations.SyncTicketClosesAndLogTicketWaits : Prop :=
  ∀ s : State,
    (∀ (e : StagedTicket) (rest : List StagedTicket) (res : Result) (detail : Nat) (fields : List (Nat × List Byte)),
      s.manifest.staged = e :: rest → ∀ x ∈ [(s, s.departHead),
        (s.closeFrame e.frame e.tag res detail fields, s.headFinished e res detail fields)],
      x.2 = { x.1 with manifest := { s.manifest with
        staged := match rest with
          | [] => []
          | b :: more =>
            (if b.kind = .log ∧ b.check = .notMade then { b with check := s.logFieldCheck b.area } else b) :: more
        scanning := s.manifest.scanning || decide (s.cfg.preload ≠ .running)
        scanRequest := if s.cfg.preload = .running then s.manifest.scanRequest else s.manifest.scanning } })
    ∧ (∀ (area : List Byte) (species stations length : Nat) (read : List Station),
      species = (areaWord area 8).toNat → stations = (areaWord area 18).toNat → length = (areaWord area 12).toNat →
      read = (List.range (min stations 16)).map (fun k =>
        ⟨(areaWord area (20 + 4 * k)).toNat, (areaWord area (20 + 4 * k + 2)).toNat⟩) →
      s.logFieldCheck area =
        if 31 < species then .failed .speciesRange
        else if (s.row species).valid = false then .failed .speciesInvalid
        else if stations = 0 ∨ 16 < stations then .failed .stationCount
        else if ¬ read.Pairwise (fun p q => p.distance < q.distance) then .failed .stationOrder
        else if ∃ p ∈ read, p.diameter < 60 ∨ (s.geometry.maxAperture : Int) - s.geometry.clearance < p.diameter then
          .failed .diameter
        else if length < 300 ∨ 20000 < length then .failed .expectedLength
        else .passed)
    ∧ (s.running →
      (s.manifest.staged = [] → Reaches .ticketTakeUp s s)
        ∧ ∀ (e : StagedTicket) (rest : List StagedTicket), s.manifest.staged = e :: rest →
          (e.kind = .log → e.check ≠ .notMade → Reaches .ticketTakeUp s s)
            ∧ (e.kind = .log → e.check = .notMade → Reaches .ticketTakeUp s
              { s with manifest := { s.manifest with staged := { e with check := s.logFieldCheck e.area } :: rest } })
            ∧ (e.kind = .sync → Reaches .ticketTakeUp s (s.headFinished e .done 0
              [(140, bytesOfWord (s.counters.closures + 1)), (142, bytesOfWord s.counters.rejections),
               (144, bytesOfWord s.counters.orphans), (146, bytesOfWord s.counters.stubs),
               (148, bytesOfWord s.counters.mismatches), (150, bytesOfWord s.counters.discarded),
               (152, bytesOfWord s.counters.unworked), (154, byteN s.queue.length), (155, byteN rest.length)])))

/-- A row's bytes as section 12.5 lays them out, and the checks of R92 over the ranges of R88: a SPECIES ticket that fails a check is
rejected FIELD with the check's number; one that passes writes the named row by its trim handling, and is closed DONE with the row's cells
(R93). The rest of a refused ticket's outcome is 0 by the model's choice (log 13); of a valid flag that is neither 0 nor 1 nothing is said
(log 8). -/
def Obligations.SpeciesTicketWritesTheNamedRow : Prop :=
  (∀ (bs : List Byte) (row : SpeciesRow) (word : Nat → Nat), row = .ofBytes bs →
      word = (fun k => (wordOf (bs.getD k 0) (bs.getD (k + 1) 0)).toNat) →
      (bs.getD 0 0 = 0 → row.valid = false) ∧ (bs.getD 0 0 = 1 → row.valid = true) ∧ row.trimLimit = (bs.getD 1 0).toNat
        ∧ [row.band0, row.band1, row.band2, row.band3, row.band4, row.band5] = [2, 4, 6, 8, 10, 12].map word
        ∧ [row.entry, row.minimum, row.maximum, row.frozenAdd] = [14, 16, 18, 20].map word
        ∧ [row.buttLength, row.buttFactor, row.topLength, row.topFactor] = [22, 24, 26, 28].map word
        ∧ [row.rotor2Share, row.deadBand, row.trimStep] = [30, 32, 34].map word
        ∧ row.trimFrozen = (bs.getD 36 0).toInt ∧ row.trimThawed = (bs.getD 37 0).toInt
        ∧ [row.residualTarget, row.burstWindow] = [38, 40].map word ∧ row.threshold = (bs.getD 42 0).toNat
        ∧ row.maxDepth = (bs.getD 43 0).toNat ∧ [row.decayInterval, row.reliefStep] = [44, 46].map word)
  ∧ (∀ (k : Nat) (row : SpeciesRow) (fields : List (Nat × Nat × Nat)),
      fields = [(row.band0, 0, 600), (row.band1, 0, 600), (row.band2, 0, 600), (row.band3, 0, 600), (row.band4, 0, 600),
        (row.band5, 0, 600), (row.entry, 0, 600), (row.minimum, 0, 600), (row.maximum, 0, 600), (row.frozenAdd, 0, 200),
        (row.buttLength, 0, 10000), (row.buttFactor, 50, 200), (row.topLength, 0, 10000), (row.topFactor, 50, 200),
        (row.rotor2Share, 50, 150), (row.deadBand, 0, 100), (row.trimStep, 0, 50), (row.trimLimit, 0, 15),
        (row.residualTarget, 0, 100), (row.burstWindow, 1, 1000), (row.threshold, 1, 255), (row.maxDepth, 1, 255),
        (row.decayInterval, 10, 10000), (row.reliefStep, 0, 300)] →
      rowCheck k row =
        if 31 < k then some 1
        else if ∃ f ∈ fields, f.1 < f.2.1 ∨ f.2.2 < f.1 then some 2
        else if row.maximum < row.minimum then some 3
        else if row.maxDepth < row.threshold then some 4
        else if (row.trimLimit : Int) < row.trimFrozen.natAbs ∨ (row.trimLimit : Int) < row.trimThawed.natAbs then some 5
        else if k = 0 ∧ (row.trimFrozen ≠ 0 ∨ row.trimThawed ≠ 0) then some 6
        else none)
  ∧ ∀ (s : State) (e : StagedTicket) (rest : List StagedTicket) (k : Nat) (handling : Word) (row live : SpeciesRow),
    s.running → s.manifest.staged = e :: rest → e.kind = .species → e.frame ≤ 239 →
    k = (areaWord e.area 8).toNat → handling = areaWord e.area 10 → row = .ofBytes (areaBytes e.area 12 64) → live = s.row k →
    (∀ n, rowCheck k row = some n → Reaches .ticketTakeUp s (s.headFinished e .field n []))
      ∧ (rowCheck k row = none → ∀ x : SpeciesRow,
        x = { row with
          valid := row.valid || k == 0
          trimFrozen := if handling = 1 then 0 else if handling = 2 then row.trimFrozen
            else max (-(row.trimLimit : Int)) (min live.trimFrozen row.trimLimit)
          trimThawed := if handling = 1 then 0 else if handling = 2 then row.trimThawed
            else max (-(row.trimLimit : Int)) (min live.trimThawed row.trimLimit) } →
        Reaches .ticketTakeUp s ((s.setRow k x).headFinished e .done 0
          [(140, byteN k), (141, byteN (bit x.valid 0)), (142, byteI x.trimFrozen), (143, byteI x.trimThawed),
           (144, byteN (bit (handling != 1 && handling != 2
              && (x.trimFrozen != live.trimFrozen || x.trimThawed != live.trimThawed)) 0))]))

/-- The checks of a TRIM ticket, in their order; the first that fails rejects it FIELD with the check's number, and nothing else of the
machine changes (R183). A ticket that passes them is not refused: SET_ROW writes both cells of the named row; CLEAR_ALL, which reads no row
index and no cell, sets both cells of every row to 0; the outcome says which rows changed (R184). That the rest of a refused ticket's
outcome is 0 is the model's choice (log 13). -/
def Obligations.TrimTicketsAreCheckedAndWriteTheCells : Prop :=
  ∀ (s : State) (e : StagedTicket) (rest : List StagedTicket) (action k : Nat) (frozen thawed : Int),
    s.running → s.manifest.staged = e :: rest → e.kind = .trim →
    action = (areaWord e.area 8).toNat → k = (areaWord e.area 10).toNat →
    frozen = (areaWord e.area 12).toInt → thawed = (areaWord e.area 14).toInt →
    (action ≠ 1 → action ≠ 2 → Reaches .ticketTakeUp s (s.headFinished e .field 1 []))
      ∧ (action = 1 → 31 < k → Reaches .ticketTakeUp s (s.headFinished e .field 2 []))
      ∧ (action = 1 → k ≤ 31 →
        ¬ (withinTrim (s.row k).trimLimit frozen = true ∧ withinTrim (s.row k).trimLimit thawed = true) →
        Reaches .ticketTakeUp s (s.headFinished e .field 3 []))
      ∧ (action = 1 → k = 0 → withinTrim (s.row k).trimLimit frozen = true →
        withinTrim (s.row k).trimLimit thawed = true → ¬ (frozen = 0 ∧ thawed = 0) →
        Reaches .ticketTakeUp s (s.headFinished e .field 4 []))
      ∧ ((action = 2 ∨ action = 1 ∧ k ≤ 31 ∧ withinTrim (s.row k).trimLimit frozen = true
          ∧ withinTrim (s.row k).trimLimit thawed = true ∧ (k = 0 → frozen = 0 ∧ thawed = 0)) →
        Answers .ticketTakeUp s fun t => t.counters.rejections = s.counters.rejections
          ∧ t.pendingCause .rejected = s.pendingCause .rejected)
      ∧ (action = 1 → k ≤ 31 → withinTrim (s.row k).trimLimit frozen = true → withinTrim (s.row k).trimLimit thawed = true →
        (k = 0 → frozen = 0 ∧ thawed = 0) →
        Reaches .ticketTakeUp s ((s.setRow k { s.row k with trimFrozen := frozen, trimThawed := thawed }).headFinished e
          .done 0 [(140, byteN 1), (141, byteN k), (142, byteI frozen), (143, byteI thawed)]))
      ∧ (action = 2 → Reaches .ticketTakeUp s
        (({ s with species := s.species.map fun (x : SpeciesRow) => { x with trimFrozen := 0, trimThawed := 0 } } :
            State).headFinished e .done 0
          [(140, byteN 2),
           (144, byteN (s.species.toList.filter fun (x : SpeciesRow) => x.trimFrozen != 0 || x.trimThawed != 0).length)]))

/-- An ARM ticket: its checks, OUT with cause BY_TICKET, and RETURN: nothing for an arm in service, return-pending while the rotor is not
idle or the latch is set, else STANDBY at once with the park timer started (R130, R131). Where the arm leaves service or returns, the active
count changes with all that follows it (R105, R132, R169); OUT of an arm that is OUT already changes no count. A refused ticket's outcome
has its kind-specific fields too (R206); that those of an arm are 0 where the ticket names none, and that a rotor, index or action above 255
leaves its low byte in its one-byte field, are the model's choices (log 13). -/
def Obligations.ArmTicketTakesArmsOutAndBack : Prop :=
  ∀ (s : State) (e : StagedTicket) (rest : List StagedTicket) (rotor index action : Nat),
    s.running → s.manifest.staged = e :: rest → e.kind = .arm →
    rotor = (areaWord e.area 8).toNat → index = (areaWord e.area 10).toNat → action = (areaWord e.area 12).toNat →
    ((rotor = 0 ∨ 2 < rotor ∨ index = 0 ∨ 5 < index) → Reaches .ticketTakeUp s (s.headFinished e .field 1
        [(140, byteN rotor), (141, byteN index), (142, byteN action)]))
      ∧ ∀ a, armOf rotor index = some a →
        (∀ n : Nat, (n = 2 ∧ action ≠ 1 ∧ action ≠ 2 ∨ n = 3 ∧ action = 2 ∧ (s.arm a).present = false) →
            Reaches .ticketTakeUp s (s.headFinished e .field n
              [(140, byteN rotor), (141, byteN index), (142, byteN action), (143, byteN (s.arm a).state.code),
               (144, byteN (outCauseCode (s.arm a).outCause)), (145, byteN (bit (s.arm a).returnPending 0)),
               (146, byteN (bit (s.arm a).present 0))]))
          ∧ (action = 1 → Answers .ticketTakeUp s fun t =>
            (t.arm a).state = .out ∧ (t.arm a).outCause = some .byTicket ∧ (t.arm a).returnPending = false
              ∧ (t.arm a).inserted = false ∧ t.manifest.staged.length = rest.length
              ∧ t.counters.closures = s.counters.closures + 1 ∧ t.pendingCause .closed = true
              ∧ ((s.arm a).state ≠ .out → t.activeCount (rotorOf a) + 1 = s.activeCount (rotorOf a) ∧ CountFollows s t a)
              ∧ ((s.arm a).state = .out → t.holds = s.holds ∧ t.queue = s.queue
                ∧ t.pendingCause .rotor = s.pendingCause .rotor ∧ ∀ b, b ≠ a → GrantedOnly s t b))
          ∧ (action = 2 → (s.arm a).present = true → (s.arm a).state ≠ .out →
            Reaches .ticketTakeUp s (s.headFinished e .done 0
              [(140, byteN rotor), (141, byteN index), (142, byteN 2), (143, byteN (s.arm a).state.code),
               (144, byteN (outCauseCode (s.arm a).outCause)), (145, byteN (bit (s.arm a).returnPending 0)), (146, [1])]))
          ∧ (action = 2 → (s.arm a).present = true → (s.arm a).state = .out →
            ((s.current? (rotorOf a)).isSome = true ∨ s.latch = true) →
            Reaches .ticketTakeUp s ((s.setArm a { s.arm a with returnPending := true }).headFinished e .done 0
              [(140, byteN rotor), (141, byteN index), (142, byteN 2), (143, [7]),
               (144, byteN (outCauseCode (s.arm a).outCause)), (145, [1]), (146, [1])]))
          ∧ (action = 2 → (s.arm a).present = true → (s.arm a).state = .out →
            s.current? (rotorOf a) = none → s.latch = false → Answers .ticketTakeUp s fun t =>
              (t.arm a).state = .standby ∧ (t.arm a).outCause = none ∧ (t.arm a).returnPending = false
                ∧ (t.arm a).inserted = false ∧ t.activeCount (rotorOf a) = s.activeCount (rotorOf a) + 1
                ∧ (t.rotor (rotorOf a)).park = some (s.now + s.geometry.parkDelay) ∧ CountFollows s t a)

/-- The geometry block as section 12.5 lays it out, and the checks of R195 over the ranges of the parameter tables (R17, R60, R86, R108,
R133, R148, R173), with the offset of the first field out of range. A GEOMETRY ticket is refused MODE outside CONFIG, and FIELD with the
first failed check; one that passes replaces the geometry whole, which becomes valid, and is closed DONE with the block's check (R31, R137,
R195, R196). Each STANDBY arm is vented to the new release target, which becomes its target (R102, R119); every other arm is as before or
only granted; each waiting request whose age has reached its class's new limit is elevated (R141); beside grants nothing else changes. What
else a refused ticket's outcome holds is the model's choice (log 13). -/
def Obligations.GeometryTicketReplacesTheGeometry : Prop :=
  (∀ (g : Geometry) (fields : List (Int × Int × Int)),
      fields =
        ([(g.encoderResolution, 1, 64), (g.eyeDebounce, 2, 100), (g.reverseLimit, 10, 500), (g.maxLogLength, 1000, 30000),
         (g.outfeedTolerance, 10, 1000), (g.stallWindow, 50, 5000), (g.stubLimit, 100, 2000), (g.lengthTolerance, 10, 5000),
         (g.guardDiameter, 60, 900), (g.frozenThreshold, -200, 50), (g.tempHoldLimit, 0, 20), (g.entryLead, 100, 1000),
         (g.rampLength, 0, 1000), (g.releaseLead, 20, 90), (g.jointGap, 0, 1000), (g.clearance, 10, 200),
         (g.maxAperture, 300, 1200), (g.parkDelay, 500, 60000), (g.reportWindow, 200, 20000), (g.band1, 60, 1200),
         (g.band2, 60, 1200), (g.band3, 60, 1200)] : List (Int × Int × Int)) ++
        ([(g.band4, 60, 1200), (g.band5, 60, 1200), (g.machineMax, 100, 600), (g.stallPressure, 0, 600),
         (g.releasePressure, 0, 200), (g.chargeTimeout, 50, 1000), (g.liftTimeout, 50, 2000), (g.wakeAllowance, 0, 2000),
         (g.slotsNormal, 1, 4), (g.slotsLow, 1, 4), (g.protectionPeriod, 0, 200), (g.fairHigh, 1, 1000),
         (g.fairNormal, 1, 1000), (g.fairLow, 1, 1000), (g.supplySpan, 400, 2500), (g.supplyLow, 100, 1500),
         (g.supplyCritical, 50, 1400), (g.supplyHysteresis, 0, 200), (g.settleTime, 100, 10000), (g.d1, 600, 10000),
         (g.d2, 1200, 20000), (g.d3, 1500, 30000)] : List (Int × Int × Int)) →
      (∀ w : Nat → Word, g = .ofWords w → ∀ k v low high, fields[k]? = some (v, low, high) →
          v = if k = 9 then (w k).toInt else (w k).toNat)
        ∧ g.toBytes = fields.flatMap (fun f => wordI f.1) ++ List.replicate 40 0
        ∧ (∀ before v low high behind, fields = before ++ (v, low, high) :: behind → (v < low ∨ high < v) →
          (∀ f ∈ before, f.2.1 ≤ f.1 ∧ f.1 ≤ f.2.2) →
          g.firstFailed = some 1 ∧ g.firstOutOfRange = some (2 * before.length))
        ∧ ((∀ f ∈ fields, f.2.1 ≤ f.1 ∧ f.1 ≤ f.2.2) → g.firstFailed =
          if (g.d1 : Int) - g.entryLead < g.stubLimit + g.eyeDebounce then some 2
          else if g.d2 < g.d1 + 600 then some 3
          else if g.d3 < g.d2 + 300 then some 4
          else if ¬ (g.band1 < g.band2 ∧ g.band2 < g.band3 ∧ g.band3 < g.band4 ∧ g.band4 < g.band5) then some 5
          else if g.supplyLow ≤ g.supplyCritical + g.supplyHysteresis then some 6
          else if g.slotsNormal < g.slotsLow then some 7
          else if g.maxAperture < g.guardDiameter + g.clearance then some 8
          else none))
  ∧ ∀ (s : State) (e : StagedTicket) (rest : List StagedTicket) (g : Geometry),
    s.running → s.manifest.staged = e :: rest → e.kind = .geometry → g = .ofWords (fun k => areaWord e.area (8 + 2 * k)) →
    (s.mode ≠ .config → Reaches .ticketTakeUp s (s.headFinished e .mode s.mode.code []))
      ∧ (s.mode = .config → g.firstFailed = some 1 → ∀ k, g.firstOutOfRange = some k →
        Reaches .ticketTakeUp s (s.headFinished e .field 1 [(142, wordN k)]))
      ∧ (s.mode = .config → ∀ n, g.firstFailed = some n → n ≠ 1 →
        Reaches .ticketTakeUp s (s.headFinished e .field n []))
      ∧ (s.mode = .config → g.firstFailed = none → Answers .ticketTakeUp s fun t => ∀ (u : State) (release : Nat),
        u = { s with
            geometry := g
            geometryValid := true
            feed := { s.feed with
              edges := if g.encoderResolution = s.geometry.encoderResolution then s.feed.edges else 0 }
            temp := { s.temp with heldLogs := min s.temp.heldLogs g.tempHoldLimit }
            arbiter := { s.arbiter with slots := slotsFor g s.supply.level } }.headFinished e .done 0
              [(140, bytesOfWord (sumWords g.toBytes))] →
        release = min g.releasePressure g.machineMax →
          t.withoutFlow = u.withoutFlow ∧ TicketFramesKept u t
            ∧ (∀ a, (s.arm a).state = .standby → t.arm a = { s.arm a with
                flow := .idle
                commanded := min (s.arm a).commanded release
                target := release
                valve := .vent (min (s.arm a).commanded release)
                vents := min ((s.arm a).vents + 1) 255 })
            ∧ (∀ a, (s.arm a).state ≠ .standby → GrantedOnly u t a)
            ∧ ∀ x ∈ t.arbiter.wait, ∃ y ∈ s.arbiter.wait, x.arm = y.arm ∧ x.entered = y.entered
              ∧ x.elevated = (y.elevated || match (s.waitingClass y.arm).bind (fairnessLimit g) with
                | some limit => decide (limit ≤ s.now - y.entered)
                | none => false))

/-- A SAVE ticket is refused BUSY while a save is in flight; otherwise it becomes the save in flight, WAITING while a transfer runs, else
writing page 1 with the geometry copied whole, and leaves the queue with its frame TAKEN (R31, R197). The rest of a refused ticket's outcome
is 0 by the model's choice (log 13). -/
def Obligations.SaveTicketStartsTheSave : Prop :=
  ∀ (s : State) (e : StagedTicket) (rest : List StagedTicket),
    s.running → s.manifest.staged = e :: rest → e.kind = .save →
    (∀ x, s.cfg.save = some x → Reaches .ticketTakeUp s (s.headFinished e .busy x.frame []))
      ∧ (s.cfg.save = none → s.cfg.transfer.isSome = true → Reaches .ticketTakeUp s
        ({ s with cfg := { s.cfg with save := some (Save.mk e.frame e.tag none 0 []) } } : State).departHead)
      ∧ (s.cfg.save = none → s.cfg.transfer = none → Reaches .ticketTakeUp s
        ({ s with cfg := { s.cfg with save := some (Save.mk e.frame e.tag
            (some ⟨1, s.geometry.toBytes.take 64, s.now + 10⟩) (sumWords (s.geometry.toBytes.take 64))
            s.geometry.toBytes) } } : State).departHead)

/-! ### Binding (chapter 3) -/

/-- A sample of the temperature loop: valid from 3.6 mA to 21.0 mA inclusive and clamped to 4 to 20 mA, else faulted; the next falls due 100
ms later (R49). The temperature class of a new record, by the table of R50: its latched sample, class, reading used and flag, and the
held-log count. The truncation of the scaled current (log 9) and the clock at a sample (log 1, log 29) are the model's choices. -/
def Obligations.TemperatureSamplesAndClassesFollowTheirTables : Prop :=
  (∀ (s : State) (i : Nat), s.running →
      (3600 ≤ i → i ≤ 21000 → ∀ v : Int, v = (((max 4000 (min i 20000) - 4000) * 1000 / 16000 : Nat) : Int) - 400 →
          Reaches (.temperatureSample i) s { s with
            now := max s.now s.temp.nextSample
            pins := { s.pins with tempMicroAmp := i }
            temp := ⟨some v, some v, 0, max s.now s.temp.nextSample + 100⟩ })
        ∧ (i < 3600 ∨ 21000 < i →
          Reaches (.temperatureSample i) s { s with
            now := max s.now s.temp.nextSample
            pins := { s.pins with tempMicroAmp := i }
            temp := { s.temp with latest := none, nextSample := max s.now s.temp.nextSample + 100 } }))
    ∧ ∀ (s : State) (q : Record), q.tempHeld = false → q.tempUnknown = false →
      (q.frozenFlag = .frozen →
          s.classed q = { q with latched := s.temp.latest, tempClass := some .frozen, reading := s.temp.latest })
        ∧ (q.frozenFlag = .thawed →
          s.classed q = { q with latched := s.temp.latest, tempClass := some .thawed, reading := s.temp.latest })
        ∧ (q.frozenFlag = .unflagged → ∀ v, s.temp.latest = some v →
          s.classed q = { q with
            latched := some v
            tempClass := some (if v ≤ s.geometry.frozenThreshold then .frozen else .thawed)
            reading := some v })
        ∧ (q.frozenFlag = .unflagged → s.temp.latest = none → ∀ v, s.temp.lastValid = some v →
          s.temp.heldLogs < s.geometry.tempHoldLimit →
          s.classed q = { q with
              latched := none
              tempClass := some (if v ≤ s.geometry.frozenThreshold then .frozen else .thawed)
              reading := some v
              tempHeld := true }
            ∧ (s.temp.hold (s.classed q)).heldLogs = s.temp.heldLogs + 1)
        ∧ (q.frozenFlag = .unflagged → s.temp.latest = none →
          (s.temp.lastValid = none ∨ s.geometry.tempHoldLimit ≤ s.temp.heldLogs) →
          s.classed q = { q with latched := none, tempClass := some .thawed, reading := none, tempUnknown := true }
            ∧ (s.temp.hold (s.classed q)).heldLogs = s.temp.heldLogs)

/-- A head event in RUN or HOLD with a place free appends one provisional record with the lowest free tag, in APPROACH at both rotors, its
predecessor relation by the table of R65 and its temperature class by that of R50, bound to the LOG ticket at the head of the staged queue
with the ticket's values, or with guard values where its field check failed, or an ORPHAN on the guard row; a rotor at which it is current
arms its lift mark, here ahead of the peak (R42 to R48, R66). A LOG ticket at the head is marked bound; a head of another kind stays as it
is. With six records in the queue it is a QUEUE_FULL fault (R44); in CONFIG or SERVICE it is counted as an unworked passage only (R58). In
every case it calls a scan while the staged queue is empty (R25). Of a created record, nothing else but its marks changes. -/
def Obligations.HeadEventCreatesAProvisionalRecord : Prop :=
  ∀ (s : State) (head : Pos),
    ((s.mode = .run ∨ s.mode = .hold) → s.queue.length < 6 →
        (∀ r, s.ahead (posAdd head ((s.geometry.toolPlane r : Int) - s.geometry.entryLead))) → ∀ t, s.freeTag = some t →
        ∃ q, (s.headEvent head).queue = s.queue ++ [q] ∧ q.tag = t ∧ q.head = head ∧ q.tail = none ∧ q.provisional = true
          ∧ q.outfeed = .inMachine ∧ q.view1.phase = .approach ∧ q.view2.phase = .approach
          ∧ (s.queue = [] → q.relation = .apart)
          ∧ (∀ p tail, s.queue.getLast? = some p → p.tail = some tail → q.relation =
            if p.kind = .stub then
              if posDiff head tail < s.geometry.entryLead then .stubBehind else .apart
            else if posDiff head tail < s.geometry.jointGap then .joint
            else if posDiff head tail < s.geometry.entryLead then .close
            else .apart)
          ∧ (s.headEvent head).holds.transitFull = (decide (5 ≤ s.queue.length) || s.holds.transitFull)
          ∧ (∀ r, s.current? r = none → (s.headEvent head).armed (clientOf r) t .lift
            (posAdd head ((s.geometry.toolPlane r : Int) - s.geometry.entryLead)))
          ∧ (∀ r, (s.current? r).isSome = true →
            (s.headEvent head).feed.marks.get (clientOf r) t = s.feed.marks.get (clientOf r) t)
          ∧ (s.headIsLog = false → q.kind = .orphan ∧ q.frame = none ∧ q.hostTag = none ∧ q.row = some (s.row 0)
            ∧ q.rowUsed = 0 ∧ q.noLearn = true ∧ q.orientation = .buttFirst ∧ q.frozenFlag = .unflagged
            ∧ q.expected = none ∧ q.working = s.geometry.maxLogLength ∧ q.profileFault = none
            ∧ q.stations = [⟨0, s.geometry.guardDiameter⟩])
          ∧ (s.headEvent head).manifest = { s.manifest with
              staged := (match s.manifest.staged with
                | e :: rest => if e.kind = .log then { e with bound := true } :: rest else e :: rest
                | [] => [])
              scanning := s.manifest.scanning || (s.manifest.staged.isEmpty && decide (s.cfg.preload ≠ .running))
              scanRequest := if s.manifest.staged ≠ [] ∨ s.cfg.preload = .running then s.manifest.scanRequest
                else s.manifest.scanning }
          ∧ (∀ e rest, s.manifest.staged = e :: rest → e.kind = .log →
            q.kind = .log ∧ q.frame = some e.frame ∧ q.hostTag = some e.tag
              ∧ (∀ why, e.check = .failed why → q.profileFault = some why ∧ q.row = some (s.row 0))
              ∧ q.orientation = (if areaWord e.area 10 = 1 then .topFirst else .buttFirst)
              ∧ q.frozenFlag = (if areaWord e.area 14 = 1 then .frozen else if areaWord e.area 14 = 2 then .thawed
                else .unflagged)
              ∧ q.noLearn = (areaWord e.area 16).getLsbD 0
              ∧ (∀ why, e.check = .failed why → q.rowUsed = 0 ∧ q.stations = [⟨0, s.geometry.guardDiameter⟩]
                ∧ q.expected = none ∧ q.working = s.geometry.maxLogLength)
              ∧ (e.check = .passed → ∀ species length : Nat, species = (areaWord e.area 8).toNat →
                length = (areaWord e.area 12).toNat →
                q.profileFault = none ∧ q.row = some (s.row species) ∧ q.rowUsed = species
                ∧ q.expected = some length ∧ q.working = length
                ∧ q.stations = (List.range (min (areaWord e.area 18).toNat 16)).map (fun k =>
                  ⟨(areaWord e.area (20 + 4 * k)).toNat, (areaWord e.area (20 + 4 * k + 2)).toNat⟩)))
          ∧ q = s.classed { q with tempHeld := false, tempUnknown := false }
          ∧ (s.headEvent head).temp = { s.temp with
            heldLogs := if q.tempHeld then s.temp.heldLogs + 1 else s.temp.heldLogs }
          ∧ { s.headEvent head with
              queue := s.queue
              manifest := s.manifest
              temp := s.temp
              holds := { (s.headEvent head).holds with transitFull := s.holds.transitFull }
              feed := { (s.headEvent head).feed with marks := s.feed.marks } } = s)
      ∧ (∀ u : State, u.headScan = { u with manifest := { u.manifest with
        scanning := u.manifest.scanning || (u.manifest.staged.isEmpty && decide (u.cfg.preload ≠ .running))
        scanRequest := if u.manifest.staged ≠ [] ∨ u.cfg.preload = .running then u.manifest.scanRequest
          else u.manifest.scanning } })
      ∧ ((s.mode = .run ∨ s.mode = .hold) → 6 ≤ s.queue.length →
        s.headEvent head = (s.trackFault .queueFull).headScan)
      ∧ ((s.mode = .config ∨ s.mode = .service) →
        s.headEvent head = { s with counters := { s.counters with unworked := s.counters.unworked + 1 } }.headScan)

/-- The tail event measures the newest record and classifies it, no longer provisional, with its tail and measured length (R51). Below "stub
limit" it is a STUB, counted, its binding undone and its ticket's values given up (R52). Otherwise it is a confirmed LOG, whose ticket
leaves the staged queue, where a scan is called and the entry behind has its field check made (R33, R53), with LENGTH_MISMATCH set and
counted exactly where the measured length lies further than "length tolerance" from the expected one (R55); or a confirmed ORPHAN, counted
and raised (R54). The working length is then the measured one, and the manifest RAM stays. Its tail is handed to each rotor by the table of
R71: a stub in LIFT has the arms asked for "maximum aperture" and, when it is current, its tail mark; a record in ENTRY the release mark
where BODY is skipped; one in BODY the nearest point ahead. Its outfeed mark stands armed at tail position + "D3" (R79). The marks lie ahead
of the peak here, and the records' tags differ for the hand-over (an invariant of the reader's statement below). -/
def Obligations.TailEventClassifiesTheRecord : Prop :=
  ∀ (s t : State) (tail : Pos) (q : Record), s.queue.getLast? = some q → t = s.tailEvent tail →
    s.ahead (posAdd tail s.geometry.d3) → ∀ n, n = (posDiff tail q.head).toNat →
    t.armed .transit q.tag .outfeed (posAdd tail s.geometry.d3) ∧ t.ram = s.ram
      ∧ (∃ x, t.record? q.tag = some x ∧ x.tail = some tail ∧ x.measured = some n ∧ x.working = n ∧ x.provisional = false
        ∧ x.head = q.head
        ∧ (n < s.geometry.stubLimit → x.kind = .stub ∧ x.frame = none ∧ x.hostTag = none ∧ x.row = none ∧ x.stations = []
          ∧ x.expected = none ∧ x.tempClass = none ∧ x.profileFault = none ∧ x.tempHeld = false ∧ x.tempUnknown = false)
        ∧ (s.geometry.stubLimit ≤ n → x.kind = q.kind ∧ x.frame = q.frame ∧ x.hostTag = q.hostTag ∧ x.row = q.row
          ∧ x.stations = q.stations ∧ x.expected = q.expected ∧ x.tempClass = q.tempClass
          ∧ x.profileFault = q.profileFault ∧ x.tempHeld = q.tempHeld ∧ x.tempUnknown = q.tempUnknown
          ∧ (q.kind = .orphan → x.lengthMismatch = q.lengthMismatch)
          ∧ (q.kind = .log → ∀ off : Bool,
            off = (match q.expected with
              | some m => decide ((s.geometry.lengthTolerance : Int) < ((n : Int) - m).natAbs)
              | none => false) →
            x.lengthMismatch = (q.lengthMismatch || off)
              ∧ t.counters = { s.counters with
                mismatches := if off = true then s.counters.mismatches + 1 else s.counters.mismatches })))
      ∧ (n < s.geometry.stubLimit → t.counters = { s.counters with stubs := s.counters.stubs + 1 }
        ∧ (q.frame.isSome = false → t.manifest = s.manifest)
        ∧ (q.frame.isSome = true → t.manifest = { s.manifest with staged := match s.manifest.staged with
          | e :: rest => { e with bound := false } :: rest
          | [] => [] }))
      ∧ (s.geometry.stubLimit ≤ n → q.kind = .orphan →
        t.counters = { s.counters with orphans := s.counters.orphans + 1 } ∧ t.pendingCause .orphan = true
          ∧ t.manifest = s.manifest)
      ∧ (s.geometry.stubLimit ≤ n → q.kind = .log → t.manifest = s.departHead.manifest)
      ∧ (q.kind ≠ .stub → (s.queue.map Record.tag).Nodup → ∀ y : Record, y = { q with tail := some tail, working := n } →
        (∀ r, s.handOverAhead r y tail) → ∀ r, HandedOver s t r y tail)

/-! ### Phases, targets and arms (chapters 4 to 7) -/

/-- An armed mark (R11, R12). One ahead of the peak takes its place, over the mark that stood there; one the peak has reached is delivered
at the moment it is armed and its place is left empty. At a new-peak step the marks reached are delivered one by one, of one client those of
the oldest record first, each leaving its place empty, until none is due (the bound on their number: log 25). The outfeed mark puts its
record in AWAIT_REPORT and arms the window end "report window" further on (R79); the window end closes the record WORKED_NO_REPORT
(R80). A record that is closed leaves the queue and its marks with it, TRANSIT_FULL follows the queue, and the frame it holds is closed
(R13, R81, R170). -/
def Obligations.MarksFireOnceWhenReached : Prop :=
  State.arming.placesAhead
    ∧ (∀ s c q p x, reached s.feed.peak x = true → s.record? q.tag = some q → ∃ arm : Arming, arm.placesAhead ∧
        State.arming s c q.tag p x = (s.setMark c q.tag none).deliverMark arm c q ⟨p, x⟩)
    ∧ (∀ s : State, s.dueMark = none ↔
        ∀ q ∈ s.queue, ∀ c m, s.feed.marks.get c q.tag = some m → s.ahead m.position)
    ∧ (∀ (s : State) c q m, s.dueMark = some (c, q, m) →
        s.feed.marks.get c q.tag = some m ∧ reached s.feed.peak m.position = true
          ∧ (∃ before behind, s.queue = before ++ q :: behind
            ∧ ∀ b ∈ before, ∀ x, s.feed.marks.get c b.tag = some x → s.ahead x.position)
          ∧ ∀ n, State.fireMarks (n + 1) s =
            State.fireMarks n ((s.setMark c q.tag none).deliverMark State.arming c q m))
    ∧ (∀ n s, s.dueMark = none → State.fireMarks n s = s)
    ∧ (∀ (s : State) (arm : Arming) q p, arm.placesAhead → s.ahead (posAdd p s.geometry.reportWindow) →
        s.deliverMark arm .transit q ⟨.outfeed, p⟩ =
          ({ s with queue := s.queue.map fun x => if x.tag = q.tag then { x with outfeed := .awaitReport } else x } :
            State).setMark .transit q.tag (some ⟨.windowEnd, posAdd p s.geometry.reportWindow⟩))
    ∧ (∀ (s : State) (arm : Arming) q p, s.deliverMark arm .transit q ⟨.windowEnd, p⟩ =
        s.closeRecord q .workedNoReport ⟨0, false, false, 0, .noReport, false⟩)
    ∧ ∀ (s t : State) (q : Record) (res : Result) (rep : ReportFields), res.rejects = false → t = s.closeRecord q res rep →
      t.queue = (s.queue.filter fun x => x.tag != q.tag) ∧ (∀ c, t.feed.marks.get c q.tag = none) ∧ t.arms = s.arms
        ∧ t.holds.transitFull = (decide (6 ≤ t.queue.length) && s.holds.transitFull)
        ∧ (q.frame = none → t.ram = s.ram ∧ t.counters = s.counters ∧ t.cause = s.cause)
        ∧ ∀ f, q.frame = some f → t.counters.closures = s.counters.closures + 1 ∧ t.pendingCause .closed = true
          ∧ (s.frameState f = 2 → t.frameState f = 3 ∧ t.ram.readBytes (frameAddr f 128) 128 =
            outcomeSection res 0 (s.counters.closures + 1) (q.hostTag.getD 0) s.now (logOutcome q rep))

/-- The lift mark and the entry mark of a record at a rotor, where the mark each arms lies ahead of the peak. The lift mark asks the LIFT of
the record's own aperture (R68, R114), by which an arm OUT with return-pending returns, and the raised active count brings ROTOR, the
UNUSABLE hold cause and the recompute that R131, R132, R169 and R105 say. The entry mark makes each OPEN arm ENGAGED with the entry target,
a CHARGE of class HIGH asked where it lies above the commanded pressure (R104, R105), and its monitor counting from 0, leaves an OUT arm,
and sends every other FREE as a late lift, vented to 0 and its monitor stopped, which the record counts; it flags STALL and ROTOR_DOWN as
they stand; the next mark is the release mark where its position is at or before the ramp end, else the ramp-end mark (R69, R122, R123,
R158, R159, R166, R168). That an arm OPEN at the asked aperture already takes the new record's tag is the model's reading of R114 (log 17).
-/
def Obligations.LiftAndEntryMarksActOnTheArms : Prop :=
  ∀ (s t : State) (arm : Arming) (r : RotorId) (q : Record) (p : Pos), arm.placesAhead → s.record? q.tag = some q →
    (t = s.deliverMark arm (clientOf r) q ⟨.lift, p⟩ → s.ahead (s.firstMark r q).position →
        Lifted s t r q ∧ LiftAsked s t r (s.ownAperture q) (some q.tag))
      ∧ (t = s.deliverMark arm (clientOf r) q ⟨.entry, p⟩ → ∀ (rampEnd : Pos) (next : Mark),
        rampEnd = posAdd q.head ((s.geometry.toolPlane r : Int) + s.geometry.rampLength) →
        (next = ⟨.rampEnd, rampEnd⟩ ∧ (∀ tail, q.tail = some tail →
            reached rampEnd (posAdd tail ((s.geometry.toolPlane r : Int) - s.geometry.releaseLead)) = false)
          ∨ ∃ tail, q.tail = some tail
            ∧ next = ⟨.release, posAdd tail ((s.geometry.toolPlane r : Int) - s.geometry.releaseLead)⟩
            ∧ reached rampEnd next.position = true) →
        s.ahead next.position →
        t.armed (clientOf r) q.tag next.purpose next.position
          ∧ (∃ x, t.record? q.tag = some x ∧ x.phase r = .entry
            ∧ (x.view r).lateLifts = min ((q.view r).lateLifts
              + ((armsOf r).filter fun a => (s.arm a).state != .opened && (s.arm a).state != .out).length) 255
            ∧ x.stall = (q.stall || decide (s.feed.motion = .standstill) || decide (s.supply.level = .critical))
            ∧ x.rotorDown = (q.rotorDown || decide ((s.rotor r).drive ≠ .ready)))
          ∧ (∀ a, rotorOf a ≠ r → GrantedOnly s t a)
          ∧ ∀ a, rotorOf a = r → ((s.arm a).state = .out → GrantedOnly s t a)
            ∧ ((s.arm a).state ≠ .opened → (s.arm a).state ≠ .out →
              t.arm a = { (s.arm a).disengaged.ventedTo 0 with state := .free, tag := some q.tag, target := 0 })
            ∧ ((s.arm a).state = .opened → ∀ c : Arm,
              c = { s.arm a with
                state := .engaged
                tag := some q.tag
                relief := false
                charges := 0
                vents := 0
                monitor := ⟨true, some q.tag,
                  q.row.map (fun x => ⟨x.burstWindow, x.threshold, x.maxDepth, x.decayInterval⟩), 0, none, none⟩ } →
              ((q.row = none ∨ q.tempClass = none ∨ c.isLifting = true) → GrantedFrom s t a c)
                ∧ ∀ row, q.row = some row → q.tempClass.isSome = true → c.isLifting = false →
                  GrantedFrom s t a (c.workingToward (s.ventHeld a) (s.entryTarget row) .high)))

/-- The ramp-end mark and the section marks of a record at a rotor, where the nearest point ahead lies ahead of the peak (R70). The ramp-end
mark puts the record in BODY and recomputes every ENGAGED arm of the rotor whatever the dead band; a section mark recomputes them through
the dead band, both with class NORMAL (R105). Each leaves the rotor's one mark at the nearest followed point beyond, or at the release
position. -/
def Obligations.BodyMarksFollowTheSectionPoints : Prop :=
  ∀ (s t u : State) (arm : Arming) (r : RotorId) (q : Record) (p : Pos) (beyond : Nat),
    arm.placesAhead → s.record? q.tag = some q → s.nearestAhead r q beyond →
    (beyond = s.geometry.rampLength →
        u = s.updView r q.tag (fun w => { w with phase := .body, followed := beyond }) →
        t = s.deliverMark arm (clientOf r) q ⟨.rampEnd, p⟩ →
        (t.record? q.tag).map (fun x => x.phase r) = some .body ∧ Retargeted u t (fun a => rotorOf a = r) true (fun _ => .normal)
          ∧ NearestArmed s t r q beyond)
      ∧ (beyond = (posDiff p q.head - s.geometry.toolPlane r).toNat →
        u = s.updView r q.tag (fun w => { w with followed := beyond }) →
        t = s.deliverMark arm (clientOf r) q ⟨.sectionPoint, p⟩ →
        (t.record? q.tag).map (fun x => x.phase r) = some (q.phase r)
          ∧ Retargeted u t (fun a => rotorOf a = r) false (fun _ => .normal) ∧ NearestArmed s t r q beyond)

/-- The release mark and the tail mark of a record at a rotor, where the mark each arms lies ahead of the peak and the records' tags differ
(an invariant of the reader's statement below). Release: without a JOINT next record the arms ENGAGED on it become TRAILING, vented to the
release target, and their monitors stop (R72, R124, R159); with one, the joint lift, at which the monitors of the ENGAGED arms stop (R74,
R114, R159). Tail: the record is PASSED, and by the record that becomes current the arms go STANDBY, with the park timer started when there
is none and the lift mark armed when it is not close; or its LIFT is taken, with OPEN and LIFTING arms kept behind a stub; or only its first
mark is armed (R73, R75, R76). By a LIFT, and by STANDBY of a rotor left without a record, an arm OUT with return-pending returns, and the
raised active count brings ROTOR, the UNUSABLE hold cause and the recompute that R131, R132, R169 and R105 say. That an arm kept behind a
stub keeps its record tag (log 16), and that an arm OPEN at the asked aperture already takes the new tag (log 17), are the model's. -/
def Obligations.ReleaseAndTailMarksPassTheRecordOn : Prop :=
  ∀ (s t : State) (arm : Arming) (r : RotorId) (q : Record) (p : Pos), arm.placesAhead → s.record? q.tag = some q →
    (t = s.deliverMark arm (clientOf r) q ⟨.release, p⟩ → ∀ tail, q.tail = some tail →
        s.ahead (posAdd tail (s.geometry.toolPlane r)) →
        (∀ b, s.next? r = some b → b.tag ≠ q.tag ∧ s.record? b.tag = some b) →
        t.armed (clientOf r) q.tag .tail (posAdd tail (s.geometry.toolPlane r))
          ∧ (t.record? q.tag).map (fun x => x.phase r) = some .release
          ∧ ((∀ b, s.next? r = some b → b.relation ≠ .joint) → ∀ a,
            (rotorOf a = r ∧ (s.arm a).state = .engaged ∧ (s.arm a).tag = some q.tag → ∀ release,
                release = min s.geometry.releasePressure s.geometry.machineMax →
                t.arm a = { (s.arm a).disengaged.ventedTo release with state := .trailing, target := release })
              ∧ (¬ (rotorOf a = r ∧ (s.arm a).state = .engaged ∧ (s.arm a).tag = some q.tag) → GrantedOnly s t a))
          ∧ ∀ b, s.next? r = some b → b.relation = .joint → ∀ u : State,
            u = (s.updView r q.tag fun w => { w with phase := .release, jointTail := true }).updView r b.tag (fun w =>
              { w with phase := .lift, jointHead := true }) →
            (t.record? q.tag).map (fun x => (x.view r).jointTail) = some true
              ∧ (∃ y, t.record? b.tag = some y ∧ y.phase r = .lift ∧ (y.view r).jointHead = true
                ∧ (y.view r).minActive = some (t.activeCount r))
              ∧ LiftAsked u t r (if b.kind = .stub then s.geometry.maxAperture
                else max (diameterAt q.stations q.working).toNat ((b.stations.head?.map Station.diameter).getD 0)
                  + s.geometry.clearance) (some b.tag))
      ∧ (t = s.deliverMark arm (clientOf r) q ⟨.tail, p⟩ → ∀ (u : State) (standby : ArmId → Prop) (release : Nat),
        u = s.updView r q.tag (fun w => { w with phase := .passed }) →
        release = min s.geometry.releasePressure s.geometry.machineMax →
        (∀ a, standby a ↔ rotorOf a = r
          ∧ ((s.arm a).state = .trailing ∨ (s.arm a).state = .free ∨ (s.arm a).state = .opened)) →
        (u.current? r = none → (t.rotor r).park = some (s.now + s.geometry.parkDelay)
            ∧ (t.record? q.tag).map (fun x => x.phase r) = some .passed
            ∧ ReturnsTaken u t r none
            ∧ ∀ a, (standby a ∨ rotorOf a = r ∧ (s.arm a).state = .out ∧ (s.arm a).returnPending = true →
                t.arm a = (s.arm a).sentToStandby release)
              ∧ (¬ standby a → ¬ (rotorOf a = r ∧ (s.arm a).state = .out ∧ (s.arm a).returnPending = true) →
                GrantedOnly s t a))
        ∧ ∀ b, u.current? r = some b → u.record? b.tag = some b →
          (t.record? q.tag).map (fun x => x.phase r) = some .passed
            ∧ (b.phase r = .approach → b.relation = .apart →
              s.ahead (posAdd b.head ((s.geometry.toolPlane r : Int) - s.geometry.entryLead)) →
              (t.rotor r).park = (s.rotor r).park
                ∧ t.armed (clientOf r) b.tag .lift (posAdd b.head ((s.geometry.toolPlane r : Int) - s.geometry.entryLead))
                ∧ ∀ a, (standby a → t.arm a = (s.arm a).sentToStandby release)
                  ∧ (¬ standby a → GrantedOnly s t a))
            ∧ (b.phase r = .approach → (b.relation = .close ∨ b.relation = .joint) →
              s.ahead (s.firstMark r b).position →
              Lifted s t r b ∧ LiftAsked u t r (s.ownAperture b) (some b.tag))
            ∧ (b.phase r = .approach → b.relation = .stubBehind → s.ahead (s.firstMark r b).position →
              Lifted s t r b ∧ ReturnsTaken u t r (some b.tag) ∧ ∀ a,
                (rotorOf a ≠ r ∨ (s.arm a).state = .opened ∨ (s.arm a).state = .lifting → GrantedOnly s t a)
                  ∧ (rotorOf a = r → (s.arm a).state = .out → (s.arm a).returnPending = false → GrantedOnly s t a)
                  ∧ (rotorOf a = r → (s.arm a).state ≠ .opened →
                    ((s.arm a).state ≠ .out ∨ (s.arm a).returnPending = true) → (s.arm a).state ≠ .lifting →
                    GrantedFrom s t a ((u.beforeLift a).askedLift (s.ventHeld a) s.geometry.maxAperture (some b.tag))))
            ∧ (b.phase r ≠ .approach → s.ahead (s.firstMark r b).position →
              t.armed (clientOf r) b.tag (s.firstMark r b).purpose (s.firstMark r b).position
                ∧ (t.rotor r).park = (s.rotor r).park ∧ ∀ a, GrantedOnly s t a))

/-- Entry, body and release targets, and what a recompute's result does. The diameter by interpolation between the stations (R96); the body
target by the ten steps, each percentage truncated toward zero (R97 to R100); the entry target by steps 9 and 10 (R101); all lie within the
clamp. A result closer to the aim than the dead band is dropped unless its cause always acts, and one for an arm whose flow state is a LIFT
is not taken (R103, R104); any other becomes the arm's target, raises the record's maximum target, and by the table of R104 enters a CHARGE,
replaces the waiting one in its place, elevated if a raised class finds its limit reached (R140, R141), retargets the move or vents; a held
arm takes the target only (R106), an equal result nothing more. -/
def Obligations.TargetsFollowTheTenStepsAndActOnTheArm : Prop :=
  (∀ (stations pre post : List Station) (p p' : Station) (x : Int),
    (stations = p :: post → x ≤ p.distance → diameterAt stations x = p.diameter)
      ∧ (stations = pre ++ [p] → strictlyRising stations = true → (p.distance : Int) ≤ x →
        diameterAt stations x = p.diameter)
      ∧ (stations = pre ++ p :: p' :: post → strictlyRising stations = true → (p.distance : Int) < x → x ≤ p'.distance →
        diameterAt stations x = p.diameter
          + (((p'.diameter : Int) - p.diameter) * (x - p.distance)).tdiv ((p'.distance : Int) - p.distance)))
  ∧ (∀ (s : State) (a : ArmId) (row : SpeciesRow) (c : TempClass) (q : Record)
      (x d x' butt top upper lower v3 v4 v5 v6 v7 v8 v9 : Int) (base factor : Nat),
    x = posDiff s.feed.position q.head - s.geometry.toolPlane (rotorOf a) → d = diameterAt q.stations x →
    [row.band0, row.band1, row.band2, row.band3, row.band4, row.band5][
      ([s.geometry.band1, s.geometry.band2, s.geometry.band3, s.geometry.band4, s.geometry.band5].filter
        fun (b : Nat) => decide ((b : Int) ≤ d)).length]? = some base →
    x' = max 0 (min x ((q.working : Int) - 1)) →
    butt = (if q.orientation = .buttFirst then x' else (q.working : Int) - x' - 1) →
    top = (if q.orientation = .buttFirst then (q.working : Int) - x' - 1 else x') →
    factor = (if butt < row.buttLength then row.buttFactor else if top < row.topLength then row.topFactor else 100) →
    v3 = ((base : Int) * factor).tdiv 100 →
    v4 = (if c = .frozen then v3 + row.frozenAdd else v3) →
    v5 = v4 + (if c = .frozen then row.trimFrozen else row.trimThawed) * row.trimStep →
    v6 = (if rotorOf a = .r2 then (v5 * row.rotor2Share).tdiv 100 else v5) →
    v7 = (v6 * 5).tdiv (max (s.activeCount (rotorOf a)) 3 : Nat) →
    v8 = (if (s.arm a).relief then v7 - row.reliefStep else v7) →
    v9 = (if s.feed.motion = .standstill then min v8 s.geometry.stallPressure else v8) →
    upper = min (row.maximum : Int) s.geometry.machineMax → lower = min (row.minimum : Int) upper →
    (s.bodyTarget a row c q : Int) = max lower (min v9 upper)
      ∧ (s.entryTarget row : Int) =
        max lower (min (if s.feed.motion = .standstill then min (row.entry : Int) s.geometry.stallPressure else row.entry) upper)
      ∧ lower ≤ s.bodyTarget a row c q ∧ (s.bodyTarget a row c q : Int) ≤ upper
      ∧ lower ≤ s.entryTarget row ∧ (s.entryTarget row : Int) ≤ upper
      ∧ releaseTarget s.geometry = min s.geometry.releasePressure s.geometry.machineMax)
  ∧ ∀ (s t : State) (a : ArmId) (q : Record) (deadBand v : Nat) (forced : Bool) (cls : FlowClass),
    t = s.deliver a q deadBand v forced cls →
    (((s.arm a).isLifting = true ∨ forced = false ∧ ((v : Int) - (s.arm a).aim).natAbs < deadBand) → t = s)
      ∧ ((s.arm a).isLifting = false → (forced = true ∨ deadBand ≤ ((v : Int) - (s.arm a).aim).natAbs) →
        (t.arm a).target = v ∧ (t.arm a).state = (s.arm a).state ∧ (∀ b, b ≠ a → t.arm b = s.arm b)
          ∧ t.withoutFlow = s.withoutFlow ∧ t.ram = s.ram
          ∧ t.queue = s.queue.map (fun x => if x.tag = q.tag then
              x.updView (rotorOf a) fun w => { w with maxTarget := max w.maxTarget v } else x)
          ∧ ((s.ventHeld a = true ∨ v = (s.arm a).aim) → t.arm a = { s.arm a with target := v } ∧ t.arbiter = s.arbiter)
          ∧ (s.ventHeld a = false → v ≠ (s.arm a).aim →
            ((s.arm a).flow = .idle → (s.arm a).commanded < v →
              t.arm a = { s.arm a with target := v, flow := .waiting ⟨.charge, v, cls, false⟩ }
                ∧ t.arbiter = { s.arbiter with wait := s.arbiter.wait ++ [⟨a, s.now, false⟩] })
            ∧ (∀ x, (s.arm a).flow = .waiting x → (x.value < v ∨ (s.arm a).commanded < v) →
              t.arm a = { s.arm a with
                  target := v
                  flow := .waiting { x with value := v, cls := if x.cls.rank ≤ cls.rank then x.cls else cls } }
                ∧ t.arbiter.inFlight = s.arbiter.inFlight
                ∧ t.arbiter.wait.map (fun e => (e.arm, e.entered)) = s.arbiter.wait.map (fun e => (e.arm, e.entered))
                ∧ t.arbiter.wait.map (fun e => e.elevated) = s.arbiter.wait.map (fun e => e.elevated || (decide (e.arm = a)
                  && decide (cls.rank < x.cls.rank) && match fairnessLimit s.geometry cls with
                    | some limit => decide (limit ≤ s.now - e.entered)
                    | none => false)))
            ∧ (∀ x g w, (s.arm a).flow = .inFlight x g w → x.value < v →
              t.arm a = { s.arm a with
                  target := v
                  flow := .inFlight { x with value := v } g w
                  commanded := v
                  valve := .charge v
                  settled := false }
                ∧ t.arbiter = s.arbiter)
            ∧ (((s.arm a).flow = .idle ∧ v < (s.arm a).commanded
                ∨ (∃ x, (s.arm a).flow = .waiting x ∧ v < x.value ∧ v ≤ (s.arm a).commanded)
                ∨ ∃ x g w, (s.arm a).flow = .inFlight x g w ∧ v < x.value) →
              t.arm a = { s.arm a with
                  target := v
                  flow := .idle
                  commanded := min (s.arm a).commanded v
                  valve := .vent (min (s.arm a).commanded v)
                  vents := min ((s.arm a).vents + 1) 255 }
                ∧ t.arbiter.wait = (s.arbiter.wait.filter fun e => e.arm != a)
                ∧ t.arbiter.inFlight = s.arbiter.inFlight.filter fun b => b != a)))

/-- A settled report completes the arm's move and frees its slot: a CHARGE counts and the arm stays as it is, a LIFT opens the arm, and with
no current record and the latch clear sends it to STANDBY with the park timer restarted; without a move it changes nothing (R77, R117,
R120, R145). The arbiter then grants what the freed slot allows (R144): every other arm has only been granted. -/
def Obligations.SettledReportCompletesTheMove : Prop :=
  ∀ (s : State) (a : ArmId), s.running →
    ((s.arm a).flow.isInFlight = false → Reaches (.moveComplete a) s s)
      ∧ ∀ v g w, (s.arm a).flow = .inFlight v g w →
        (v.kind = .charge → Answers (.moveComplete a) s fun t =>
            t.arm a = { s.arm a with flow := .idle, settled := true, charges := min ((s.arm a).charges + 1) 255 }
              ∧ a ∉ t.arbiter.inFlight ∧ t.withoutFlow = s.withoutFlow ∧ TicketFramesKept s t ∧ ∀ b, b ≠ a → GrantedOnly s t b)
          ∧ (v.kind = .lift → ((s.current? (rotorOf a)).isSome = true ∨ s.latch = true) →
            Answers (.moveComplete a) s fun t =>
              t.arm a = { s.arm a with flow := .idle, settled := true, state := .opened }
                ∧ a ∉ t.arbiter.inFlight ∧ t.withoutFlow = s.withoutFlow ∧ TicketFramesKept s t ∧ ∀ b, b ≠ a → GrantedOnly s t b)
          ∧ (v.kind = .lift → s.current? (rotorOf a) = none → s.latch = false →
            Answers (.moveComplete a) s fun t =>
              (t.arm a).state = .standby ∧ (t.arm a).tag = none ∧ (t.arm a).flow = .idle ∧ a ∉ t.arbiter.inFlight
                ∧ (t.rotor (rotorOf a)).park = some (s.now + s.geometry.parkDelay) ∧ TicketFramesKept s t
                ∧ ∀ b, b ≠ a → GrantedOnly s t b)
          ∧ ∀ release : Nat, release = min s.geometry.releasePressure s.geometry.machineMax → ∀ u : State,
            u = { s with arbiter := { s.arbiter with
              wait := s.arbiter.wait.filter fun e => e.arm != a
              inFlight := s.arbiter.inFlight.filter fun b => b != a } } →
            (v.kind = .charge → Reaches (.moveComplete a) s (u.setArm a { s.arm a with
                flow := .idle, settled := true, charges := min ((s.arm a).charges + 1) 255 }).arbitrate)
              ∧ (v.kind = .lift → ((s.current? (rotorOf a)).isSome = true ∨ s.latch = true) →
                Reaches (.moveComplete a) s
                  (u.setArm a { s.arm a with flow := .idle, settled := true, state := .opened }).arbitrate)
              ∧ (v.kind = .lift → s.current? (rotorOf a) = none → s.latch = false →
                Reaches (.moveComplete a) s ((u.setArm a { s.arm a with
                  flow := .idle
                  settled := true
                  state := .standby
                  tag := none
                  target := release
                  commanded := min (s.arm a).commanded release
                  valve := .vent (min (s.arm a).commanded release)
                  vents := min ((s.arm a).vents + 1) 255 }).setRotor (rotorOf a)
                    { s.rotor (rotorOf a) with park := some (s.now + s.geometry.parkDelay) }).arbitrate)

/-- A move that times out puts its arm OUT with cause VALVE_FAULT, vented and de-energized with no request or move, and raises ARM; the
active count falls, with all that follows it: ROTOR and the UNUSABLE hold cause at a change of usability, the records' minimum active arms,
the recompute of the rotor's ENGAGED arms (R118, R127, R132, R169). The clock at the timeout, and that the command without a move changes
nothing, are the model's (log 1). -/
def Obligations.MoveTimeoutPutsTheArmOut : Prop :=
  (∀ n, n ≤ 5 → (usabilityOf n = .full ↔ n = 5) ∧ (usabilityOf n = .degraded ↔ n = 3 ∨ n = 4)
    ∧ (usabilityOf n = .unusable ↔ n ≤ 2))
  ∧ ∀ (s : State) (a : ArmId), s.running → s.outIsIdle →
    ((s.arm a).flow.isInFlight = false → Reaches (.moveTimeout a) s s)
      ∧ ∀ v g w, (s.arm a).flow = .inFlight v g w → Answers (.moveTimeout a) s fun t =>
        (t.arm a).state = .out ∧ (t.arm a).outCause = some .valveFault ∧ (t.arm a).flow = .idle
          ∧ (t.arm a).commanded = 0 ∧ (t.arm a).target = 0 ∧ (t.arm a).aperture = 0 ∧ (t.arm a).tag = none
          ∧ (t.arm a).valve = .deEnergized ∧ t.pendingCause .arm = true ∧ t.now = max s.now (g + w)
          ∧ t.activeCount (rotorOf a) + 1 = s.activeCount (rotorOf a) ∧ CountFollows s t a ∧ TicketFramesKept s t

/-- Presence lost puts the arm OUT, REMOVED in SERVICE, else PRESENCE_LOST with ARM raised, and the active count falls with all that follows
it (R132, R169), unless the arm was OUT; presence restored sets inserted on an OUT arm and raises ARM, and on another arm is the presence
alone (R128, R129). That a command repeating the level already held changes nothing is the model's choice (log 11). -/
def Obligations.PresenceChangesAreTaken : Prop :=
  ∀ (s : State) (a : ArmId), s.running →
    ((s.arm a).present = true → Answers (.presenceLoss a) s fun t =>
        (t.arm a).state = .out ∧ (t.arm a).present = false ∧ (t.arm a).returnPending = false
          ∧ (t.arm a).inserted = false
          ∧ (t.arm a).outCause = some (if s.mode = .service then .removed else .presenceLost)
          ∧ (s.mode ≠ .service → t.pendingCause .arm = true)
          ∧ (s.mode = .service → t.pendingCause .arm = s.pendingCause .arm)
          ∧ ((s.arm a).state ≠ .out → t.activeCount (rotorOf a) + 1 = s.activeCount (rotorOf a) ∧ CountFollows s t a)
          ∧ ((s.arm a).state = .out → t.holds = s.holds ∧ t.queue = s.queue
            ∧ t.pendingCause .rotor = s.pendingCause .rotor ∧ ∀ b, b ≠ a → GrantedOnly s t b)
          ∧ TicketFramesKept s t)
      ∧ ((s.arm a).present = false → Reaches (.presenceLoss a) s s)
      ∧ ((s.arm a).present = true → Reaches (.presenceRestored a) s s)
      ∧ ((s.arm a).present = false → (s.arm a).state = .out → Reaches (.presenceRestored a) s
        { s.setArm a { s.arm a with present := true, inserted := true } with cause := s.cause ||| 0x0080#16 })
      ∧ ((s.arm a).present = false → (s.arm a).state ≠ .out → Reaches (.presenceRestored a) s
        (s.setArm a { s.arm a with present := true }))

/-- At the park timer's expiry every STANDBY arm of the rotor goes PARKED with its valve de-energized, and nothing else changes (R77, R120).
The clock at the expiry, and that the command of a timer that does not run changes nothing, are the model's (log 1). -/
def Obligations.ParkTimerParksTheStandbyArms : Prop :=
  ∀ (s : State) (r : RotorId), s.running →
    ((s.rotor r).park = none → Reaches (.parkTimerExpiry r) s s)
      ∧ ∀ w, (s.rotor r).park = some w → ∃ arms : Arms,
        (∀ a, arms.get a = if rotorOf a = r ∧ (s.arm a).state = .standby then
            { s.arm a with state := .parked, commanded := 0, target := 0, aperture := 0, valve := .deEnergized }
          else s.arm a)
        ∧ Reaches (.parkTimerExpiry r) s
          (({ s with now := max s.now w, arms := arms } : State).setRotor r { s.rotor r with park := none })

/-- The grant. A waiting request is eligible but for a LOW one while the level is LOW (R142, read with R105 and R157: log 35) and a
NORMAL or LOW one, not elevated, while its rotor's protection timer runs; the choice is the oldest eligible elevated request, else the
oldest of the highest class present (R144). A grant starts the move with its timeout, moves the entry to the in-flight set, and for a LIFT
starts the rotor's protection timer (R116, R143). Grants follow one by one while a slot is free and a request eligible; only arms with a
waiting request change. That in-flight entries stand in grant order (log 33), and that a period of 0 leaves an older timer running (log 34),
are the model's choices. -/
def Obligations.ArbiterGrantsAllItCanInItsOrder : Prop :=
  ∀ s : State,
    (s.arbitrate.arbiter.slots ≤ s.arbitrate.arbiter.inFlight.length ∨ s.arbitrate.choose = none)
      ∧ s.arbitrate.withoutFlow = s.withoutFlow ∧ s.arbitrate.queue = s.queue ∧ s.arbitrate.ram = s.ram
      ∧ (∀ a, GrantedOnly s s.arbitrate a)
      ∧ (s.arbiter.slots ≤ s.arbiter.inFlight.length ∨ s.choose = none → s.arbitrate = s)
      ∧ (∀ e, s.arbiter.inFlight.length < s.arbiter.slots → s.choose = some e →
        s.arbitrate = (s.grant e.arm).arbitrate)
      ∧ (∀ a x, (s.arm a).flow = .waiting x →
        (s.grant a).arms = s.arms.set a { s.arm a with
            flow := .inFlight x s.now (match x.kind with
              | .charge => s.geometry.chargeTimeout
              | .lift => s.geometry.liftTimeout + (if x.wake then s.geometry.wakeAllowance else 0))
            commanded := if x.kind = .lift then 0 else x.value
            valve := if x.kind = .lift then .lift x.value else .charge x.value
            settled := false }
          ∧ (s.grant a).arbiter = { s.arbiter with
            wait := s.arbiter.wait.filter fun e => e.arm != a
            inFlight := s.arbiter.inFlight ++ [a] }
          ∧ ∀ r, ((s.grant a).rotor r) = { s.rotor r with
              protection :=
                if r = rotorOf a ∧ x.kind = .lift ∧ s.geometry.protectionPeriod ≠ 0 then
                  some (s.now + s.geometry.protectionPeriod)
                else (s.rotor r).protection })
      ∧ ∀ eligible : WaitEntry → Prop,
        (∀ e, eligible e ↔ ∃ cls, s.waitingClass e.arm = some cls
          ∧ ¬ (s.supply.level = .low ∧ cls = .low)
          ∧ ¬ ((s.rotor (rotorOf e.arm)).protection.isSome = true ∧ e.elevated = false
            ∧ (cls = .normal ∨ cls = .low))) →
        (s.choose = none ↔ ∀ e ∈ s.arbiter.wait, ¬ eligible e)
          ∧ ∀ e, s.choose = some e → eligible e ∧ ∃ before behind, s.arbiter.wait = before ++ e :: behind
            ∧ (e.elevated = true ∧ (∀ f ∈ before, eligible f → f.elevated = false)
              ∨ (∀ f ∈ s.arbiter.wait, eligible f → f.elevated = false)
                ∧ ∃ cls, s.waitingClass e.arm = some cls
                  ∧ (∀ f ∈ s.arbiter.wait, eligible f → ∀ k, s.waitingClass f.arm = some k → cls.rank ≤ k.rank)
                  ∧ ∀ f ∈ before, eligible f → s.waitingClass f.arm ≠ some cls)

/-- A waiting request that is not elevated is elevated when its age reaches its class's limit, and the arbiter grants what it then may, to
it or to another; nothing else changes. An URGENT request is not elevated by age, and an elevated one not again. A protection timer that
expires stops, and the arbiter grants what it then may (R141, R143, R144). The clock at both, and that the command of an arm without such a
request, or of a protection timer that does not run, changes nothing, are the model's (log 1). -/
def Obligations.ElevationAndProtectionExpire : Prop :=
  (∀ g : Geometry, fairnessLimit g .urgent = none ∧ fairnessLimit g .high = some g.fairHigh
    ∧ fairnessLimit g .normal = some g.fairNormal ∧ fairnessLimit g .low = some g.fairLow)
  ∧ ∀ s : State, s.running →
    (∀ a e limit, (s.arbiter.wait.find? fun x => x.arm == a) = some e → e.elevated = false →
        (s.waitingClass a).bind (fairnessLimit s.geometry) = some limit → ∀ now, now = max s.now (e.entered + limit) →
        Reaches (.fairnessElevation a) s (State.arbitrate { s with
          now := now
          arbiter := { s.arbiter with wait := s.arbiter.wait.map fun x =>
            if x.arm = a ∧ limit ≤ now - x.entered then { x with elevated := true } else x } }))
      ∧ (∀ a e, (s.arbiter.wait.find? fun x => x.arm == a) = some e → e.elevated = true → Reaches (.fairnessElevation a) s s)
      ∧ (∀ a, ((∀ x ∈ s.arbiter.wait, x.arm ≠ a) ∨ s.waitingClass a = none ∨ s.waitingClass a = some .urgent) →
        Reaches (.fairnessElevation a) s s)
      ∧ (∀ r, (s.rotor r).protection = none → Reaches (.protectionTimerExpiry r) s s)
      ∧ ∀ r w, (s.rotor r).protection = some w → Reaches (.protectionTimerExpiry r) s
        ({ s with now := max s.now w }.setRotor r { s.rotor r with protection := none }).arbitrate

/-! ### Impact monitors (chapter 8) -/

/-- A pulse on an ENGAGED arm whose monitor is COUNTING with its burst window closed raises the count, saturating at the maximum depth,
opens the window, and starts the decay timer from 0; any other pulse changes nothing. The window closes at its time; a decay expiry lowers
the count by one and restarts the timer while it is above 0 (R153, R154, R155). Pulses and decays that reach or leave the threshold are the
next statement's. The clock at the window's close and at a decay, and that these commands change nothing when no window or timer runs, are
the model's (log 1). -/
def Obligations.ImpactCountLeaks : Prop :=
  ∀ (s : State) (a : ArmId), s.running →
    (((s.arm a).state ≠ .engaged ∨ (s.arm a).monitor.counting = false ∨ (s.arm a).monitor.burst.isSome = true) →
        Reaches (.impactPulse a) s s)
      ∧ (∀ p, (s.arm a).state = .engaged → (s.arm a).monitor.counting = true → (s.arm a).monitor.burst = none →
        (s.arm a).monitor.params = some p →
        ¬ ((s.arm a).monitor.counter < p.maxDepth ∧ (s.arm a).monitor.counter + 1 = p.threshold) →
        Reaches (.impactPulse a) s (s.setArm a { s.arm a with monitor := { (s.arm a).monitor with
          counter := if (s.arm a).monitor.counter < p.maxDepth then (s.arm a).monitor.counter + 1
            else (s.arm a).monitor.counter
          burst := some (s.now + p.burstWindow)
          decay := if (s.arm a).monitor.counter = 0 ∧ 0 < p.maxDepth then some (s.now + p.decayInterval)
            else (s.arm a).monitor.decay } }))
      ∧ (∀ w, (s.arm a).monitor.burst = some w → Reaches (.burstWindowClose a) s
        ({ s with now := max s.now w }.setArm a
          { s.arm a with monitor := { (s.arm a).monitor with burst := none } }))
      ∧ ((s.arm a).monitor.burst = none → Reaches (.burstWindowClose a) s s)
      ∧ (∀ w p, (s.arm a).monitor.decay = some w → (s.arm a).monitor.params = some p →
        (s.arm a).monitor.counter ≠ p.threshold →
        Reaches (.decayExpiry a) s ({ s with now := max s.now w }.setArm a
          { s.arm a with monitor := { (s.arm a).monitor with
            counter := (s.arm a).monitor.counter - 1
            decay := if 1 < (s.arm a).monitor.counter then some (max s.now w + p.decayInterval) else none } }))
      ∧ ((s.arm a).monitor.decay = none → Reaches (.decayExpiry a) s s)

/-- The pulse that brings the count to the threshold sets relief and raises the relief entries of the monitor's record at the arm's rotor by
one, saturating at 255, and the arm is recomputed with class NORMAL; the decay that takes it below clears relief, and the arm, if ENGAGED,
is recomputed with class LOW; the dead band does not apply, every other arm has only been granted, and nothing else changes (R105, R156,
R157). The clock at the decay is the model's (log 1). -/
def Obligations.ReliefFollowsTheThreshold : Prop :=
  ∀ (s : State) (a : ArmId) (p : MonitorParams), s.running → (s.arm a).monitor.params = some p →
    (∀ tag, (s.arm a).state = .engaged → (s.arm a).monitor.counting = true → (s.arm a).monitor.burst = none →
        (s.arm a).monitor.counter < p.maxDepth → (s.arm a).monitor.counter + 1 = p.threshold →
        (s.arm a).monitor.tag = some tag → Answers (.impactPulse a) s fun t =>
          (t.arm a).relief = true ∧ (t.arm a).state = .engaged ∧ (t.arm a).monitor.counter = p.threshold
            ∧ (t.arm a).monitor.burst = some (s.now + p.burstWindow)
            ∧ (t.queue.map fun q => (q.tag, (q.view (rotorOf a)).reliefEntries)) =
              s.queue.map (fun q => (q.tag, if q.tag = tag then min ((q.view (rotorOf a)).reliefEntries + 1) 255
                else (q.view (rotorOf a)).reliefEntries))
            ∧ TicketFramesKept s t ∧ ∀ u : State,
              u = { s.setArm a { s.arm a with
                  relief := true
                  monitor := { (s.arm a).monitor with
                    counter := p.threshold
                    burst := some (s.now + p.burstWindow)
                    decay := if (s.arm a).monitor.counter = 0 then some (s.now + p.decayInterval)
                      else (s.arm a).monitor.decay } } with
                queue := s.queue.map fun q => if q.tag = tag then
                  q.updView (rotorOf a) fun w => { w with reliefEntries := min (w.reliefEntries + 1) 255 } else q } →
              t.withoutFlow = u.withoutFlow ∧ Retargeted u t (fun b => b = a) true (fun _ => .normal))
      ∧ (∀ w, (s.arm a).monitor.decay = some w → (s.arm a).monitor.counter = p.threshold →
        Answers (.decayExpiry a) s fun t =>
          (t.arm a).relief = false ∧ (t.arm a).monitor.counter = p.threshold - 1 ∧ t.now = max s.now w
            ∧ (t.queue.map fun q => (q.tag, (q.view (rotorOf a)).reliefEntries)) =
              s.queue.map (fun q => (q.tag, (q.view (rotorOf a)).reliefEntries))
            ∧ TicketFramesKept s t ∧ ∀ u : State,
              u = { s with now := max s.now w }.setArm a { s.arm a with
                relief := false
                monitor := { (s.arm a).monitor with
                  counter := p.threshold - 1
                  decay := if 1 < p.threshold then some (max s.now w + p.decayInterval) else none } } →
              t.withoutFlow = u.withoutFlow ∧ Retargeted u t (fun b => b = a) true (fun _ => .low))

/-! ### Supply and drives (chapter 9) -/

/-- Each supply sample sets the level by the table of R164, in a geometry that meets check 6 of R195; a sample that leaves the level as it
stands has no effect beyond its reading (the Supply Monitor's own timing apart); a new geometry does not judge the level again. -/
def Obligations.SupplyLevelFollowsItsTable : Prop :=
  ∀ (s : State) (i : Nat), s.running →
    s.geometry.supplyCritical + s.geometry.supplyHysteresis < s.geometry.supplyLow → ∀ sample,
    sample = supplyReading s.geometry i →
    Answers (.supplySample i) s (fun t => t.supply.level =
        match s.supply.level, sample with
        | _, none => .critical
        | .normal, some v =>
          if v < s.geometry.supplyCritical then .critical else if v < s.geometry.supplyLow then .low else .normal
        | .low, some v =>
          if v < s.geometry.supplyCritical then .critical
          else if s.geometry.supplyLow + s.geometry.supplyHysteresis ≤ v then .normal else .low
        | .critical, some v =>
          if s.geometry.supplyLow + s.geometry.supplyHysteresis ≤ v then .normal
          else if s.geometry.supplyCritical + s.geometry.supplyHysteresis ≤ v then .low else .critical)
      ∧ (nextLevel s.geometry s.supply.level sample = s.supply.level → Answers (.supplySample i) s fun t =>
        { t with now := s.now, pins := s.pins, supply := s.supply, ram := s.ram } = s
          ∧ t.supply.latest = sample ∧ t.supply.level = s.supply.level ∧ TicketFramesKept s t)
      ∧ ∀ g : Geometry, (s.installGeometry g).supply = s.supply

/-- The reading of a sample and the slot count of a level (R163, R137). Entering CRITICAL: slot count 0, SUPPLY_CRITICAL added, SUPPLY
raised, STALL on the records under the tools, and every arm in service of a rotor that is READY vented to 0, its LIFT kept as a deferred
lift with aperture and wake flag, its CHARGE dropped, its state, tag and target kept; then no request waits and no move is in flight.
Leaving CRITICAL: the slot count of the new level, SUPPLY_CRITICAL removed, SUPPLY raised; for each arm whose drive is READY the deferred
lift becomes an URGENT LIFT request, waiting or granted, and an ENGAGED arm is recomputed whatever the dead band, HIGH in ENTRY and NORMAL
in BODY. Between NORMAL and LOW: the slot count and SUPPLY, and the grants that follow. A sample that leaves the level as it stands sets the
reading, the scan rate and the time of the next sample only (R105, R106, R125, R126, R146, R165, R166). The reading of the clock is the
model's (log 1, log 29). -/
def Obligations.CriticalSupplyHoldsAndReleasesTheArms : Prop :=
  (∀ (g : Geometry) (i : Nat),
    slotsFor g .normal = g.slotsNormal ∧ slotsFor g .low = g.slotsLow ∧ slotsFor g .critical = 0
      ∧ supplyReading g i =
        if i < 3600 then none else some ((max 4000 (min i 20000) - 4000) * g.supplySpan / 16000))
  ∧ ∀ (s : State) (i : Nat) (level : SupplyLevel), s.running →
    nextLevel s.geometry s.supply.level (supplyReading s.geometry i) = level →
    (s.supply.level ≠ .critical → level = .critical → Answers (.supplySample i) s fun t =>
        t.supply.level = .critical ∧ t.arbiter.slots = 0 ∧ t.holds = { s.holds with supplyCritical := true }
          ∧ t.pendingCause .supply = true ∧ t.queue = s.stallFlagged ∧ TicketFramesKept s t
          ∧ (∀ a, (t.arm a).state = (s.arm a).state)
          ∧ (∀ a, (s.rotor (rotorOf a)).drive = .ready → (s.arm a).state ≠ .parked → (s.arm a).state ≠ .out →
            (t.arm a).commanded = 0 ∧ (t.arm a).flow.isWaiting = false ∧ (t.arm a).flow.isInFlight = false)
          ∧ (∀ a, (s.rotor (rotorOf a)).drive = .ready → HeldVented (s.arm a) (t.arm a))
          ∧ (∀ a, (s.rotor (rotorOf a)).drive ≠ .ready → t.arm a = s.arm a)
          ∧ (s.flowAgrees → t.arbiter.wait = [] ∧ t.arbiter.inFlight = []))
      ∧ (s.supply.level = .critical → level ≠ .critical → Answers (.supplySample i) s fun t =>
        t.supply.level = level ∧ t.arbiter.slots = slotsFor s.geometry level
          ∧ t.holds = { s.holds with supplyCritical := false } ∧ t.pendingCause .supply = true ∧ TicketFramesKept s t
          ∧ (∀ a, (t.arm a).state = (s.arm a).state)
          ∧ ∀ a aperture wake, (s.rotor (rotorOf a)).drive = .ready → (s.arm a).flow = .deferred aperture wake →
            (t.arm a).flow = .waiting ⟨.lift, aperture, .urgent, wake⟩
              ∨ ∃ w, (t.arm a).flow = .inFlight ⟨.lift, aperture, .urgent, wake⟩ (max s.now s.supply.nextSample) w)
      ∧ (s.supply.level = .critical → level ≠ .critical → Answers (.supplySample i) s fun t =>
        ∀ a, ((s.rotor (rotorOf a)).drive = .ready → HoldReleased { s with now := max s.now s.supply.nextSample } t a)
          ∧ ((s.rotor (rotorOf a)).drive ≠ .ready → GrantedOnly { s with now := max s.now s.supply.nextSample } t a))
      ∧ ∀ fast,
        fast = (s.supply.fast && (match supplyReading s.geometry i with
          | some v => decide (v < s.geometry.supplyLow)
          | none => true)) →
        (s.supply.level ≠ .critical → level ≠ .critical → s.supply.level ≠ level →
          Reaches (.supplySample i) s (State.arbitrate { s with
            now := max s.now s.supply.nextSample
            pins := { s.pins with supplyMicroAmp := i }
            supply := ⟨level, supplyReading s.geometry i, fast,
              max s.now s.supply.nextSample + (if fast then 1 else 10)⟩
            arbiter := { s.arbiter with
              slots := if level = .normal then s.geometry.slotsNormal else s.geometry.slotsLow }
            cause := s.cause ||| 0x0020#16 }))
        ∧ (s.supply.level = level → Reaches (.supplySample i) s { s with
          now := max s.now s.supply.nextSample
          pins := { s.pins with supplyMicroAmp := i }
          supply := ⟨level, supplyReading s.geometry i, fast,
            max s.now s.supply.nextSample + (if fast then 1 else 10)⟩ })

/-- The drive of a rotor. At-speed becoming active takes a DOWN drive to SETTLING with the settle timer started and raises no cause; the
timer's expiry makes the drive READY, removes its hold cause and raises ROTOR, and if the supply allows, the arms' deferred lifts are
requested and the ENGAGED arms recomputed whatever the dead band (R106, R126). At-speed becoming inactive takes the drive DOWN with the
settle timer stopped and raises ROTOR; out of READY it adds the rotor's hold cause, flags ROTOR_DOWN on the records under its tools, and
vents its arms in service, a LIFT kept as a deferred lift, unless the supply holds them already (R125, R167, R168). That a command repeating
the level already held changes nothing (log 11), the clock at the settle timer's expiry, and that its command changes nothing when it does
not run (log 1) are the model's. -/
def Obligations.DriveFollowsAtSpeedAndSettleTimer : Prop :=
  ∀ (s : State) (r : RotorId), s.running →
    ((s.rotor r).atSpeed = true → Reaches (.atSpeedActive r) s s)
      ∧ ((s.rotor r).atSpeed = false → (s.rotor r).drive = .down → Reaches (.atSpeedActive r) s
        ((s.setAtSpeed r true).setRotor r { s.rotor r with
          atSpeed := true, drive := .settling, settle := some (s.now + s.geometry.settleTime) }))
      ∧ ((s.rotor r).settle = none → Reaches (.settleTimerExpiry r) s s)
      ∧ (∀ w, (s.rotor r).settle = some w → Answers (.settleTimerExpiry r) s fun t =>
        (t.rotor r).drive = .ready ∧ (t.rotor r).settle = none ∧ t.now = max s.now w
          ∧ t.holds = s.holds.put (downCause r) false ∧ t.pendingCause .rotor = true ∧ TicketFramesKept s t
          ∧ (∀ a, (t.arm a).state = (s.arm a).state)
          ∧ (s.supply.level = .critical → s.arbiter.wait = [] → t.arms = s.arms)
          ∧ (s.supply.level ≠ .critical → ∀ a aperture wake, rotorOf a = r → (s.arm a).flow = .deferred aperture wake →
            (t.arm a).flow = .waiting ⟨.lift, aperture, .urgent, wake⟩
              ∨ ∃ x, (t.arm a).flow = .inFlight ⟨.lift, aperture, .urgent, wake⟩ (max s.now w) x)
          ∧ (∀ a, rotorOf a ≠ r ∨ s.supply.level = .critical → GrantedOnly { s with now := max s.now w } t a)
          ∧ (s.supply.level ≠ .critical → ∀ a, rotorOf a = r → HoldReleased ({ s with now := max s.now w }) t a))
      ∧ ((s.rotor r).atSpeed = false → Reaches (.atSpeedInactive r) s s)
      ∧ ((s.rotor r).atSpeed = true → (s.rotor r).drive = .settling → Reaches (.atSpeedInactive r) s
        { (s.setAtSpeed r false).setRotor r { s.rotor r with atSpeed := false, drive := .down, settle := none } with
          cause := s.cause ||| 0x0040#16 })
      ∧ ((s.rotor r).atSpeed = true → (s.rotor r).drive = .ready → Answers (.atSpeedInactive r) s fun t =>
        (t.rotor r).drive = .down ∧ (t.rotor r).atSpeed = false ∧ (t.rotor r).settle = none
          ∧ t.holds = s.holds.put (downCause r) true ∧ t.pendingCause .rotor = true
          ∧ t.queue = s.queue.map (fun q => if underTools r q then { q with rotorDown := true } else q)
          ∧ (∀ a, (t.arm a).state = (s.arm a).state)
          ∧ (s.supply.level ≠ .critical → ∀ a, rotorOf a = r → (s.arm a).state ≠ .parked → (s.arm a).state ≠ .out →
            (t.arm a).commanded = 0 ∧ (t.arm a).flow.isWaiting = false ∧ (t.arm a).flow.isInFlight = false)
          ∧ (s.supply.level ≠ .critical → s.flowAgrees → ∀ a, rotorOf a = r → HeldVented (s.arm a) (t.arm a))
          ∧ (∀ a, rotorOf a ≠ r ∨ s.supply.level = .critical → GrantedOnly s t a)
          ∧ TicketFramesKept s t)

/-! ### Quality reports and trim learning (chapter 10) -/

/-- The receiver: in HUNT only the marker opens a frame; in a frame the first two bytes more are kept and restart the gap timer, a framing
error discards the frame, and a gap of more than 5 ms discards it; a complete frame is discarded with reason CHECK when its check byte is
not the sum of the others, with RANGE when its residual is above 100, and with UNMATCHED when no record awaits a report (R176 to R179,
R185). That the gap timer, which runs whole milliseconds, expires at the sixth (log 18), the clock then, and that its command changes
nothing when it does not run (log 1) are the model's choices. -/
def Obligations.ReceiverCollectsTheFrame : Prop :=
  ∀ (s : State) (b : Byte), s.running →
    (s.quality.buffer = [] → b = 0xA5#8 → Reaches (.qualityByte b false) s
        { s with quality := { s.quality with buffer := [b], gap := some s.now } })
      ∧ (∀ f, s.quality.buffer = [] → (b ≠ 0xA5#8 ∨ f = true) → Reaches (.qualityByte b f) s s)
      ∧ (∀ x rest, s.quality.buffer = x :: rest → rest.length < 2 → Reaches (.qualityByte b false) s
        { s with quality := { s.quality with buffer := s.quality.buffer ++ [b], gap := some s.now } })
      ∧ (s.quality.buffer ≠ [] → Reaches (.qualityByte b true) s { s with
        quality := { s.quality with buffer := [], gap := none, lastDiscard := .framing }
        counters := { s.counters with discarded := s.counters.discarded + 1 }
        cause := s.cause ||| 0x0400#16 })
      ∧ (∀ w, s.quality.gap = some w → Reaches .gapTimerExpiry s { s with
        now := max s.now (w + 6)
        quality := { s.quality with buffer := [], gap := none, lastDiscard := .gap }
        counters := { s.counters with discarded := s.counters.discarded + 1 }
        cause := s.cause ||| 0x0400#16 })
      ∧ (s.quality.gap = none → Reaches .gapTimerExpiry s s)
      ∧ ∀ m residual flags check : Byte, s.quality.buffer = [m, residual, flags] →
        (m + residual + flags ≠ check → Reaches (.qualityByte check false) s { s with
            quality := { s.quality with buffer := [], gap := none, lastDiscard := .check }
            counters := { s.counters with discarded := s.counters.discarded + 1 }
            cause := s.cause ||| 0x0400#16 })
          ∧ (m + residual + flags = check → 100 < residual.toNat → Reaches (.qualityByte check false) s { s with
            quality := { s.quality with buffer := [], gap := none, lastDiscard := .range }
            counters := { s.counters with discarded := s.counters.discarded + 1 }
            cause := s.cause ||| 0x0400#16 })
          ∧ (m + residual + flags = check → residual.toNat ≤ 100 → (∀ q ∈ s.queue, q.outfeed = .inMachine) →
            Reaches (.qualityByte check false) s { s with
              quality := ⟨[], none, .unmatched,
                some ⟨residual.toNat, flags.getLsbD 0, flags.getLsbD 1, none⟩⟩
              counters := { s.counters with discarded := s.counters.discarded + 1 }
              cause := s.cause ||| 0x0400#16 })

/-- A valid report closes the oldest record that awaits one. Of a LOG record without a reason to suppress it steps the live row's cell of
the record's class by the report, clamped into the trim limit; with a reason, the first of the table of R182 that holds, or with the
scanner-fault flag, the live row stays (R179 to R182). -/
def Obligations.MatchedReportClosesAndTeaches : Prop :=
  ∀ (s : State) (m residual flags check : Byte) (q : Record), s.running → s.quality.buffer = [m, residual, flags] →
    m + residual + flags = check → residual.toNat ≤ 100 →
    (s.queue.find? fun x => x.outfeed == .awaitReport) = some q → ∀ (s' : State),
    s' = { s with quality := ⟨[], none, s.quality.lastDiscard,
      some ⟨residual.toNat, flags.getLsbD 0, flags.getLsbD 1, some q.tag⟩⟩ } → ∀ (why : Suppression),
    why = (if q.noLearn = true then .noLearn
      else if q.profileFault.isSome = true then .profileFault
      else if q.rowUsed = 0 then .guardRow
      else if (s.row q.rowUsed).valid = false then .rowInvalid
      else if q.stall = true then .stall
      else if q.rotorDown = true then .rotorDown
      else if 0 < q.view1.lateLifts ∨ 0 < q.view2.lateLifts then .lateLift
      else if q.view1.minActive.getD 5 < 5 ∨ q.view2.minActive.getD 5 < 5 then .armsBelowFull
      else .notSuppressed) →
    (flags.getLsbD 1 = true → Reaches (.qualityByte check false) s
        (s'.closeRecord q .workedNoReport ⟨0, false, true, 0, .noReport, false⟩))
      ∧ (flags.getLsbD 1 = false → q.kind ≠ .log → Reaches (.qualityByte check false) s
        (s'.closeRecord q .worked ⟨0, false, false, 0, .notSuppressed, false⟩))
      ∧ (flags.getLsbD 1 = false → q.kind = .log → why ≠ .notSuppressed → Reaches (.qualityByte check false) s
        (s'.closeRecord q .worked ⟨residual.toNat, flags.getLsbD 0, false, 0, why, false⟩))
      ∧ (flags.getLsbD 1 = false → q.kind = .log → why = .notSuppressed →
        ∀ (c : TempClass) (step value : Int), q.tempClass = some c →
        step = (if flags.getLsbD 0 then -1 else if (s.row q.rowUsed).residualTarget < residual.toNat then 1 else 0) →
        value = max (-((s.row q.rowUsed).trimLimit : Int))
          (min ((s.row q.rowUsed).trim c + step) (s.row q.rowUsed).trimLimit) →
        Reaches (.qualityByte check false) s
          ((s'.setRow q.rowUsed ((s.row q.rowUsed).setTrim c value)).closeRecord q .worked
            ⟨residual.toNat, flags.getLsbD 0, false, value - (s.row q.rowUsed).trim c, .notSuppressed,
              decide (step ≠ 0 ∧ value = (s.row q.rowUsed).trim c)⟩))

/-! ### Modes (chapter 11) -/

/-- A request for another mode is taken exactly when the table of R188 allows the change and its condition holds; otherwise it is refused:
the mode stays, the mode-refused flag is set and MODE is raised. -/
def Obligations.ModeRequestIsTakenWhenTheTableAllows : Prop :=
  ∀ (s : State) (m : Mode), s.running → m ≠ s.mode → ∀ allowed : Prop,
    (allowed ↔ s.mode = .config ∧ m = .run ∧ s.geometryValid = true
      ∨ s.mode = .run ∧ m = .hold
      ∨ s.mode = .hold ∧ m = .run
      ∨ s.mode = .hold ∧ m = .service ∧ s.queue = []
      ∨ s.mode = .service ∧ m = .hold
      ∨ (s.mode = .hold ∨ s.mode = .service) ∧ m = .config ∧ s.queue = []) →
    (allowed → Answers (requestOf m) s fun t => t.mode = m ∧ t.modeRefused = false ∧ t.pendingCause .mode = s.pendingCause .mode)
      ∧ (¬ allowed → Reaches (requestOf m) s { s with modeRefused := true, cause := s.cause ||| 0x0800#16 })

/-- The effects of a mode change that is taken: the hold causes, and on entry to CONFIG or SERVICE every arm in service but a PARKED one at
STANDBY, for no record and vented to the release target, both park timers started and, from HOLD, the tracker re-based; the manifest, the
species table, the transit queue, the counters and all else stay, but for what returned arms bring to the active counts (R120, R132, R169,
R189). A request for the mode in force only clears the flag (R187). -/
def Obligations.ModeChangeHasItsEffects : Prop :=
  ∀ (s : State) (m : Mode), s.running →
    (m = s.mode → Reaches (requestOf m) s { s with modeRefused := false })
      ∧ (m ≠ s.mode → s.modeAllowed m = true → (m = .run ∨ m = .hold) → Reaches (requestOf m) s { s with
        mode := m, modeRefused := false, holds := { s.holds with lockout := false, modeHold := decide (m = .hold) } })
      ∧ (m ≠ s.mode → s.modeAllowed m = true → (m = .config ∨ m = .service) → Answers (requestOf m) s fun t =>
        t.mode = m ∧ t.modeRefused = false
          ∧ t.holds.lockout = decide (m = .config) ∧ t.holds.modeHold = decide (m = .service)
          ∧ t.feed = (if s.mode = .hold then
              { s.feed with
                peak := s.feed.position
                eyeIn := { s.feed.eyeIn with change := none }
                eyeOut := { s.feed.eyeOut with change := none } }
            else s.feed)
          ∧ t.rotor1.park = some (s.now + s.geometry.parkDelay) ∧ t.rotor2.park = some (s.now + s.geometry.parkDelay)
          ∧ (∀ a, (t.arm a).state = if (s.arm a).state = .parked then .parked
            else if (s.arm a).state = .out ∧ (s.arm a).returnPending = false then .out else .standby)
          ∧ TicketFramesKept s t
          ∧ AllStandby s t ∧ ReturnsCounted s t ∧ t.arbiter.slots = s.arbiter.slots
          ∧ t.holds = { t.holds with
            supplyCritical := s.holds.supplyCritical
            rotor1Down := s.holds.rotor1Down
            rotor2Down := s.holds.rotor2Down
            transitFull := s.holds.transitFull
            trackFault := s.holds.trackFault }
          ∧ (∀ r, { t.rotor r with park := none, protection := none } = { s.rotor r with park := none, protection := none })
          ∧ { t with
            mode := s.mode
            modeRefused := s.modeRefused
            holds := s.holds
            cause := s.cause
            feed := s.feed
            arms := s.arms
            rotor1 := s.rotor1
            rotor2 := s.rotor2
            arbiter := s.arbiter
            ram := s.ram } = s)

/-- TRACK_CLEAR is taken with the latch set and the infeed eye declared CLEAR: the latch is cleared, TRACK_FAULT removed, the arms in
service but PARKED ones and those with return-pending go STANDBY, for no record and vented to the release target, and the park timers start;
the manifest, the species table, the transit queue, empty since the teardown, the counters and all else stay, but for what returned arms
bring to the active counts (R120, R131, R132, R169). Otherwise it changes nothing (R172). -/
def Obligations.TrackClearNeedsAClearEye : Prop :=
  ∀ s : State, s.running →
    ((s.latch = false ∨ s.feed.eyeIn.declared = .blocked) → Reaches .trackClear s s)
      ∧ (s.latch = true → s.feed.eyeIn.declared = .clear → Answers .trackClear s fun t =>
        t.latch = false ∧ t.holds.trackFault = false ∧ t.feed = s.feed ∧ t.mode = s.mode
          ∧ t.rotor1.park = some (s.now + s.geometry.parkDelay) ∧ t.rotor2.park = some (s.now + s.geometry.parkDelay)
          ∧ (∀ a, (t.arm a).state = if (s.arm a).state = .parked then .parked
            else if (s.arm a).state = .out ∧ (s.arm a).returnPending = false then .out else .standby)
          ∧ TicketFramesKept s t
          ∧ AllStandby s t ∧ ReturnsCounted s t ∧ t.arbiter.slots = s.arbiter.slots
          ∧ t.holds = { s.holds with
            trackFault := false, rotor1Unusable := t.holds.rotor1Unusable, rotor2Unusable := t.holds.rotor2Unusable }
          ∧ (∀ r, { t.rotor r with park := none, protection := none } = { s.rotor r with park := none, protection := none })
          ∧ (s.queue = [] ∨ s.noneReturns → t.queue = s.queue)
          ∧ { t with
            latch := s.latch
            holds := s.holds
            cause := s.cause
            queue := s.queue
            arms := s.arms
            rotor1 := s.rotor1
            rotor2 := s.rotor2
            arbiter := s.arbiter
            ram := s.ram } = s)

/-! ### Resets (R190 and the reset rule of every chapter) -/

/-- Every reset, at its start and at its end, leaves every block at the reset values of its chapter; RESET_CAUSE takes the reset's own flag,
a POWER reset clears the others, the RAM stays but for a POWER reset, whose end writes 0 into the link of frame 0. What a POWER reset leaves
in the RAM is the model's choice (log 5), as is the value at the start of a reset (log 19); a write into the configuration memory that is in
progress changes that memory and the free-value counter only (log 7). -/
def Obligations.ResetsGiveTheResetValues : Prop :=
  ∀ s : State,
    (∃ t, exec .powerReset s = .next t ∧ { t with eeprom := s.eeprom, free := s.free } =
        { s.afterReset s.pins.levels with resetHeld := some .power, resetPower := true, resetCause := 1, ram := [] })
      ∧ (∃ t, exec .pinReset s = .next t ∧ { t with eeprom := s.eeprom, free := s.free } =
        { s.afterReset s.pins.levels with resetHeld := some .pin, resetCause := s.resetCause ||| 2 })
      ∧ (s.running → ∃ t, exec .softReset s = .next t ∧ { t with eeprom := s.eeprom, free := s.free } =
        { s.afterReset s.pins.levels with resetHeld := some .soft, resetCause := s.resetCause ||| 4 })
      ∧ (s.cfg.save = none → s.cfg.transfer = none → ∀ c ∈ [Instr.powerReset, .pinReset, .softReset], ∀ t,
        exec c s = .next t → t.eeprom = s.eeprom ∧ t.free = s.free)
      ∧ (∀ i o x y, s.running → exec (.resetEnd i o x y) s = .next s)
      ∧ ∀ i o x y, s.resetHeld.isSome = true → exec (.resetEnd i o x y) s = .next { s.afterReset ⟨i, o, x, y⟩ with
        resetHeld := none
        resetPower := false
        ram := if s.resetPower then (s.ram.write 0 0).write 1 0 else s.ram }

/-! ### The host bus (chapter 12) -/

/-- What the host writes into the registers and into the manifest RAM, and REGISTER_WRITE by its offset: the same effect as the register's
own command, the data registers stored, read-only registers and unused offsets ignored. A CONTROL write without SOFT_RESET takes the mode
that its code 1 to 4 requests, codes 0 and 5 to 7 having no effect, then SCAN, then TRACK_CLEAR (their order: log 3). What it reads: each
register the state it names, STATUS by its bits, 0 above offset 0x14, and 0 everywhere while a reset is held (R26, R187, R201, R202, R203).
That REGISTER_WRITE acts at an offset with a row of its own as that row's command, and a CONTROL write as the commands of its fields, is the
model's reading (log 20). -/
def Obligations.HostWritesReachTheRegistersAndTheRam : Prop :=
  ∀ (s : State) (w : Word),
    (s.running →
        Reaches (.causeWrite w) s { s with cause := s.cause &&& ~~~w }
          ∧ Reaches (.enableWrite w) s { s with enable := w &&& 0x8FFF#16 }
          ∧ Reaches (.resetCauseWrite w) s { s with resetCause := s.resetCause &&& ~~~w }
          ∧ Reaches (.scanReloadWrite w) s { s with manifest := { s.manifest with
              scanReload := max 1 (w.toNat % 256)
              scanTimer := s.manifest.scanTimer.map fun _ => s.now + 10 * max 1 (w.toNat % 256) } }
          ∧ Reaches (.registerWrite 0x12#16 w) s { s with cfg := { s.cfg with dataLo := w } }
          ∧ Reaches (.registerWrite 0x14#16 w) s { s with cfg := { s.cfg with dataHi := w } }
          ∧ ∀ offset : Word, (offset = 0x00#16 ∨ offset = 0x04#16 ∨ offset = 0x0C#16 ∨ 0x14 < offset.toNat) →
            Reaches (.registerWrite offset w) s s)
      ∧ exec (.registerWrite 0x06#16 w) s = exec (.causeWrite w) s
      ∧ exec (.registerWrite 0x08#16 w) s = exec (.enableWrite w) s
      ∧ exec (.registerWrite 0x0A#16 w) s = exec (.scanReloadWrite w) s
      ∧ exec (.registerWrite 0x0E#16 w) s = exec (.resetCauseWrite w) s
      ∧ exec (.registerWrite 0x10#16 w) s = exec (.cfgAddrWrite w) s
      ∧ (w.getLsbD 15 = true → exec (.registerWrite 0x02#16 w) s = exec .softReset s)
      ∧ (∀ m : Mode, w.toNat = m.code → exec (.registerWrite 0x02#16 w) s = exec (requestOf m) s)
      ∧ (w = 0x10#16 → exec (.registerWrite 0x02#16 w) s = exec .scan s)
      ∧ (w = 0x20#16 → exec (.registerWrite 0x02#16 w) s = exec .trackClear s)
      ∧ (s.running → w.getLsbD 15 = false → w.getLsbD 4 = false → w.getLsbD 5 = false → (∀ m : Mode, (w &&& 7#16).toNat ≠ m.code) →
        Reaches (.registerWrite 0x02#16 w) s s)
      ∧ (s.running → (∀ m, Reaches (requestOf m) s (s.requestMode m)) ∧ Reaches .scan s s.requestScan
        ∧ Reaches .trackClear s s.trackClear)
      ∧ (s.running → w.getLsbD 15 = false → ∀ y z : State,
        (∀ m : Mode, (w &&& 7#16).toNat = m.code → y = s.requestMode m) →
        ((∀ m : Mode, (w &&& 7#16).toNat ≠ m.code) → y = s) →
        z = (if w.getLsbD 4 = true then y.requestScan else y) →
        Reaches (.registerWrite 0x02#16 w) s (if w.getLsbD 5 = true then z.trackClear else z))
      ∧ (∀ address : Word, address.toNat % 2 = 0 → ∃ t, exec (.manifestRamWrite address w) s = .next t
        ∧ { t with ram := s.ram } = s ∧ t.ram.word address.toNat = w
        ∧ ∀ a, a ≠ address.toNat → a ≠ address.toNat + 1 → t.ram.read a = s.ram.read a)
      ∧ (s.resetHeld.isSome = true → ∀ offset, s.readRegister offset = 0)
      ∧ (s.running → s.readRegister 0x00#16 = 0x2410#16 ∧ s.readRegister 0x02#16 = 0 ∧ s.readRegister 0x06#16 = s.cause
        ∧ s.readRegister 0x08#16 = s.enable ∧ (s.readRegister 0x0A#16).toNat = s.manifest.scanReload % 65536
        ∧ (s.readRegister 0x0C#16).toNat = s.manifest.cursor % 65536 ∧ s.readRegister 0x0E#16 = s.resetCause
        ∧ s.readRegister 0x10#16 = s.cfg.addr ∧ s.readRegister 0x12#16 = s.cfg.dataLo
        ∧ s.readRegister 0x14#16 = s.cfg.dataHi ∧ ∀ offset : Word, 0x14 < offset.toNat → s.readRegister offset = 0)
      ∧ (s.running → ∀ status : Word, s.readRegister 0x04#16 = status →
        (status &&& 7#16) = (match s.mode with
            | .config => 1#16
            | .run => 2#16
            | .hold => 3#16
            | .service => 4#16)
          ∧ status.getLsbD 3 = s.modeRefused
          ∧ status.getLsbD 4 = s.cfgBusy ∧ (s.cfgBusy = true ↔ s.cfg.preload = .running ∨ s.cfg.transfer.isSome = true
            ∨ (s.cfg.save.bind Save.page).isSome = true)
          ∧ status.getLsbD 5 = s.cfg.fault ∧ status.getLsbD 6 = decide (s.cfg.preload = .running)
          ∧ status.getLsbD 7 = s.geometryValid ∧ status.getLsbD 8 = s.latch ∧ status.getLsbD 9 = s.holds.any
          ∧ status.getLsbD 10 = s.cfg.save.isSome ∧ ∀ k, 11 ≤ k → status.getLsbD k = false)

/-- The interrupt line is asserted exactly when the global enable is set and some cause is both pending and enabled; so it is released after
every reset and while one is held (R204). -/
def Obligations.InterruptLineFollowsCausesAndEnables : Prop :=
  (∀ s : State, s.interrupt = true ↔
      s.enable.getLsbD 15 = true ∧ ∃ c : Cause, s.cause.getLsbD c.place = true ∧ s.enable.getLsbD c.place = true)
    ∧ (∀ (s : State) (x : RawLevels), (s.resetBlocks x).interrupt = false)
    ∧ ∀ (s : State) (c : Cause), (s.raise c).pendingCause c = true

/-- The memory's link and the access port (R192, R199). Commands are 0x05, 0x06, 0x03 and 0x02, an address high byte first; a write is
preceded by a write enable and followed by status reads, and is done when a status byte shows bit 0 clear. A CFG_ADDR write starts a
transfer when the memory is not busy and is ignored otherwise; the completed read leaves the four bytes in the data registers with the flag
set, the completed write stores the four bytes with the flag clear; a transfer not completed ends with CFG_FAULT, a read with 0xFFFF in both
registers. A save that waits begins its page 1 in the act that ends the transfer (R197). That a ready status byte comes as the command it
is, and the memory's bytes are read or written at ACCESS_TRANSFER_DONE (log 21), the clock and the commands without a transfer (log 1), and
the bytes of a write that timed out (log 7) are the model's. -/
def Obligations.AccessPortMovesFourBytes : Prop :=
  (∀ (a : Nat) (bytes : List Byte), a < 65536 →
    MemoryCommand.statusRead.sent = [0x05#8] ∧ MemoryCommand.writeEnable.sent = [0x06#8]
      ∧ (MemoryCommand.read a).sent = [0x03#8, BitVec.ofNat 8 (a / 256), BitVec.ofNat 8 (a % 256)]
      ∧ (MemoryCommand.write a bytes).sent = [0x02#8, BitVec.ofNat 8 (a / 256), BitVec.ofNat 8 (a % 256)] ++ bytes)
  ∧ ∀ (s : State) (w : Word), s.running →
    (s.cfgBusy = true → Reaches (.cfgAddrWrite w) s s)
      ∧ (s.cfgBusy = false → w.getLsbD 15 = false → Reaches (.cfgAddrWrite w) s { s with cfg := { s.cfg with
        addr := w &&& 0x1FFC#16, fault := false
        transfer := some ⟨false, (w &&& 0x1FFC#16).toNat, [], s.now + 10⟩ } })
      ∧ (s.cfgBusy = false → w.getLsbD 15 = true → Reaches (.cfgAddrWrite w) s { s with cfg := { s.cfg with
        addr := w &&& 0x9FFC#16, fault := false
        transfer := some ⟨true, (w &&& 0x1FFC#16).toNat,
          bytesOfWord s.cfg.dataLo ++ bytesOfWord s.cfg.dataHi, s.now + 10⟩ } })
      ∧ (s.cfg.preload = .running → s.memoryCommands = [.statusRead])
      ∧ (s.cfg.transfer = none → Reaches .accessTransferDone s s ∧ Reaches .accessTransferTimeout s s)
      ∧ ∀ x, s.cfg.transfer = some x → x.address ≤ 0x1FFC →
        (s.cfg.preload ≠ .running → s.memoryCommands =
            if x.write then [.writeEnable, .write x.address x.bytes, .statusRead] else [.read x.address])
          ∧ (s.cfg.preload ≠ .running → ∀ (status : Byte) worn,
            s.statusAnswer status worn = if x.write ∧ status.getLsbD 0 = false then some .accessTransferDone else none)
          ∧ ∀ begun : State → State,
            (s.cfg.save.bind Save.page ≠ none ∨ s.cfg.save = none → ∀ u, begun u = u) →
            (∀ y, s.cfg.save = some y → y.page = none → ∀ u : State, begun u = { u with cfg := { u.cfg with
              save := some { y with
                page := some ⟨1, s.geometry.toBytes.take 64, u.now + 10⟩
                sum := y.sum + sumWords (s.geometry.toBytes.take 64)
                geometry := s.geometry.toBytes } } }) →
            (x.write = false → Reaches .accessTransferDone s (begun { s with cfg := { s.cfg with
                addr := s.cfg.addr ||| 0x8000#16
                dataLo := s.eeprom.word x.address
                dataHi := s.eeprom.word (x.address + 2)
                transfer := none } }))
              ∧ (x.write = true →
                Reaches .accessTransferDone s (begun { s with
                  eeprom := s.eeprom.writeBytes x.address x.bytes
                  cfg := { s.cfg with addr := s.cfg.addr &&& 0x7FFF#16, transfer := none } }))
              ∧ (x.write = false → Reaches .accessTransferTimeout s (begun { s with
                now := max s.now x.deadline
                cfg := { s.cfg with
                  addr := s.cfg.addr ||| 0x8000#16, dataLo := 0xFFFF#16, dataHi := 0xFFFF#16, fault := true
                  transfer := none } }))
              ∧ (x.write = true → Answers .accessTransferTimeout s fun t =>
                { t with eeprom := s.eeprom, free := s.free, ram := s.ram } = begun { s with
                    now := max s.now x.deadline
                    cfg := { s.cfg with addr := s.cfg.addr &&& 0x7FFF#16, fault := true, transfer := none } }
                  ∧ (∀ a, a < x.address ∨ x.address + x.bytes.length ≤ a → t.eeprom.read a = s.eeprom.read a)
                  ∧ TicketFramesKept s t)

/-- The pages of a save: a page that reads back as sent is followed by the next, pages 1 to 34 summed and page 0 last with marker, length
and sum; after page 0 the ticket is closed DONE with the check and SAVE is raised; a page that reads back otherwise, or is not reported
done, closes it FAILED with the page's index (R191, R197, R198). A page is one write of its bytes from its first address, done when a status
byte shows bit 0 clear (R192). The worn cells carried by SAVE_PAGE_DONE (log 21), the clock and the commands without a page (log 1), the
bytes of a page that timed out (log 7) and the 0 in the header-check field of a FAILED save (log 37) are the model's. -/
def Obligations.SaveWritesItsPagesInOrder : Prop :=
  ∀ (s : State), s.running →
    (s.cfg.save.bind Save.page = none →
        (∀ worn, Reaches (.savePageDone worn) s s) ∧ Reaches .savePageTimeout s s)
      ∧ ∀ (x : Save) (p : SavePage), s.cfg.save = some x → x.page = some p → p.index ≤ 34 →
        (s.cfg.preload ≠ .running → s.cfg.transfer = none →
            s.memoryCommands = [.writeEnable, .write (64 * p.index) p.sent, .statusRead])
          ∧ (s.cfg.preload ≠ .running → s.cfg.transfer = none → ∀ (status : Byte) worn,
            s.statusAnswer status worn = if status.getLsbD 0 then none else some (.savePageDone worn))
          ∧ (∀ k, p.index = k → 2 ≤ k → k ≤ 33 → ∀ bytes, bytes = (s.row (k + 1 - 3)).toBytes →
            Reaches (.savePageDone []) s { s with
              eeprom := s.eeprom.writeBytes (64 * k) p.sent
              cfg := { s.cfg with save := some { x with
                page := some ⟨k + 1, bytes, s.now + 10⟩, sum := x.sum + sumWords bytes } } })
          ∧ (p.index = 1 → Reaches (.savePageDone []) s { s with
            eeprom := s.eeprom.writeBytes 64 p.sent
            cfg := { s.cfg with save := some { x with
              page := some ⟨2, x.geometry.drop 64, s.now + 10⟩, sum := x.sum + sumWords (x.geometry.drop 64) } } })
          ∧ (p.index = 34 → Reaches (.savePageDone []) s { s with
            eeprom := s.eeprom.writeBytes (64 * 34) p.sent
            cfg := { s.cfg with save := some { x with page := some ⟨0,
              bytesOfWord 0x4B41#16 ++ bytesOfWord 2176#16 ++ bytesOfWord x.sum ++ List.replicate 58 0, s.now + 10⟩ } } })
          ∧ (p.index = 0 → Reaches (.savePageDone []) s (({ s with
              eeprom := s.eeprom.writeBytes 0 p.sent
              cfg := { s.cfg with save := none } }.closeFrame x.frame x.tag .done 0 [(140, bytesOfWord x.sum)]).raise .save))
          ∧ (∀ worn, applyWorn p.sent worn ≠ p.sent → Reaches (.savePageDone worn) s (({ s with
              eeprom := s.eeprom.writeBytes (64 * p.index) (applyWorn p.sent worn)
              cfg := { s.cfg with save := none } }.closeFrame x.frame x.tag .failed p.index []).raise .save))
          ∧ Answers .savePageTimeout s fun t => ∀ u : State,
            u = ({ s with
                now := max s.now p.deadline
                cfg := { s.cfg with save := none } }.closeFrame x.frame x.tag .failed p.index []).raise .save →
              { t with eeprom := u.eeprom, free := u.free, ram := u.ram } = u ∧ TicketFramesKept u t
                ∧ ∀ a, a < 64 * p.index ∨ 64 * p.index + p.sent.length ≤ a → t.eeprom.read a = s.eeprom.read a

/-- The end of the preload: GOOD when marker, length, check and stored geometry agree, else BAD with its reason; the tables of R194, the
geometry valid exactly when GOOD, PRELOAD raised, the first scan begun and the scan timer started, and frames 240 to 250 written in full;
without an answer within 10 ms it is BAD with NO_RESPONSE (R25, R26, R192, R193, R194). Row 0 is the stored row where it passes its checks,
valid in either case, else the guard row (R90). That the whole image is read and judged at PRELOAD_END (log 21, log 27), the clock and the
commands outside a preload (log 1), the detail of an end other than GEOMETRY (log 36) and a stored row both invalid and failing (log 31) are
the model's. -/
def Obligations.PreloadInstallsTheStoredTables : Prop :=
  ∀ s : State, s.running →
    (s.cfg.preload ≠ .running → Reaches .preloadEnd s s ∧ Reaches .preloadNoResponse s s)
      ∧ (s.cfg.preload = .running → ∀ (status : Byte) worn,
        s.statusAnswer status worn = if status.getLsbD 0 then none else some .preloadEnd)
      ∧ (s.cfg.preload = .running → s.manifest.scanning = false →
        Answers .preloadEnd s (fun t =>
          ∀ (stored : Geometry) (row : Nat → SpeciesRow), stored = Geometry.ofWords (fun k => s.eeprom.word (64 + 2 * k)) →
            (∀ k, row k = .ofBytes (s.eeprom.readBytes (64 * (k + 3)) 64)) →
            t.cfg.preload = (if s.eeprom.word 0 ≠ 0x4B41#16 then .marker
                else if s.eeprom.word 2 ≠ 2176#16 then .length
                else if sumWords (s.eeprom.readBytes 64 2176) ≠ s.eeprom.word 4 then .check
                else if stored.firstFailed.isSome then .geometry
                else .good)
              ∧ t.cfg.preloadDetail = (if t.cfg.preload = .geometry then stored.firstFailed.getD 0 else 0)
              ∧ t.geometryValid = decide (t.cfg.preload = .good)
              ∧ (t.cfg.preload = .good → t.geometry = stored)
              ∧ (t.cfg.preload = .good → t.row 0 =
                (if rowCheck 0 (row 0) = none then { row 0 with valid := true } else .guard))
              ∧ (t.cfg.preload = .good → ∀ k, 1 ≤ k → k < 32 →
                t.row k = (if rowCheck k (row k) = none then row k else .empty))
              ∧ (t.cfg.preload ≠ .good → t.geometry = .default ∧ t.species = speciesReset)
              ∧ t.pendingCause .preload = true ∧ t.manifest.scanning = true
              ∧ t.manifest.scanTimer = some (s.now + 10 * s.manifest.scanReload) ∧ t.imageStands
              ∧ TicketFramesKept s t)
          ∧ Answers .preloadNoResponse s fun t =>
            t.cfg.preload = .noResponse ∧ t.cfg.preloadDetail = 0 ∧ t.geometryValid = false ∧ t.geometry = .default
              ∧ t.species = speciesReset ∧ t.now = max s.now s.cfg.preloadDeadline ∧ t.pendingCause .preload = true
              ∧ t.manifest.scanning = true
              ∧ t.manifest.scanTimer = some (max s.now s.cfg.preloadDeadline + 10 * s.manifest.scanReload)
              ∧ t.imageStands ∧ TicketFramesKept s t)

/-! ### Invariants -/

/-- The machine right after reset meets every invariant of the statements below. -/
def Obligations.ResetStateMeetsTheInvariants : Prop :=
  State.reset.memoriesCanonical ∧ State.reset.holdsStand ∧ State.reset.flowAgrees ∧ State.reset.slotsFollowSupply
    ∧ State.reset.impactBounded ∧ State.reset.trimsBounded ∧ State.reset.readerBounded ∧ State.reset.registersLegal
    ∧ State.reset.framesAreTickets

/-- Every step keeps both memories in their canonical form. -/
def Obligations.EveryStepKeepsTheMemoriesCanonical : Prop :=
  ∀ s t : State, s.memoriesCanonical → step s = .next t → t.memoriesCanonical

/-- Every step keeps the hold cause set exactly the set of the conditions that stand, so that feed hold is asserted exactly while one does
or a reset is held (R168, R169, R170, R171, R172, R189). -/
def Obligations.EveryStepKeepsTheHoldCausesTrue : Prop :=
  (∀ s t : State, s.holdsStand → step s = .next t → t.holdsStand)
    ∧ ∀ s : State, s.holdsStand → s.feedHold = (s.resetHeld.isSome || s.conditions.any)

/-- Every step keeps the arms' flow states fitting their states, no request or move under vent hold, and the arbiter's lists in agreement
with the arms (R111, R112, R125, R136). -/
def Obligations.EveryStepKeepsArmsAndArbiterInAgreement : Prop :=
  ∀ s t : State, s.flowAgrees → step s = .next t → t.flowAgrees

/-- Every step keeps the geometry consistent, the slot count that of the supply level, and at most four moves in flight (R137, R195). -/
def Obligations.EveryStepKeepsTheSlotsWithinTheSupply : Prop :=
  ∀ s t : State, s.slotsFollowSupply → step s = .next t → t.slotsFollowSupply

/-- Every step keeps each impact counter within the maximum depth it counts for (R152), and every trim cell within its row's trim limit,
those of row 0 zero (R91). -/
def Obligations.EveryStepKeepsImpactCountersAndTrimCellsBounded : Prop :=
  (∀ s t : State, s.impactBounded → step s = .next t → t.impactBounded)
    ∧ ∀ s t : State, s.trimsBounded → step s = .next t → t.trimsBounded

/-- Every step keeps the reader, the transit queue, the registers and the work on the configuration memory within their bounds, the records'
tags distinct, every frame that a staged entry, a record or the save holds a ticket frame, and the cursor a ticket frame or the anchor (R20,
R22, R23, R26, R30, R44, R64, R176, R177, R191, R203). -/
def Obligations.EveryStepKeepsTheReaderAndTheRegistersLegal : Prop :=
  ∀ s t : State, s.readerBounded ∧ s.registersLegal ∧ s.framesAreTickets → step s = .next t →
    t.readerBounded ∧ t.registersLegal ∧ t.framesAreTickets

/-- From the end of the preload on, frames 240 to 250 show the published state after every command other than a host write into the RAM, if
they did before it (R205). Frames that show it hold each field at its offset of section 12.5 by its codes (R207): the status frame, the
header and the record entries of the transit snapshot, the arm counts and the arm entries, the rows of the species image. A place of a list
beyond its count, and every byte the layouts leave unused, reads 0 (R39, R150, R205). The order of the
in-flight entries (log 33), what an arm's entry holds at flow state NONE (log 32) and the latest report's bytes before there is one (log 22)
are the model's. -/
def Obligations.PublishedFramesShowTheState : Prop :=
  (∀ (c : Instr) (s t : State), s.framesAreTickets → s.publishes = true → s.imageStands →
    (∀ address w, c ≠ .manifestRamWrite address w) → exec c s = .next t → t.publishes = true → t.imageStands)
  ∧ ([Motion.moving, .standstill].map Motion.code = List.range 2
    ∧ [TrackReason.noFault, .reverse, .overlong, .slip, .queueFull].map TrackReason.code = List.range 5
    ∧ [Mode.config, .run, .hold, .service].map Mode.code = [1, 2, 3, 4]
    ∧ [ScanEnd.noScan, .chainEnd, .notPosted, .held, .linkFault, .full].map ScanEnd.code = List.range 6
    ∧ [SupplyLevel.normal, .low, .critical].map SupplyLevel.code = List.range 3
    ∧ [Drive.down, .settling, .ready].map Drive.code = List.range 3
    ∧ [Usability.full, .degraded, .unusable].map Usability.code = List.range 3
    ∧ [FlowClass.urgent, .high, .normal, .low].map FlowClass.rank = List.range 4
    ∧ [Preload.running, .good, .noResponse, .marker, .length, .check, .geometry].map Preload.code = List.range 7
    ∧ [Discard.noDiscard, .check, .range, .gap, .framing, .unmatched].map Discard.code = List.range 6
    ∧ [RecordKind.log, .orphan, .stub].map RecordKind.code = List.range 3
    ∧ [none, some TempClass.frozen, some .thawed].map tempClassCode = List.range 3
    ∧ [Relation.apart, .close, .joint, .stubBehind].map Relation.code = List.range 4
    ∧ [Phase.approach, .lift, .entry, .body, .release, .passed].map Phase.code = List.range 6
    ∧ [ArmState.parked, .standby, .lifting, .opened, .engaged, .trailing, .free, .out].map ArmState.code = List.range 8
    ∧ [none, some OutCause.removed, some .presenceLost, some .valveFault, some .byTicket].map outCauseCode = List.range 5
    ∧ allArms.map armCode = [1, 2, 3, 4, 5, 6, 7, 8, 9, 10])
  ∧ ∀ s : State, s.imageStands →
    (s.shows 240 0 (bytesOfLong s.feed.position) ∧ s.shows 240 4 (bytesOfLong s.feed.peak)
      ∧ s.shows 240 8 (wordI (posDiff s.feed.peak s.feed.position)) ∧ s.shows 240 10 (byteN s.feed.motion.code)
      ∧ s.shows 240 11 (byteN (bit (s.feed.eyeIn.declared == .blocked) 0 + bit (s.feed.eyeOut.declared == .blocked) 1))
      ∧ s.shows 240 12 (byteN s.feed.reason.code) ∧ s.shows 240 13 (byteN (bit s.latch 0 + bit s.feedHold 1))
      ∧ s.shows 240 14 (wordN (bit s.holds.lockout 0 + bit s.holds.modeHold 1 + bit s.holds.supplyCritical 2
        + bit s.holds.rotor1Down 3 + bit s.holds.rotor2Down 4 + bit s.holds.rotor1Unusable 5 + bit s.holds.rotor2Unusable 6
        + bit s.holds.transitFull 7 + bit s.holds.trackFault 8))
      ∧ s.shows 240 16 (byteN s.mode.code) ∧ s.shows 240 17 (byteN (bit s.modeRefused 0))
      ∧ s.shows 240 18 (byteN s.manifest.cursor) ∧ s.shows 240 19 (byteN s.manifest.endReason.code)
      ∧ s.shows 240 20 (byteN s.manifest.staged.length)
      ∧ (s.manifest.staged = [] → s.shows 240 21 [0])
      ∧ (∀ e rest, s.manifest.staged = e :: rest → s.shows 240 21 (byteN (bit e.bound 0)))
      ∧ (∀ k e, k < 4 → s.manifest.staged[k]? = some e → s.shows 240 (22 + k) (byteN e.frame))
      ∧ (∀ k, k < 4 → s.manifest.staged.length ≤ k → s.shows 240 (22 + k) [0])
      ∧ (∀ k, k < 4 → s.arbiter.inFlight.length ≤ k → s.shows 240 (60 + 2 * k) [0, 0])
      ∧ (∀ k, k < 10 → s.arbiter.wait.length ≤ k → s.shows 240 (70 + 2 * k) [0, 0])
      ∧ s.shows 240 51 [0] ∧ s.shows 240 99 (List.replicate 157 0)
      ∧ s.shows 240 26 (bytesOfWord s.counters.closures) ∧ s.shows 240 28 (bytesOfWord s.counters.rejections)
      ∧ s.shows 240 30 (bytesOfWord s.counters.orphans) ∧ s.shows 240 32 (bytesOfWord s.counters.stubs)
      ∧ s.shows 240 34 (bytesOfWord s.counters.mismatches) ∧ s.shows 240 36 (bytesOfWord s.counters.discarded)
      ∧ s.shows 240 38 (bytesOfWord s.counters.unworked)
      ∧ s.shows 240 40 (byteN (bit s.temp.latest.isNone 0)) ∧ s.shows 240 41 (byteN s.temp.heldLogs)
      ∧ s.shows 240 42 (temperatureBytes s.temp.latest) ∧ s.shows 240 44 (temperatureBytes s.temp.lastValid)
      ∧ s.shows 240 46 (wordN (s.supply.latest.getD 0xFFFF)) ∧ s.shows 240 48 (byteN (bit s.supply.latest.isNone 0))
      ∧ s.shows 240 49 (byteN s.supply.level.code) ∧ s.shows 240 50 (byteN (bit s.supply.fast 0))
      ∧ (∀ r base, base = (if r = .r1 then 52 else 55) → s.shows 240 base (byteN (s.rotor r).drive.code)
        ∧ s.shows 240 (base + 1) (byteN (usabilityOf (s.activeCount r)).code)
        ∧ s.shows 240 (base + 2) (byteN (bit (s.rotor r).atSpeed 0)))
      ∧ s.shows 240 58 (byteN s.arbiter.slots) ∧ s.shows 240 59 (byteN s.arbiter.inFlight.length)
      ∧ (∀ k a x, k < 4 → s.arbiter.inFlight[k]? = some a → (s.arm a).flow.request? = some x →
        s.shows 240 (60 + 2 * k) (byteN (armCode a) ++ byteN (bit (x.kind == .charge) 0 + 2 * x.cls.rank)))
      ∧ s.shows 240 68 (byteN s.arbiter.wait.length)
      ∧ s.shows 240 69 (byteN (bit s.rotor1.protection.isSome 0 + bit s.rotor2.protection.isSome 1))
      ∧ (∀ k e x, k < 10 → s.arbiter.wait[k]? = some e → (s.arm e.arm).flow.request? = some x →
        s.shows 240 (70 + 2 * k)
          (byteN (armCode e.arm) ++ byteN (bit (x.kind == .charge) 0 + 2 * x.cls.rank + bit e.elevated 3)))
      ∧ s.shows 240 90 (byteN s.cfg.preload.code) ∧ s.shows 240 91 (byteN s.cfg.preloadDetail)
      ∧ s.shows 240 92 (byteN (bit s.geometryValid 0))
      ∧ s.shows 240 93 (byteN (match s.cfg.save with
        | none => 0xFF
        | some x => match x.page with
          | none => 0xFE
          | some p => p.index))
      ∧ s.shows 240 94 (byteN s.quality.lastDiscard.code) ∧ s.shows 240 95 (byteN (reportTag s.quality.latest))
      ∧ s.shows 240 96 (byteN (reportResidual s.quality.latest)) ∧ s.shows 240 97 (byteN (reportFlags s.quality.latest))
      ∧ s.shows 240 98 (byteN s.supply.level.code))
    ∧ (s.shows 241 0 (byteN s.queue.length)
      ∧ s.shows 241 1 (byteN (tagCode ((s.current? .r1).map Record.tag)))
      ∧ s.shows 241 2 (byteN (tagCode ((s.next? .r1).map Record.tag)))
      ∧ s.shows 241 3 (byteN (tagCode ((s.current? .r2).map Record.tag)))
      ∧ s.shows 241 4 (byteN (tagCode ((s.next? .r2).map Record.tag)))
      ∧ s.shows 241 5 (byteN (bit s.rotor1.park.isSome 0 + bit s.rotor2.park.isSome 1))
      ∧ s.shows 241 6 [0, 0] ∧ s.shows 241 248 (List.replicate 8 0)
      ∧ (∀ k, k < 6 → s.queue.length ≤ k → s.shows 241 (8 + 40 * k) (List.replicate 40 0))
      ∧ (∀ k, k < 6 → s.shows 241 (8 + 40 * k + 27) [0] ∧ s.shows 241 (8 + 40 * k + 35) [0, 0, 0, 0, 0])
      ∧ ∀ k q, k < 6 → s.queue[k]? = some q → s.shows 241 (8 + 40 * k) (byteN q.tag.val ++ byteN q.kind.code
          ++ byteN (q.frame.getD 0) ++ byteN (bit (q.outfeed == .awaitReport) 0) ++ bytesOfWord (q.hostTag.getD 0)
          ++ byteN (tempClassCode q.tempClass) ++ byteN q.relation.code
          ++ wordN (bit q.profileFault.isSome 0 + bit q.tempHeld 1 + bit q.tempUnknown 2 + bit q.lengthMismatch 3
            + bit q.stall 4 + bit q.rotorDown 5 + bit q.provisional 9 + bit q.tail.isSome 10) ++ bytesOfLong q.head
          ++ bytesOfLong (q.tail.getD 0) ++ wordN q.working)
        ∧ ∀ r, s.shows 241 (8 + 40 * k + if r = .r1 then 20 else 28) (byteN (q.phase r).code
          ++ byteN (bit (q.view r).jointHead 0 + bit (q.view r).jointTail 1) ++ wordN (q.view r).maxTarget
          ++ byteN (q.view r).reliefEntries ++ byteN (q.view r).lateLifts ++ byteN ((q.view r).minActive.getD 0xFF)))
    ∧ (s.shows 242 0 (byteN (s.activeCount .r1)) ∧ s.shows 242 1 (byteN (s.activeCount .r2))
      ∧ s.shows 242 2 (List.replicate 14 0)
      ∧ ∀ a c base, c = s.arm a → base = 16 + 24 * (armCode a - 1) →
        s.shows 242 base (byteN c.state.code) ∧ s.shows 242 (base + 1) (byteN (outCauseCode c.outCause))
          ∧ s.shows 242 (base + 2) (byteN (bit c.returnPending 0 + bit c.inserted 1 + bit c.present 2 + bit c.relief 3))
          ∧ s.shows 242 (base + 3) (byteN (tagCode c.tag)) ∧ s.shows 242 (base + 4) (wordN c.commanded)
          ∧ s.shows 242 (base + 6) (wordN c.target) ∧ s.shows 242 (base + 8) (wordN c.aperture)
          ∧ (c.flow = .idle → s.shows 242 (base + 10) [0, 0, 0, 0])
          ∧ (∀ x, c.flow = .waiting x → s.shows 242 (base + 10)
            (byteN 1 ++ byteN (bit (x.kind == .charge) 0 + 2 * x.cls.rank + bit x.wake 4) ++ wordN x.value))
          ∧ (∀ x g w, c.flow = .inFlight x g w → s.shows 242 (base + 10)
            (byteN 2 ++ byteN (bit (x.kind == .charge) 0 + 2 * x.cls.rank + bit x.wake 4) ++ wordN x.value))
          ∧ (∀ v w, c.flow = .deferred v w → s.shows 242 (base + 10) (byteN 3 ++ byteN (bit w 4) ++ wordN v))
          ∧ s.shows 242 (base + 14) (byteN (bit c.monitor.counting 0)) ∧ s.shows 242 (base + 15) (byteN c.monitor.counter)
          ∧ s.shows 242 (base + 16) (byteN c.charges) ∧ s.shows 242 (base + 17) (byteN c.vents)
          ∧ s.shows 242 (base + 18) (List.replicate 6 0))
    ∧ ∀ k x, k < 32 → x = s.row k →
      s.shows 243 (64 * k) (byteN (bit x.valid 0)) ∧ s.shows 243 (64 * k + 1) (byteN x.trimLimit)
        ∧ s.shows 243 (64 * k + 2) (wordN x.band0 ++ wordN x.band1 ++ wordN x.band2 ++ wordN x.band3 ++ wordN x.band4
          ++ wordN x.band5)
        ∧ s.shows 243 (64 * k + 14) (wordN x.entry) ∧ s.shows 243 (64 * k + 16) (wordN x.minimum)
        ∧ s.shows 243 (64 * k + 18) (wordN x.maximum) ∧ s.shows 243 (64 * k + 20) (wordN x.frozenAdd)
        ∧ s.shows 243 (64 * k + 22) (wordN x.buttLength) ∧ s.shows 243 (64 * k + 24) (wordN x.buttFactor)
        ∧ s.shows 243 (64 * k + 26) (wordN x.topLength) ∧ s.shows 243 (64 * k + 28) (wordN x.topFactor)
        ∧ s.shows 243 (64 * k + 30) (wordN x.rotor2Share) ∧ s.shows 243 (64 * k + 32) (wordN x.deadBand)
        ∧ s.shows 243 (64 * k + 34) (wordN x.trimStep) ∧ s.shows 243 (64 * k + 36) (byteI x.trimFrozen)
        ∧ s.shows 243 (64 * k + 37) (byteI x.trimThawed) ∧ s.shows 243 (64 * k + 38) (wordN x.residualTarget)
        ∧ s.shows 243 (64 * k + 40) (wordN x.burstWindow) ∧ s.shows 243 (64 * k + 42) (byteN x.threshold)
        ∧ s.shows 243 (64 * k + 43) (byteN x.maxDepth) ∧ s.shows 243 (64 * k + 44) (wordN x.decayInterval)
        ∧ s.shows 243 (64 * k + 46) (wordN x.reliefStep) ∧ s.shows 243 (64 * k + 48) (List.replicate 16 0)
end

