-- ==== Sys2Proof/Laws/Memory.lean ====
section
/-! SUPPORT. The laws of a memory: what a write changes, what it leaves, and that every operation keeps the canonical form. -/

namespace Sys2Proof.Machine

/-! ### One byte -/

@[simp] theorem Memory.read_nil (a : Nat) : Memory.read [] a = Config.unwrittenByte := rfl

theorem Memory.read_cons (b : Nat) (v : Byte) (m : Memory) (a : Nat) :
    Memory.read ((b, v) :: m) a = if b = a then v else m.read a := rfl

theorem Memory.mem_dropCell {m : Memory} {a : Nat} {c : Nat × BitVec 8} : c ∈ m.dropCell a ↔ c ∈ m ∧ c.1 ≠ a := by
  simp [Memory.dropCell]

theorem Memory.read_dropCell (m : Memory) (a b : Nat) :
    (m.dropCell a).read b = if a = b then Config.unwrittenByte else m.read b := by
  induction m with
  | nil => simp [Memory.dropCell]
  | cons c m ih =>
    obtain ⟨x, v⟩ := c
    unfold Memory.dropCell at ih ⊢
    by_cases hx : x = a
    · subst hx
      by_cases hb : x = b <;> simp_all [Memory.read_cons]
    · by_cases hb : x = b
      · subst hb; simp [hx, Ne.symm hx, Memory.read_cons]
      · simp [hx, hb, Memory.read_cons, ih]

theorem Memory.read_putCell (m : Memory) (a : Nat) (v : Byte) (b : Nat) (h : ∀ c ∈ m, c.1 ≠ a) :
    (m.putCell a v).read b = if a = b then v else m.read b := by
  induction m with
  | nil => simp [Memory.putCell, Memory.read_cons]
  | cons c m ih =>
    obtain ⟨x, w⟩ := c
    have hx : x ≠ a := h (x, w) (by simp)
    have ih := ih fun c hc => h c (List.mem_cons_of_mem _ hc)
    unfold Memory.putCell
    by_cases hlt : a < x
    · simp [hlt, Memory.read_cons]
    · by_cases hb : x = b
      · subst hb; simp [hlt, Memory.read_cons, Ne.symm hx]
      · simp [hlt, Memory.read_cons, hb, ih]

/-- What one write leaves in the memory, canonical or not. -/
theorem Memory.read_write (m : Memory) (a : Nat) (v : Byte) (b : Nat) :
    (m.write a v).read b = if a = b then v else m.read b := by
  unfold Memory.write
  by_cases hv : v = Config.unwrittenByte
  · simp [hv, Memory.read_dropCell]
  · rw [if_neg hv, Memory.read_putCell _ _ _ _ fun c hc => (Memory.mem_dropCell.1 hc).2, Memory.read_dropCell]
    by_cases hb : a = b <;> simp [hb]

@[simp] theorem Memory.read_write_self (m : Memory) (a : Nat) (v : Byte) : (m.write a v).read a = v := by
  simp [Memory.read_write]

theorem Memory.read_write_of_ne {m : Memory} {a b : Nat} {v : Byte} (h : a ≠ b) : (m.write a v).read b = m.read b := by
  simp [Memory.read_write, h]

/-! ### Runs of bytes -/

@[simp] theorem Memory.writeBytes_nil (m : Memory) (a : Nat) : m.writeBytes a [] = m := by
  cases m <;> rfl

@[simp] theorem Memory.writeBytes_cons (m : Memory) (a : Nat) (b : Byte) (bs : List Byte) :
    m.writeBytes a (b :: bs) = (m.write a b).writeBytes (a + 1) bs := by
  cases m <;> rfl

/-- A run of writes: the bytes written from their address on, every other byte as before. -/
theorem Memory.read_writeBytes (m : Memory) (a : Nat) (bs : List Byte) (b : Nat) :
    (m.writeBytes a bs).read b = if a ≤ b ∧ b < a + bs.length then bs.getD (b - a) 0 else m.read b := by
  induction bs generalizing m a with
  | nil => rw [Memory.writeBytes_nil, List.length_nil, if_neg (by omega)]
  | cons x bs ih =>
    rw [Memory.writeBytes_cons, ih]
    simp only [List.length_cons]
    by_cases h : a + 1 ≤ b ∧ b < a + 1 + bs.length
    · have h1 : b - a = b - (a + 1) + 1 := by omega
      rw [if_pos h, if_pos (by omega), h1, List.getD_cons_succ]
    · rw [if_neg h, Memory.read_write]
      by_cases hb : a = b
      · subst hb; simp
      · rw [if_neg hb, if_neg (by omega)]

/-- A run of writes leaves every byte outside it. -/
theorem Memory.read_writeBytes_of_outside {m : Memory} {a b : Nat} {bs : List Byte} (h : b < a ∨ a + bs.length ≤ b) :
    (m.writeBytes a bs).read b = m.read b := by
  rw [Memory.read_writeBytes, if_neg (by omega)]

@[simp] theorem Memory.readBytes_zero (m : Memory) (a : Nat) : m.readBytes a 0 = [] := rfl

theorem Memory.readBytes_succ (m : Memory) (a n : Nat) : m.readBytes a (n + 1) = m.read a :: m.readBytes (a + 1) n := rfl

@[simp] theorem Memory.length_readBytes (m : Memory) (a n : Nat) : (m.readBytes a n).length = n := by
  induction n generalizing a with
  | zero => rfl
  | succ n ih => simp [Memory.readBytes_succ, ih]

theorem Memory.getElem_readBytes (m : Memory) (a n k : Nat) (h : k < (m.readBytes a n).length) :
    (m.readBytes a n)[k] = m.read (a + k) := by
  induction n generalizing a k with
  | zero => simp at h
  | succ n ih =>
    cases k with
    | zero => simp [Memory.readBytes_succ]
    | succ k =>
      simp only [Memory.readBytes_succ, List.getElem_cons_succ]
      rw [ih]; congr 1; omega

/-- Two memories that agree on a run of addresses give the same bytes there. -/
theorem Memory.readBytes_congr {m m' : Memory} {a n : Nat} (h : ∀ k, k < n → m.read (a + k) = m'.read (a + k)) :
    m.readBytes a n = m'.readBytes a n := by
  apply List.ext_getElem (by simp)
  intro k hk _
  simp only [Memory.getElem_readBytes]
  exact h k (by simpa using hk)

/-- A run just written reads back. -/
theorem Memory.readBytes_writeBytes_self (m : Memory) (a : Nat) (bs : List Byte) :
    (m.writeBytes a bs).readBytes a bs.length = bs := by
  apply List.ext_getElem (by simp)
  intro k hk hk'
  rw [Memory.getElem_readBytes, Memory.read_writeBytes, if_pos ⟨by omega, by omega⟩]
  simp [List.getD, hk']

theorem Memory.readBytes_writeBytes_of_length (m : Memory) (a : Nat) {n : Nat} {bs : List Byte} (h : bs.length = n) :
    (m.writeBytes a bs).readBytes a n = bs := by
  subst h
  exact Memory.readBytes_writeBytes_self m a bs

/-- A run apart from the bytes written reads as before. -/
theorem Memory.readBytes_writeBytes_of_apart {m : Memory} {a b n : Nat} {bs : List Byte}
    (h : b + n ≤ a ∨ a + bs.length ≤ b) : (m.writeBytes a bs).readBytes b n = m.readBytes b n :=
  Memory.readBytes_congr fun k hk => Memory.read_writeBytes_of_outside (by omega)

/-! ### The canonical form -/

theorem Memory.wf_nil : Memory.wf [] := by simp [Memory.wf]

theorem Memory.wf_dropCell {m : Memory} (a : Nat) (h : m.wf) : (m.dropCell a).wf :=
  ⟨h.1.filter _, fun c hc => h.2 c (Memory.mem_dropCell.1 hc).1⟩

theorem Memory.mem_putCell {m : Memory} {a : Nat} {v : Byte} {c : Nat × BitVec 8} (h : c ∈ m.putCell a v) :
    c = (a, v) ∨ c ∈ m := by
  induction m with
  | nil => simpa [Memory.putCell] using h
  | cons d m ih =>
    obtain ⟨x, w⟩ := d
    unfold Memory.putCell at h
    split at h
    · simpa using h
    · rcases List.mem_cons.1 h with h | h
      · exact Or.inr (by simp [h])
      · exact (ih h).imp id (List.mem_cons_of_mem _)

theorem Memory.wf_putCell {m : Memory} {a : Nat} {v : Byte} (hv : v ≠ Config.unwrittenByte) (ha : ∀ c ∈ m, c.1 ≠ a)
    (h : m.wf) : (m.putCell a v).wf := by
  refine ⟨?_, fun c hc => ?_⟩
  · induction m with
    | nil => simp [Memory.putCell]
    | cons d m ih =>
      obtain ⟨x, w⟩ := d
      have hs := List.pairwise_cons.1 h.1
      have hx : x ≠ a := ha (x, w) (by simp)
      unfold Memory.putCell
      split
      · refine List.pairwise_cons.2 ⟨fun c hc => ?_, h.1⟩
        rcases List.mem_cons.1 hc with rfl | hc
        · assumption
        · exact Nat.lt_trans (by assumption) (hs.1 c hc)
      · refine List.pairwise_cons.2 ⟨fun c hc => ?_, ih (fun c hc => ha c (List.mem_cons_of_mem _ hc))
          ⟨hs.2, fun c hc => h.2 c (List.mem_cons_of_mem _ hc)⟩⟩
        rcases Memory.mem_putCell hc with rfl | hc
        · show x < a; omega
        · exact hs.1 c hc
  · rcases Memory.mem_putCell hc with rfl | hc
    · exact hv
    · exact h.2 c hc

theorem Memory.wf_write {m : Memory} (a : Nat) (v : Byte) (h : m.wf) : (m.write a v).wf := by
  unfold Memory.write
  split
  · exact Memory.wf_dropCell a h
  · exact Memory.wf_putCell (by assumption) (fun c hc => (Memory.mem_dropCell.1 hc).2) (Memory.wf_dropCell a h)

theorem Memory.wf_writeBytes {m : Memory} (a : Nat) (bs : List Byte) (h : m.wf) : (m.writeBytes a bs).wf := by
  induction bs generalizing m a with
  | nil => simpa using h
  | cons b bs ih => rw [Memory.writeBytes_cons]; exact ih (a + 1) (Memory.wf_write a b h)

/-- Both memories of the machine right after reset are canonical. -/
theorem State.reset_memories_wf : State.reset.ram.wf ∧ State.reset.eeprom.wf := ⟨Memory.wf_nil, Memory.wf_nil⟩

/-! ### Words -/

theorem wordOf_lowByte_highByte (w : Word) : wordOf (lowByte w) (highByte w) = w := by
  apply BitVec.eq_of_getLsbD_eq
  intro k hk
  simp only [wordOf, lowByte, highByte, BitVec.getLsbD_append, BitVec.getLsbD_setWidth, BitVec.getLsbD_ushiftRight]
  by_cases h : k < 8
  · simp [h]
  · have h1 : 8 + (k - 8) = k := by omega
    have h2 : k - 8 < 8 := by omega
    simp [h, h1, h2]

/-- A word just stored reads back. -/
theorem Memory.word_writeBytes (m : Memory) (a : Nat) (w : Word) : (m.writeBytes a (bytesOfWord w)).word a = w := by
  simp only [bytesOfWord, Memory.writeBytes_cons, Memory.writeBytes_nil, Memory.word, Memory.read_write]
  simp [wordOf_lowByte_highByte]

end Sys2Proof.Machine
end

