-- ==== Sys2Proof/Laws/State.lean ====
section
/-! SUPPORT. What each elementary update of the state leaves in each field. -/

namespace Sys2Proof.Machine

/-! ### reachTime -/

@[simp] theorem State.pending_reachTime (s : State) (w : Nat) : (s.reachTime w).pending = s.pending := rfl
@[simp] theorem State.free_reachTime (s : State) (w : Nat) : (s.reachTime w).free = s.free := rfl
@[simp] theorem State.now_reachTime (s : State) (w : Nat) : (s.reachTime w).now = max s.now w := rfl
@[simp] theorem State.pins_reachTime (s : State) (w : Nat) : (s.reachTime w).pins = s.pins := rfl
@[simp] theorem State.resetHeld_reachTime (s : State) (w : Nat) : (s.reachTime w).resetHeld = s.resetHeld := rfl
@[simp] theorem State.resetPower_reachTime (s : State) (w : Nat) : (s.reachTime w).resetPower = s.resetPower := rfl
@[simp] theorem State.resetCause_reachTime (s : State) (w : Nat) : (s.reachTime w).resetCause = s.resetCause := rfl
@[simp] theorem State.feed_reachTime (s : State) (w : Nat) : (s.reachTime w).feed = s.feed := rfl
@[simp] theorem State.geometry_reachTime (s : State) (w : Nat) : (s.reachTime w).geometry = s.geometry := rfl
@[simp] theorem State.geometryValid_reachTime (s : State) (w : Nat) : (s.reachTime w).geometryValid = s.geometryValid := rfl
@[simp] theorem State.species_reachTime (s : State) (w : Nat) : (s.reachTime w).species = s.species := rfl
@[simp] theorem State.manifest_reachTime (s : State) (w : Nat) : (s.reachTime w).manifest = s.manifest := rfl
@[simp] theorem State.counters_reachTime (s : State) (w : Nat) : (s.reachTime w).counters = s.counters := rfl
@[simp] theorem State.temp_reachTime (s : State) (w : Nat) : (s.reachTime w).temp = s.temp := rfl
@[simp] theorem State.queue_reachTime (s : State) (w : Nat) : (s.reachTime w).queue = s.queue := rfl
@[simp] theorem State.arms_reachTime (s : State) (w : Nat) : (s.reachTime w).arms = s.arms := rfl
@[simp] theorem State.arbiter_reachTime (s : State) (w : Nat) : (s.reachTime w).arbiter = s.arbiter := rfl
@[simp] theorem State.rotor1_reachTime (s : State) (w : Nat) : (s.reachTime w).rotor1 = s.rotor1 := rfl
@[simp] theorem State.rotor2_reachTime (s : State) (w : Nat) : (s.reachTime w).rotor2 = s.rotor2 := rfl
@[simp] theorem State.supply_reachTime (s : State) (w : Nat) : (s.reachTime w).supply = s.supply := rfl
@[simp] theorem State.holds_reachTime (s : State) (w : Nat) : (s.reachTime w).holds = s.holds := rfl
@[simp] theorem State.latch_reachTime (s : State) (w : Nat) : (s.reachTime w).latch = s.latch := rfl
@[simp] theorem State.quality_reachTime (s : State) (w : Nat) : (s.reachTime w).quality = s.quality := rfl
@[simp] theorem State.mode_reachTime (s : State) (w : Nat) : (s.reachTime w).mode = s.mode := rfl
@[simp] theorem State.modeRefused_reachTime (s : State) (w : Nat) : (s.reachTime w).modeRefused = s.modeRefused := rfl
@[simp] theorem State.cfg_reachTime (s : State) (w : Nat) : (s.reachTime w).cfg = s.cfg := rfl
@[simp] theorem State.cause_reachTime (s : State) (w : Nat) : (s.reachTime w).cause = s.cause := rfl
@[simp] theorem State.enable_reachTime (s : State) (w : Nat) : (s.reachTime w).enable = s.enable := rfl
@[simp] theorem State.ram_reachTime (s : State) (w : Nat) : (s.reachTime w).ram = s.ram := rfl
@[simp] theorem State.eeprom_reachTime (s : State) (w : Nat) : (s.reachTime w).eeprom = s.eeprom := rfl

/-! ### setArm -/

@[simp] theorem State.pending_setArm (s : State) (a : ArmId) (c : Arm) : (s.setArm a c).pending = s.pending := rfl
@[simp] theorem State.free_setArm (s : State) (a : ArmId) (c : Arm) : (s.setArm a c).free = s.free := rfl
@[simp] theorem State.now_setArm (s : State) (a : ArmId) (c : Arm) : (s.setArm a c).now = s.now := rfl
@[simp] theorem State.pins_setArm (s : State) (a : ArmId) (c : Arm) : (s.setArm a c).pins = s.pins := rfl
@[simp] theorem State.resetHeld_setArm (s : State) (a : ArmId) (c : Arm) : (s.setArm a c).resetHeld = s.resetHeld := rfl
@[simp] theorem State.resetPower_setArm (s : State) (a : ArmId) (c : Arm) : (s.setArm a c).resetPower = s.resetPower := rfl
@[simp] theorem State.resetCause_setArm (s : State) (a : ArmId) (c : Arm) : (s.setArm a c).resetCause = s.resetCause := rfl
@[simp] theorem State.feed_setArm (s : State) (a : ArmId) (c : Arm) : (s.setArm a c).feed = s.feed := rfl
@[simp] theorem State.geometry_setArm (s : State) (a : ArmId) (c : Arm) : (s.setArm a c).geometry = s.geometry := rfl
@[simp] theorem State.geometryValid_setArm (s : State) (a : ArmId) (c : Arm) :
    (s.setArm a c).geometryValid = s.geometryValid := rfl
@[simp] theorem State.species_setArm (s : State) (a : ArmId) (c : Arm) : (s.setArm a c).species = s.species := rfl
@[simp] theorem State.manifest_setArm (s : State) (a : ArmId) (c : Arm) : (s.setArm a c).manifest = s.manifest := rfl
@[simp] theorem State.counters_setArm (s : State) (a : ArmId) (c : Arm) : (s.setArm a c).counters = s.counters := rfl
@[simp] theorem State.temp_setArm (s : State) (a : ArmId) (c : Arm) : (s.setArm a c).temp = s.temp := rfl
@[simp] theorem State.queue_setArm (s : State) (a : ArmId) (c : Arm) : (s.setArm a c).queue = s.queue := rfl
@[simp] theorem State.arms_setArm (s : State) (a : ArmId) (c : Arm) : (s.setArm a c).arms = s.arms.set a c := rfl
@[simp] theorem State.arbiter_setArm (s : State) (a : ArmId) (c : Arm) : (s.setArm a c).arbiter = s.arbiter := rfl
@[simp] theorem State.rotor1_setArm (s : State) (a : ArmId) (c : Arm) : (s.setArm a c).rotor1 = s.rotor1 := rfl
@[simp] theorem State.rotor2_setArm (s : State) (a : ArmId) (c : Arm) : (s.setArm a c).rotor2 = s.rotor2 := rfl
@[simp] theorem State.supply_setArm (s : State) (a : ArmId) (c : Arm) : (s.setArm a c).supply = s.supply := rfl
@[simp] theorem State.holds_setArm (s : State) (a : ArmId) (c : Arm) : (s.setArm a c).holds = s.holds := rfl
@[simp] theorem State.latch_setArm (s : State) (a : ArmId) (c : Arm) : (s.setArm a c).latch = s.latch := rfl
@[simp] theorem State.quality_setArm (s : State) (a : ArmId) (c : Arm) : (s.setArm a c).quality = s.quality := rfl
@[simp] theorem State.mode_setArm (s : State) (a : ArmId) (c : Arm) : (s.setArm a c).mode = s.mode := rfl
@[simp] theorem State.modeRefused_setArm (s : State) (a : ArmId) (c : Arm) : (s.setArm a c).modeRefused = s.modeRefused := rfl
@[simp] theorem State.cfg_setArm (s : State) (a : ArmId) (c : Arm) : (s.setArm a c).cfg = s.cfg := rfl
@[simp] theorem State.cause_setArm (s : State) (a : ArmId) (c : Arm) : (s.setArm a c).cause = s.cause := rfl
@[simp] theorem State.enable_setArm (s : State) (a : ArmId) (c : Arm) : (s.setArm a c).enable = s.enable := rfl
@[simp] theorem State.ram_setArm (s : State) (a : ArmId) (c : Arm) : (s.setArm a c).ram = s.ram := rfl
@[simp] theorem State.eeprom_setArm (s : State) (a : ArmId) (c : Arm) : (s.setArm a c).eeprom = s.eeprom := rfl

/-! ### updArm -/

@[simp] theorem State.pending_updArm (s : State) (a : ArmId) (f : Arm → Arm) : (s.updArm a f).pending = s.pending := rfl
@[simp] theorem State.free_updArm (s : State) (a : ArmId) (f : Arm → Arm) : (s.updArm a f).free = s.free := rfl
@[simp] theorem State.now_updArm (s : State) (a : ArmId) (f : Arm → Arm) : (s.updArm a f).now = s.now := rfl
@[simp] theorem State.pins_updArm (s : State) (a : ArmId) (f : Arm → Arm) : (s.updArm a f).pins = s.pins := rfl
@[simp] theorem State.resetHeld_updArm (s : State) (a : ArmId) (f : Arm → Arm) : (s.updArm a f).resetHeld = s.resetHeld := rfl
@[simp] theorem State.resetPower_updArm (s : State) (a : ArmId) (f : Arm → Arm) : (s.updArm a f).resetPower = s.resetPower := rfl
@[simp] theorem State.resetCause_updArm (s : State) (a : ArmId) (f : Arm → Arm) : (s.updArm a f).resetCause = s.resetCause := rfl
@[simp] theorem State.feed_updArm (s : State) (a : ArmId) (f : Arm → Arm) : (s.updArm a f).feed = s.feed := rfl
@[simp] theorem State.geometry_updArm (s : State) (a : ArmId) (f : Arm → Arm) : (s.updArm a f).geometry = s.geometry := rfl
@[simp] theorem State.geometryValid_updArm (s : State) (a : ArmId) (f : Arm → Arm) :
    (s.updArm a f).geometryValid = s.geometryValid := rfl
@[simp] theorem State.species_updArm (s : State) (a : ArmId) (f : Arm → Arm) : (s.updArm a f).species = s.species := rfl
@[simp] theorem State.manifest_updArm (s : State) (a : ArmId) (f : Arm → Arm) : (s.updArm a f).manifest = s.manifest := rfl
@[simp] theorem State.counters_updArm (s : State) (a : ArmId) (f : Arm → Arm) : (s.updArm a f).counters = s.counters := rfl
@[simp] theorem State.temp_updArm (s : State) (a : ArmId) (f : Arm → Arm) : (s.updArm a f).temp = s.temp := rfl
@[simp] theorem State.queue_updArm (s : State) (a : ArmId) (f : Arm → Arm) : (s.updArm a f).queue = s.queue := rfl
@[simp] theorem State.arms_updArm (s : State) (a : ArmId) (f : Arm → Arm) :
    (s.updArm a f).arms = s.arms.set a (f (s.arm a)) := rfl
@[simp] theorem State.arbiter_updArm (s : State) (a : ArmId) (f : Arm → Arm) : (s.updArm a f).arbiter = s.arbiter := rfl
@[simp] theorem State.rotor1_updArm (s : State) (a : ArmId) (f : Arm → Arm) : (s.updArm a f).rotor1 = s.rotor1 := rfl
@[simp] theorem State.rotor2_updArm (s : State) (a : ArmId) (f : Arm → Arm) : (s.updArm a f).rotor2 = s.rotor2 := rfl
@[simp] theorem State.supply_updArm (s : State) (a : ArmId) (f : Arm → Arm) : (s.updArm a f).supply = s.supply := rfl
@[simp] theorem State.holds_updArm (s : State) (a : ArmId) (f : Arm → Arm) : (s.updArm a f).holds = s.holds := rfl
@[simp] theorem State.latch_updArm (s : State) (a : ArmId) (f : Arm → Arm) : (s.updArm a f).latch = s.latch := rfl
@[simp] theorem State.quality_updArm (s : State) (a : ArmId) (f : Arm → Arm) : (s.updArm a f).quality = s.quality := rfl
@[simp] theorem State.mode_updArm (s : State) (a : ArmId) (f : Arm → Arm) : (s.updArm a f).mode = s.mode := rfl
@[simp] theorem State.modeRefused_updArm (s : State) (a : ArmId) (f : Arm → Arm) :
    (s.updArm a f).modeRefused = s.modeRefused := rfl
@[simp] theorem State.cfg_updArm (s : State) (a : ArmId) (f : Arm → Arm) : (s.updArm a f).cfg = s.cfg := rfl
@[simp] theorem State.cause_updArm (s : State) (a : ArmId) (f : Arm → Arm) : (s.updArm a f).cause = s.cause := rfl
@[simp] theorem State.enable_updArm (s : State) (a : ArmId) (f : Arm → Arm) : (s.updArm a f).enable = s.enable := rfl
@[simp] theorem State.ram_updArm (s : State) (a : ArmId) (f : Arm → Arm) : (s.updArm a f).ram = s.ram := rfl
@[simp] theorem State.eeprom_updArm (s : State) (a : ArmId) (f : Arm → Arm) : (s.updArm a f).eeprom = s.eeprom := rfl

/-! ### setRotor -/

@[simp] theorem State.pending_setRotor (s : State) (r : RotorId) (x : Rotor) :
    (s.setRotor r x).pending = s.pending := by cases r <;> rfl
@[simp] theorem State.free_setRotor (s : State) (r : RotorId) (x : Rotor) : (s.setRotor r x).free = s.free := by cases r <;> rfl
@[simp] theorem State.now_setRotor (s : State) (r : RotorId) (x : Rotor) : (s.setRotor r x).now = s.now := by cases r <;> rfl
@[simp] theorem State.pins_setRotor (s : State) (r : RotorId) (x : Rotor) : (s.setRotor r x).pins = s.pins := by cases r <;> rfl
@[simp] theorem State.resetHeld_setRotor (s : State) (r : RotorId) (x : Rotor) :
    (s.setRotor r x).resetHeld = s.resetHeld := by cases r <;> rfl
@[simp] theorem State.resetPower_setRotor (s : State) (r : RotorId) (x : Rotor) :
    (s.setRotor r x).resetPower = s.resetPower := by cases r <;> rfl
@[simp] theorem State.resetCause_setRotor (s : State) (r : RotorId) (x : Rotor) :
    (s.setRotor r x).resetCause = s.resetCause := by cases r <;> rfl
@[simp] theorem State.feed_setRotor (s : State) (r : RotorId) (x : Rotor) : (s.setRotor r x).feed = s.feed := by cases r <;> rfl
@[simp] theorem State.geometry_setRotor (s : State) (r : RotorId) (x : Rotor) :
    (s.setRotor r x).geometry = s.geometry := by cases r <;> rfl
@[simp] theorem State.geometryValid_setRotor (s : State) (r : RotorId) (x : Rotor) :
    (s.setRotor r x).geometryValid = s.geometryValid := by cases r <;> rfl
@[simp] theorem State.species_setRotor (s : State) (r : RotorId) (x : Rotor) :
    (s.setRotor r x).species = s.species := by cases r <;> rfl
@[simp] theorem State.manifest_setRotor (s : State) (r : RotorId) (x : Rotor) :
    (s.setRotor r x).manifest = s.manifest := by cases r <;> rfl
@[simp] theorem State.counters_setRotor (s : State) (r : RotorId) (x : Rotor) :
    (s.setRotor r x).counters = s.counters := by cases r <;> rfl
@[simp] theorem State.temp_setRotor (s : State) (r : RotorId) (x : Rotor) : (s.setRotor r x).temp = s.temp := by cases r <;> rfl
@[simp] theorem State.queue_setRotor (s : State) (r : RotorId) (x : Rotor) :
    (s.setRotor r x).queue = s.queue := by cases r <;> rfl
@[simp] theorem State.arms_setRotor (s : State) (r : RotorId) (x : Rotor) : (s.setRotor r x).arms = s.arms := by cases r <;> rfl
@[simp] theorem State.arbiter_setRotor (s : State) (r : RotorId) (x : Rotor) :
    (s.setRotor r x).arbiter = s.arbiter := by cases r <;> rfl
@[simp] theorem State.supply_setRotor (s : State) (r : RotorId) (x : Rotor) :
    (s.setRotor r x).supply = s.supply := by cases r <;> rfl
@[simp] theorem State.holds_setRotor (s : State) (r : RotorId) (x : Rotor) :
    (s.setRotor r x).holds = s.holds := by cases r <;> rfl
@[simp] theorem State.latch_setRotor (s : State) (r : RotorId) (x : Rotor) :
    (s.setRotor r x).latch = s.latch := by cases r <;> rfl
@[simp] theorem State.quality_setRotor (s : State) (r : RotorId) (x : Rotor) :
    (s.setRotor r x).quality = s.quality := by cases r <;> rfl
@[simp] theorem State.mode_setRotor (s : State) (r : RotorId) (x : Rotor) : (s.setRotor r x).mode = s.mode := by cases r <;> rfl
@[simp] theorem State.modeRefused_setRotor (s : State) (r : RotorId) (x : Rotor) :
    (s.setRotor r x).modeRefused = s.modeRefused := by cases r <;> rfl
@[simp] theorem State.cfg_setRotor (s : State) (r : RotorId) (x : Rotor) : (s.setRotor r x).cfg = s.cfg := by cases r <;> rfl
@[simp] theorem State.cause_setRotor (s : State) (r : RotorId) (x : Rotor) :
    (s.setRotor r x).cause = s.cause := by cases r <;> rfl
@[simp] theorem State.enable_setRotor (s : State) (r : RotorId) (x : Rotor) :
    (s.setRotor r x).enable = s.enable := by cases r <;> rfl
@[simp] theorem State.ram_setRotor (s : State) (r : RotorId) (x : Rotor) : (s.setRotor r x).ram = s.ram := by cases r <;> rfl
@[simp] theorem State.eeprom_setRotor (s : State) (r : RotorId) (x : Rotor) :
    (s.setRotor r x).eeprom = s.eeprom := by cases r <;> rfl

/-! ### updRotor -/

@[simp] theorem State.pending_updRotor (s : State) (r : RotorId) (f : Rotor → Rotor) :
    (s.updRotor r f).pending = s.pending := by cases r <;> rfl
@[simp] theorem State.free_updRotor (s : State) (r : RotorId) (f : Rotor → Rotor) :
    (s.updRotor r f).free = s.free := by cases r <;> rfl
@[simp] theorem State.now_updRotor (s : State) (r : RotorId) (f : Rotor → Rotor) :
    (s.updRotor r f).now = s.now := by cases r <;> rfl
@[simp] theorem State.pins_updRotor (s : State) (r : RotorId) (f : Rotor → Rotor) :
    (s.updRotor r f).pins = s.pins := by cases r <;> rfl
@[simp] theorem State.resetHeld_updRotor (s : State) (r : RotorId) (f : Rotor → Rotor) :
    (s.updRotor r f).resetHeld = s.resetHeld := by cases r <;> rfl
@[simp] theorem State.resetPower_updRotor (s : State) (r : RotorId) (f : Rotor → Rotor) :
    (s.updRotor r f).resetPower = s.resetPower := by cases r <;> rfl
@[simp] theorem State.resetCause_updRotor (s : State) (r : RotorId) (f : Rotor → Rotor) :
    (s.updRotor r f).resetCause = s.resetCause := by cases r <;> rfl
@[simp] theorem State.feed_updRotor (s : State) (r : RotorId) (f : Rotor → Rotor) :
    (s.updRotor r f).feed = s.feed := by cases r <;> rfl
@[simp] theorem State.geometry_updRotor (s : State) (r : RotorId) (f : Rotor → Rotor) :
    (s.updRotor r f).geometry = s.geometry := by cases r <;> rfl
@[simp] theorem State.geometryValid_updRotor (s : State) (r : RotorId) (f : Rotor → Rotor) :
    (s.updRotor r f).geometryValid = s.geometryValid := by cases r <;> rfl
@[simp] theorem State.species_updRotor (s : State) (r : RotorId) (f : Rotor → Rotor) :
    (s.updRotor r f).species = s.species := by cases r <;> rfl
@[simp] theorem State.manifest_updRotor (s : State) (r : RotorId) (f : Rotor → Rotor) :
    (s.updRotor r f).manifest = s.manifest := by cases r <;> rfl
@[simp] theorem State.counters_updRotor (s : State) (r : RotorId) (f : Rotor → Rotor) :
    (s.updRotor r f).counters = s.counters := by cases r <;> rfl
@[simp] theorem State.temp_updRotor (s : State) (r : RotorId) (f : Rotor → Rotor) :
    (s.updRotor r f).temp = s.temp := by cases r <;> rfl
@[simp] theorem State.queue_updRotor (s : State) (r : RotorId) (f : Rotor → Rotor) :
    (s.updRotor r f).queue = s.queue := by cases r <;> rfl
@[simp] theorem State.arms_updRotor (s : State) (r : RotorId) (f : Rotor → Rotor) :
    (s.updRotor r f).arms = s.arms := by cases r <;> rfl
@[simp] theorem State.arbiter_updRotor (s : State) (r : RotorId) (f : Rotor → Rotor) :
    (s.updRotor r f).arbiter = s.arbiter := by cases r <;> rfl
@[simp] theorem State.supply_updRotor (s : State) (r : RotorId) (f : Rotor → Rotor) :
    (s.updRotor r f).supply = s.supply := by cases r <;> rfl
@[simp] theorem State.holds_updRotor (s : State) (r : RotorId) (f : Rotor → Rotor) :
    (s.updRotor r f).holds = s.holds := by cases r <;> rfl
@[simp] theorem State.latch_updRotor (s : State) (r : RotorId) (f : Rotor → Rotor) :
    (s.updRotor r f).latch = s.latch := by cases r <;> rfl
@[simp] theorem State.quality_updRotor (s : State) (r : RotorId) (f : Rotor → Rotor) :
    (s.updRotor r f).quality = s.quality := by cases r <;> rfl
@[simp] theorem State.mode_updRotor (s : State) (r : RotorId) (f : Rotor → Rotor) :
    (s.updRotor r f).mode = s.mode := by cases r <;> rfl
@[simp] theorem State.modeRefused_updRotor (s : State) (r : RotorId) (f : Rotor → Rotor) :
    (s.updRotor r f).modeRefused = s.modeRefused := by cases r <;> rfl
@[simp] theorem State.cfg_updRotor (s : State) (r : RotorId) (f : Rotor → Rotor) :
    (s.updRotor r f).cfg = s.cfg := by cases r <;> rfl
@[simp] theorem State.cause_updRotor (s : State) (r : RotorId) (f : Rotor → Rotor) :
    (s.updRotor r f).cause = s.cause := by cases r <;> rfl
@[simp] theorem State.enable_updRotor (s : State) (r : RotorId) (f : Rotor → Rotor) :
    (s.updRotor r f).enable = s.enable := by cases r <;> rfl
@[simp] theorem State.ram_updRotor (s : State) (r : RotorId) (f : Rotor → Rotor) :
    (s.updRotor r f).ram = s.ram := by cases r <;> rfl
@[simp] theorem State.eeprom_updRotor (s : State) (r : RotorId) (f : Rotor → Rotor) :
    (s.updRotor r f).eeprom = s.eeprom := by cases r <;> rfl

/-! ### raise -/

@[simp] theorem State.pending_raise (s : State) (c : Cause) : (s.raise c).pending = s.pending := rfl
@[simp] theorem State.free_raise (s : State) (c : Cause) : (s.raise c).free = s.free := rfl
@[simp] theorem State.now_raise (s : State) (c : Cause) : (s.raise c).now = s.now := rfl
@[simp] theorem State.pins_raise (s : State) (c : Cause) : (s.raise c).pins = s.pins := rfl
@[simp] theorem State.resetHeld_raise (s : State) (c : Cause) : (s.raise c).resetHeld = s.resetHeld := rfl
@[simp] theorem State.resetPower_raise (s : State) (c : Cause) : (s.raise c).resetPower = s.resetPower := rfl
@[simp] theorem State.resetCause_raise (s : State) (c : Cause) : (s.raise c).resetCause = s.resetCause := rfl
@[simp] theorem State.feed_raise (s : State) (c : Cause) : (s.raise c).feed = s.feed := rfl
@[simp] theorem State.geometry_raise (s : State) (c : Cause) : (s.raise c).geometry = s.geometry := rfl
@[simp] theorem State.geometryValid_raise (s : State) (c : Cause) : (s.raise c).geometryValid = s.geometryValid := rfl
@[simp] theorem State.species_raise (s : State) (c : Cause) : (s.raise c).species = s.species := rfl
@[simp] theorem State.manifest_raise (s : State) (c : Cause) : (s.raise c).manifest = s.manifest := rfl
@[simp] theorem State.counters_raise (s : State) (c : Cause) : (s.raise c).counters = s.counters := rfl
@[simp] theorem State.temp_raise (s : State) (c : Cause) : (s.raise c).temp = s.temp := rfl
@[simp] theorem State.queue_raise (s : State) (c : Cause) : (s.raise c).queue = s.queue := rfl
@[simp] theorem State.arms_raise (s : State) (c : Cause) : (s.raise c).arms = s.arms := rfl
@[simp] theorem State.arbiter_raise (s : State) (c : Cause) : (s.raise c).arbiter = s.arbiter := rfl
@[simp] theorem State.rotor1_raise (s : State) (c : Cause) : (s.raise c).rotor1 = s.rotor1 := rfl
@[simp] theorem State.rotor2_raise (s : State) (c : Cause) : (s.raise c).rotor2 = s.rotor2 := rfl
@[simp] theorem State.supply_raise (s : State) (c : Cause) : (s.raise c).supply = s.supply := rfl
@[simp] theorem State.holds_raise (s : State) (c : Cause) : (s.raise c).holds = s.holds := rfl
@[simp] theorem State.latch_raise (s : State) (c : Cause) : (s.raise c).latch = s.latch := rfl
@[simp] theorem State.quality_raise (s : State) (c : Cause) : (s.raise c).quality = s.quality := rfl
@[simp] theorem State.mode_raise (s : State) (c : Cause) : (s.raise c).mode = s.mode := rfl
@[simp] theorem State.modeRefused_raise (s : State) (c : Cause) : (s.raise c).modeRefused = s.modeRefused := rfl
@[simp] theorem State.cfg_raise (s : State) (c : Cause) : (s.raise c).cfg = s.cfg := rfl
@[simp] theorem State.cause_raise (s : State) (c : Cause) : (s.raise c).cause = s.cause ||| oneBit c.place := rfl
@[simp] theorem State.enable_raise (s : State) (c : Cause) : (s.raise c).enable = s.enable := rfl
@[simp] theorem State.ram_raise (s : State) (c : Cause) : (s.raise c).ram = s.ram := rfl
@[simp] theorem State.eeprom_raise (s : State) (c : Cause) : (s.raise c).eeprom = s.eeprom := rfl

/-! ### putHold -/

@[simp] theorem State.pending_putHold (s : State) (c : HoldCause) (b : Bool) : (s.putHold c b).pending = s.pending := rfl
@[simp] theorem State.free_putHold (s : State) (c : HoldCause) (b : Bool) : (s.putHold c b).free = s.free := rfl
@[simp] theorem State.now_putHold (s : State) (c : HoldCause) (b : Bool) : (s.putHold c b).now = s.now := rfl
@[simp] theorem State.pins_putHold (s : State) (c : HoldCause) (b : Bool) : (s.putHold c b).pins = s.pins := rfl
@[simp] theorem State.resetHeld_putHold (s : State) (c : HoldCause) (b : Bool) : (s.putHold c b).resetHeld = s.resetHeld := rfl
@[simp] theorem State.resetPower_putHold (s : State) (c : HoldCause) (b : Bool) : (s.putHold c b).resetPower = s.resetPower := rfl
@[simp] theorem State.resetCause_putHold (s : State) (c : HoldCause) (b : Bool) : (s.putHold c b).resetCause = s.resetCause := rfl
@[simp] theorem State.feed_putHold (s : State) (c : HoldCause) (b : Bool) : (s.putHold c b).feed = s.feed := rfl
@[simp] theorem State.geometry_putHold (s : State) (c : HoldCause) (b : Bool) : (s.putHold c b).geometry = s.geometry := rfl
@[simp] theorem State.geometryValid_putHold (s : State) (c : HoldCause) (b : Bool) :
    (s.putHold c b).geometryValid = s.geometryValid := rfl
@[simp] theorem State.species_putHold (s : State) (c : HoldCause) (b : Bool) : (s.putHold c b).species = s.species := rfl
@[simp] theorem State.manifest_putHold (s : State) (c : HoldCause) (b : Bool) : (s.putHold c b).manifest = s.manifest := rfl
@[simp] theorem State.counters_putHold (s : State) (c : HoldCause) (b : Bool) : (s.putHold c b).counters = s.counters := rfl
@[simp] theorem State.temp_putHold (s : State) (c : HoldCause) (b : Bool) : (s.putHold c b).temp = s.temp := rfl
@[simp] theorem State.queue_putHold (s : State) (c : HoldCause) (b : Bool) : (s.putHold c b).queue = s.queue := rfl
@[simp] theorem State.arms_putHold (s : State) (c : HoldCause) (b : Bool) : (s.putHold c b).arms = s.arms := rfl
@[simp] theorem State.arbiter_putHold (s : State) (c : HoldCause) (b : Bool) : (s.putHold c b).arbiter = s.arbiter := rfl
@[simp] theorem State.rotor1_putHold (s : State) (c : HoldCause) (b : Bool) : (s.putHold c b).rotor1 = s.rotor1 := rfl
@[simp] theorem State.rotor2_putHold (s : State) (c : HoldCause) (b : Bool) : (s.putHold c b).rotor2 = s.rotor2 := rfl
@[simp] theorem State.supply_putHold (s : State) (c : HoldCause) (b : Bool) : (s.putHold c b).supply = s.supply := rfl
@[simp] theorem State.holds_putHold (s : State) (c : HoldCause) (b : Bool) : (s.putHold c b).holds = s.holds.put c b := rfl
@[simp] theorem State.latch_putHold (s : State) (c : HoldCause) (b : Bool) : (s.putHold c b).latch = s.latch := rfl
@[simp] theorem State.quality_putHold (s : State) (c : HoldCause) (b : Bool) : (s.putHold c b).quality = s.quality := rfl
@[simp] theorem State.mode_putHold (s : State) (c : HoldCause) (b : Bool) : (s.putHold c b).mode = s.mode := rfl
@[simp] theorem State.modeRefused_putHold (s : State) (c : HoldCause) (b : Bool) :
    (s.putHold c b).modeRefused = s.modeRefused := rfl
@[simp] theorem State.cfg_putHold (s : State) (c : HoldCause) (b : Bool) : (s.putHold c b).cfg = s.cfg := rfl
@[simp] theorem State.cause_putHold (s : State) (c : HoldCause) (b : Bool) : (s.putHold c b).cause = s.cause := rfl
@[simp] theorem State.enable_putHold (s : State) (c : HoldCause) (b : Bool) : (s.putHold c b).enable = s.enable := rfl
@[simp] theorem State.ram_putHold (s : State) (c : HoldCause) (b : Bool) : (s.putHold c b).ram = s.ram := rfl
@[simp] theorem State.eeprom_putHold (s : State) (c : HoldCause) (b : Bool) : (s.putHold c b).eeprom = s.eeprom := rfl

/-! ### mapQueue -/

@[simp] theorem State.pending_mapQueue (s : State) (f : Record → Record) : (s.mapQueue f).pending = s.pending := rfl
@[simp] theorem State.free_mapQueue (s : State) (f : Record → Record) : (s.mapQueue f).free = s.free := rfl
@[simp] theorem State.now_mapQueue (s : State) (f : Record → Record) : (s.mapQueue f).now = s.now := rfl
@[simp] theorem State.pins_mapQueue (s : State) (f : Record → Record) : (s.mapQueue f).pins = s.pins := rfl
@[simp] theorem State.resetHeld_mapQueue (s : State) (f : Record → Record) : (s.mapQueue f).resetHeld = s.resetHeld := rfl
@[simp] theorem State.resetPower_mapQueue (s : State) (f : Record → Record) : (s.mapQueue f).resetPower = s.resetPower := rfl
@[simp] theorem State.resetCause_mapQueue (s : State) (f : Record → Record) : (s.mapQueue f).resetCause = s.resetCause := rfl
@[simp] theorem State.feed_mapQueue (s : State) (f : Record → Record) : (s.mapQueue f).feed = s.feed := rfl
@[simp] theorem State.geometry_mapQueue (s : State) (f : Record → Record) : (s.mapQueue f).geometry = s.geometry := rfl
@[simp] theorem State.geometryValid_mapQueue (s : State) (f : Record → Record) :
    (s.mapQueue f).geometryValid = s.geometryValid := rfl
@[simp] theorem State.species_mapQueue (s : State) (f : Record → Record) : (s.mapQueue f).species = s.species := rfl
@[simp] theorem State.manifest_mapQueue (s : State) (f : Record → Record) : (s.mapQueue f).manifest = s.manifest := rfl
@[simp] theorem State.counters_mapQueue (s : State) (f : Record → Record) : (s.mapQueue f).counters = s.counters := rfl
@[simp] theorem State.temp_mapQueue (s : State) (f : Record → Record) : (s.mapQueue f).temp = s.temp := rfl
@[simp] theorem State.queue_mapQueue (s : State) (f : Record → Record) : (s.mapQueue f).queue = s.queue.map f := rfl
@[simp] theorem State.arms_mapQueue (s : State) (f : Record → Record) : (s.mapQueue f).arms = s.arms := rfl
@[simp] theorem State.arbiter_mapQueue (s : State) (f : Record → Record) : (s.mapQueue f).arbiter = s.arbiter := rfl
@[simp] theorem State.rotor1_mapQueue (s : State) (f : Record → Record) : (s.mapQueue f).rotor1 = s.rotor1 := rfl
@[simp] theorem State.rotor2_mapQueue (s : State) (f : Record → Record) : (s.mapQueue f).rotor2 = s.rotor2 := rfl
@[simp] theorem State.supply_mapQueue (s : State) (f : Record → Record) : (s.mapQueue f).supply = s.supply := rfl
@[simp] theorem State.holds_mapQueue (s : State) (f : Record → Record) : (s.mapQueue f).holds = s.holds := rfl
@[simp] theorem State.latch_mapQueue (s : State) (f : Record → Record) : (s.mapQueue f).latch = s.latch := rfl
@[simp] theorem State.quality_mapQueue (s : State) (f : Record → Record) : (s.mapQueue f).quality = s.quality := rfl
@[simp] theorem State.mode_mapQueue (s : State) (f : Record → Record) : (s.mapQueue f).mode = s.mode := rfl
@[simp] theorem State.modeRefused_mapQueue (s : State) (f : Record → Record) : (s.mapQueue f).modeRefused = s.modeRefused := rfl
@[simp] theorem State.cfg_mapQueue (s : State) (f : Record → Record) : (s.mapQueue f).cfg = s.cfg := rfl
@[simp] theorem State.cause_mapQueue (s : State) (f : Record → Record) : (s.mapQueue f).cause = s.cause := rfl
@[simp] theorem State.enable_mapQueue (s : State) (f : Record → Record) : (s.mapQueue f).enable = s.enable := rfl
@[simp] theorem State.ram_mapQueue (s : State) (f : Record → Record) : (s.mapQueue f).ram = s.ram := rfl
@[simp] theorem State.eeprom_mapQueue (s : State) (f : Record → Record) : (s.mapQueue f).eeprom = s.eeprom := rfl

/-! ### updRecord -/

@[simp] theorem State.pending_updRecord (s : State) (t : Tag) (f : Record → Record) : (s.updRecord t f).pending = s.pending := rfl
@[simp] theorem State.free_updRecord (s : State) (t : Tag) (f : Record → Record) : (s.updRecord t f).free = s.free := rfl
@[simp] theorem State.now_updRecord (s : State) (t : Tag) (f : Record → Record) : (s.updRecord t f).now = s.now := rfl
@[simp] theorem State.pins_updRecord (s : State) (t : Tag) (f : Record → Record) : (s.updRecord t f).pins = s.pins := rfl
@[simp] theorem State.resetHeld_updRecord (s : State) (t : Tag) (f : Record → Record) :
    (s.updRecord t f).resetHeld = s.resetHeld := rfl
@[simp] theorem State.resetPower_updRecord (s : State) (t : Tag) (f : Record → Record) :
    (s.updRecord t f).resetPower = s.resetPower := rfl
@[simp] theorem State.resetCause_updRecord (s : State) (t : Tag) (f : Record → Record) :
    (s.updRecord t f).resetCause = s.resetCause := rfl
@[simp] theorem State.feed_updRecord (s : State) (t : Tag) (f : Record → Record) : (s.updRecord t f).feed = s.feed := rfl
@[simp] theorem State.geometry_updRecord (s : State) (t : Tag) (f : Record → Record) :
    (s.updRecord t f).geometry = s.geometry := rfl
@[simp] theorem State.geometryValid_updRecord (s : State) (t : Tag) (f : Record → Record) :
    (s.updRecord t f).geometryValid = s.geometryValid := rfl
@[simp] theorem State.species_updRecord (s : State) (t : Tag) (f : Record → Record) : (s.updRecord t f).species = s.species := rfl
@[simp] theorem State.manifest_updRecord (s : State) (t : Tag) (f : Record → Record) :
    (s.updRecord t f).manifest = s.manifest := rfl
@[simp] theorem State.counters_updRecord (s : State) (t : Tag) (f : Record → Record) :
    (s.updRecord t f).counters = s.counters := rfl
@[simp] theorem State.temp_updRecord (s : State) (t : Tag) (f : Record → Record) : (s.updRecord t f).temp = s.temp := rfl
@[simp] theorem State.queue_updRecord (s : State) (t : Tag) (f : Record → Record) :
    (s.updRecord t f).queue = s.queue.map fun q => if q.tag == t then f q else q := rfl
@[simp] theorem State.arms_updRecord (s : State) (t : Tag) (f : Record → Record) : (s.updRecord t f).arms = s.arms := rfl
@[simp] theorem State.arbiter_updRecord (s : State) (t : Tag) (f : Record → Record) : (s.updRecord t f).arbiter = s.arbiter := rfl
@[simp] theorem State.rotor1_updRecord (s : State) (t : Tag) (f : Record → Record) : (s.updRecord t f).rotor1 = s.rotor1 := rfl
@[simp] theorem State.rotor2_updRecord (s : State) (t : Tag) (f : Record → Record) : (s.updRecord t f).rotor2 = s.rotor2 := rfl
@[simp] theorem State.supply_updRecord (s : State) (t : Tag) (f : Record → Record) : (s.updRecord t f).supply = s.supply := rfl
@[simp] theorem State.holds_updRecord (s : State) (t : Tag) (f : Record → Record) : (s.updRecord t f).holds = s.holds := rfl
@[simp] theorem State.latch_updRecord (s : State) (t : Tag) (f : Record → Record) : (s.updRecord t f).latch = s.latch := rfl
@[simp] theorem State.quality_updRecord (s : State) (t : Tag) (f : Record → Record) : (s.updRecord t f).quality = s.quality := rfl
@[simp] theorem State.mode_updRecord (s : State) (t : Tag) (f : Record → Record) : (s.updRecord t f).mode = s.mode := rfl
@[simp] theorem State.modeRefused_updRecord (s : State) (t : Tag) (f : Record → Record) :
    (s.updRecord t f).modeRefused = s.modeRefused := rfl
@[simp] theorem State.cfg_updRecord (s : State) (t : Tag) (f : Record → Record) : (s.updRecord t f).cfg = s.cfg := rfl
@[simp] theorem State.cause_updRecord (s : State) (t : Tag) (f : Record → Record) : (s.updRecord t f).cause = s.cause := rfl
@[simp] theorem State.enable_updRecord (s : State) (t : Tag) (f : Record → Record) : (s.updRecord t f).enable = s.enable := rfl
@[simp] theorem State.ram_updRecord (s : State) (t : Tag) (f : Record → Record) : (s.updRecord t f).ram = s.ram := rfl
@[simp] theorem State.eeprom_updRecord (s : State) (t : Tag) (f : Record → Record) : (s.updRecord t f).eeprom = s.eeprom := rfl

/-! ### updView -/

@[simp] theorem State.pending_updView (s : State) (r : RotorId) (t : Tag) (f : RotorView → RotorView) :
    (s.updView r t f).pending = s.pending := rfl
@[simp] theorem State.free_updView (s : State) (r : RotorId) (t : Tag) (f : RotorView → RotorView) :
    (s.updView r t f).free = s.free := rfl
@[simp] theorem State.now_updView (s : State) (r : RotorId) (t : Tag) (f : RotorView → RotorView) :
    (s.updView r t f).now = s.now := rfl
@[simp] theorem State.pins_updView (s : State) (r : RotorId) (t : Tag) (f : RotorView → RotorView) :
    (s.updView r t f).pins = s.pins := rfl
@[simp] theorem State.resetHeld_updView (s : State) (r : RotorId) (t : Tag) (f : RotorView → RotorView) :
    (s.updView r t f).resetHeld = s.resetHeld := rfl
@[simp] theorem State.resetPower_updView (s : State) (r : RotorId) (t : Tag) (f : RotorView → RotorView) :
    (s.updView r t f).resetPower = s.resetPower := rfl
@[simp] theorem State.resetCause_updView (s : State) (r : RotorId) (t : Tag) (f : RotorView → RotorView) :
    (s.updView r t f).resetCause = s.resetCause := rfl
@[simp] theorem State.feed_updView (s : State) (r : RotorId) (t : Tag) (f : RotorView → RotorView) :
    (s.updView r t f).feed = s.feed := rfl
@[simp] theorem State.geometry_updView (s : State) (r : RotorId) (t : Tag) (f : RotorView → RotorView) :
    (s.updView r t f).geometry = s.geometry := rfl
@[simp] theorem State.geometryValid_updView (s : State) (r : RotorId) (t : Tag) (f : RotorView → RotorView) :
    (s.updView r t f).geometryValid = s.geometryValid := rfl
@[simp] theorem State.species_updView (s : State) (r : RotorId) (t : Tag) (f : RotorView → RotorView) :
    (s.updView r t f).species = s.species := rfl
@[simp] theorem State.manifest_updView (s : State) (r : RotorId) (t : Tag) (f : RotorView → RotorView) :
    (s.updView r t f).manifest = s.manifest := rfl
@[simp] theorem State.counters_updView (s : State) (r : RotorId) (t : Tag) (f : RotorView → RotorView) :
    (s.updView r t f).counters = s.counters := rfl
@[simp] theorem State.temp_updView (s : State) (r : RotorId) (t : Tag) (f : RotorView → RotorView) :
    (s.updView r t f).temp = s.temp := rfl
@[simp] theorem State.queue_updView (s : State) (r : RotorId) (t : Tag) (f : RotorView → RotorView) :
    (s.updView r t f).queue = s.queue.map fun q => if q.tag == t then q.updView r f else q := rfl
@[simp] theorem State.arms_updView (s : State) (r : RotorId) (t : Tag) (f : RotorView → RotorView) :
    (s.updView r t f).arms = s.arms := rfl
@[simp] theorem State.arbiter_updView (s : State) (r : RotorId) (t : Tag) (f : RotorView → RotorView) :
    (s.updView r t f).arbiter = s.arbiter := rfl
@[simp] theorem State.rotor1_updView (s : State) (r : RotorId) (t : Tag) (f : RotorView → RotorView) :
    (s.updView r t f).rotor1 = s.rotor1 := rfl
@[simp] theorem State.rotor2_updView (s : State) (r : RotorId) (t : Tag) (f : RotorView → RotorView) :
    (s.updView r t f).rotor2 = s.rotor2 := rfl
@[simp] theorem State.supply_updView (s : State) (r : RotorId) (t : Tag) (f : RotorView → RotorView) :
    (s.updView r t f).supply = s.supply := rfl
@[simp] theorem State.holds_updView (s : State) (r : RotorId) (t : Tag) (f : RotorView → RotorView) :
    (s.updView r t f).holds = s.holds := rfl
@[simp] theorem State.latch_updView (s : State) (r : RotorId) (t : Tag) (f : RotorView → RotorView) :
    (s.updView r t f).latch = s.latch := rfl
@[simp] theorem State.quality_updView (s : State) (r : RotorId) (t : Tag) (f : RotorView → RotorView) :
    (s.updView r t f).quality = s.quality := rfl
@[simp] theorem State.mode_updView (s : State) (r : RotorId) (t : Tag) (f : RotorView → RotorView) :
    (s.updView r t f).mode = s.mode := rfl
@[simp] theorem State.modeRefused_updView (s : State) (r : RotorId) (t : Tag) (f : RotorView → RotorView) :
    (s.updView r t f).modeRefused = s.modeRefused := rfl
@[simp] theorem State.cfg_updView (s : State) (r : RotorId) (t : Tag) (f : RotorView → RotorView) :
    (s.updView r t f).cfg = s.cfg := rfl
@[simp] theorem State.cause_updView (s : State) (r : RotorId) (t : Tag) (f : RotorView → RotorView) :
    (s.updView r t f).cause = s.cause := rfl
@[simp] theorem State.enable_updView (s : State) (r : RotorId) (t : Tag) (f : RotorView → RotorView) :
    (s.updView r t f).enable = s.enable := rfl
@[simp] theorem State.ram_updView (s : State) (r : RotorId) (t : Tag) (f : RotorView → RotorView) :
    (s.updView r t f).ram = s.ram := rfl
@[simp] theorem State.eeprom_updView (s : State) (r : RotorId) (t : Tag) (f : RotorView → RotorView) :
    (s.updView r t f).eeprom = s.eeprom := rfl

/-! ### setMark -/

@[simp] theorem State.pending_setMark (s : State) (c : Client) (t : Tag) (m : Option Mark) :
    (s.setMark c t m).pending = s.pending := rfl
@[simp] theorem State.free_setMark (s : State) (c : Client) (t : Tag) (m : Option Mark) : (s.setMark c t m).free = s.free := rfl
@[simp] theorem State.now_setMark (s : State) (c : Client) (t : Tag) (m : Option Mark) : (s.setMark c t m).now = s.now := rfl
@[simp] theorem State.pins_setMark (s : State) (c : Client) (t : Tag) (m : Option Mark) : (s.setMark c t m).pins = s.pins := rfl
@[simp] theorem State.resetHeld_setMark (s : State) (c : Client) (t : Tag) (m : Option Mark) :
    (s.setMark c t m).resetHeld = s.resetHeld := rfl
@[simp] theorem State.resetPower_setMark (s : State) (c : Client) (t : Tag) (m : Option Mark) :
    (s.setMark c t m).resetPower = s.resetPower := rfl
@[simp] theorem State.resetCause_setMark (s : State) (c : Client) (t : Tag) (m : Option Mark) :
    (s.setMark c t m).resetCause = s.resetCause := rfl
@[simp] theorem State.feed_setMark (s : State) (c : Client) (t : Tag) (m : Option Mark) :
    (s.setMark c t m).feed = { s.feed with marks := s.feed.marks.set c t m } := rfl
@[simp] theorem State.geometry_setMark (s : State) (c : Client) (t : Tag) (m : Option Mark) :
    (s.setMark c t m).geometry = s.geometry := rfl
@[simp] theorem State.geometryValid_setMark (s : State) (c : Client) (t : Tag) (m : Option Mark) :
    (s.setMark c t m).geometryValid = s.geometryValid := rfl
@[simp] theorem State.species_setMark (s : State) (c : Client) (t : Tag) (m : Option Mark) :
    (s.setMark c t m).species = s.species := rfl
@[simp] theorem State.manifest_setMark (s : State) (c : Client) (t : Tag) (m : Option Mark) :
    (s.setMark c t m).manifest = s.manifest := rfl
@[simp] theorem State.counters_setMark (s : State) (c : Client) (t : Tag) (m : Option Mark) :
    (s.setMark c t m).counters = s.counters := rfl
@[simp] theorem State.temp_setMark (s : State) (c : Client) (t : Tag) (m : Option Mark) : (s.setMark c t m).temp = s.temp := rfl
@[simp] theorem State.queue_setMark (s : State) (c : Client) (t : Tag) (m : Option Mark) :
    (s.setMark c t m).queue = s.queue := rfl
@[simp] theorem State.arms_setMark (s : State) (c : Client) (t : Tag) (m : Option Mark) : (s.setMark c t m).arms = s.arms := rfl
@[simp] theorem State.arbiter_setMark (s : State) (c : Client) (t : Tag) (m : Option Mark) :
    (s.setMark c t m).arbiter = s.arbiter := rfl
@[simp] theorem State.rotor1_setMark (s : State) (c : Client) (t : Tag) (m : Option Mark) :
    (s.setMark c t m).rotor1 = s.rotor1 := rfl
@[simp] theorem State.rotor2_setMark (s : State) (c : Client) (t : Tag) (m : Option Mark) :
    (s.setMark c t m).rotor2 = s.rotor2 := rfl
@[simp] theorem State.supply_setMark (s : State) (c : Client) (t : Tag) (m : Option Mark) :
    (s.setMark c t m).supply = s.supply := rfl
@[simp] theorem State.holds_setMark (s : State) (c : Client) (t : Tag) (m : Option Mark) :
    (s.setMark c t m).holds = s.holds := rfl
@[simp] theorem State.latch_setMark (s : State) (c : Client) (t : Tag) (m : Option Mark) :
    (s.setMark c t m).latch = s.latch := rfl
@[simp] theorem State.quality_setMark (s : State) (c : Client) (t : Tag) (m : Option Mark) :
    (s.setMark c t m).quality = s.quality := rfl
@[simp] theorem State.mode_setMark (s : State) (c : Client) (t : Tag) (m : Option Mark) : (s.setMark c t m).mode = s.mode := rfl
@[simp] theorem State.modeRefused_setMark (s : State) (c : Client) (t : Tag) (m : Option Mark) :
    (s.setMark c t m).modeRefused = s.modeRefused := rfl
@[simp] theorem State.cfg_setMark (s : State) (c : Client) (t : Tag) (m : Option Mark) : (s.setMark c t m).cfg = s.cfg := rfl
@[simp] theorem State.cause_setMark (s : State) (c : Client) (t : Tag) (m : Option Mark) :
    (s.setMark c t m).cause = s.cause := rfl
@[simp] theorem State.enable_setMark (s : State) (c : Client) (t : Tag) (m : Option Mark) :
    (s.setMark c t m).enable = s.enable := rfl
@[simp] theorem State.ram_setMark (s : State) (c : Client) (t : Tag) (m : Option Mark) : (s.setMark c t m).ram = s.ram := rfl
@[simp] theorem State.eeprom_setMark (s : State) (c : Client) (t : Tag) (m : Option Mark) :
    (s.setMark c t m).eeprom = s.eeprom := rfl

/-! ### setRow -/

@[simp] theorem State.pending_setRow (s : State) (k : Nat) (x : SpeciesRow) :
    (s.setRow k x).pending = s.pending := by unfold State.setRow; split <;> rfl
@[simp] theorem State.free_setRow (s : State) (k : Nat) (x : SpeciesRow) :
    (s.setRow k x).free = s.free := by unfold State.setRow; split <;> rfl
@[simp] theorem State.now_setRow (s : State) (k : Nat) (x : SpeciesRow) :
    (s.setRow k x).now = s.now := by unfold State.setRow; split <;> rfl
@[simp] theorem State.pins_setRow (s : State) (k : Nat) (x : SpeciesRow) :
    (s.setRow k x).pins = s.pins := by unfold State.setRow; split <;> rfl
@[simp] theorem State.resetHeld_setRow (s : State) (k : Nat) (x : SpeciesRow) :
    (s.setRow k x).resetHeld = s.resetHeld := by unfold State.setRow; split <;> rfl
@[simp] theorem State.resetPower_setRow (s : State) (k : Nat) (x : SpeciesRow) :
    (s.setRow k x).resetPower = s.resetPower := by unfold State.setRow; split <;> rfl
@[simp] theorem State.resetCause_setRow (s : State) (k : Nat) (x : SpeciesRow) :
    (s.setRow k x).resetCause = s.resetCause := by unfold State.setRow; split <;> rfl
@[simp] theorem State.feed_setRow (s : State) (k : Nat) (x : SpeciesRow) :
    (s.setRow k x).feed = s.feed := by unfold State.setRow; split <;> rfl
@[simp] theorem State.geometry_setRow (s : State) (k : Nat) (x : SpeciesRow) :
    (s.setRow k x).geometry = s.geometry := by unfold State.setRow; split <;> rfl
@[simp] theorem State.geometryValid_setRow (s : State) (k : Nat) (x : SpeciesRow) :
    (s.setRow k x).geometryValid = s.geometryValid := by unfold State.setRow; split <;> rfl
@[simp] theorem State.manifest_setRow (s : State) (k : Nat) (x : SpeciesRow) :
    (s.setRow k x).manifest = s.manifest := by unfold State.setRow; split <;> rfl
@[simp] theorem State.counters_setRow (s : State) (k : Nat) (x : SpeciesRow) :
    (s.setRow k x).counters = s.counters := by unfold State.setRow; split <;> rfl
@[simp] theorem State.temp_setRow (s : State) (k : Nat) (x : SpeciesRow) :
    (s.setRow k x).temp = s.temp := by unfold State.setRow; split <;> rfl
@[simp] theorem State.queue_setRow (s : State) (k : Nat) (x : SpeciesRow) :
    (s.setRow k x).queue = s.queue := by unfold State.setRow; split <;> rfl
@[simp] theorem State.arms_setRow (s : State) (k : Nat) (x : SpeciesRow) :
    (s.setRow k x).arms = s.arms := by unfold State.setRow; split <;> rfl
@[simp] theorem State.arbiter_setRow (s : State) (k : Nat) (x : SpeciesRow) :
    (s.setRow k x).arbiter = s.arbiter := by unfold State.setRow; split <;> rfl
@[simp] theorem State.rotor1_setRow (s : State) (k : Nat) (x : SpeciesRow) :
    (s.setRow k x).rotor1 = s.rotor1 := by unfold State.setRow; split <;> rfl
@[simp] theorem State.rotor2_setRow (s : State) (k : Nat) (x : SpeciesRow) :
    (s.setRow k x).rotor2 = s.rotor2 := by unfold State.setRow; split <;> rfl
@[simp] theorem State.supply_setRow (s : State) (k : Nat) (x : SpeciesRow) :
    (s.setRow k x).supply = s.supply := by unfold State.setRow; split <;> rfl
@[simp] theorem State.holds_setRow (s : State) (k : Nat) (x : SpeciesRow) :
    (s.setRow k x).holds = s.holds := by unfold State.setRow; split <;> rfl
@[simp] theorem State.latch_setRow (s : State) (k : Nat) (x : SpeciesRow) :
    (s.setRow k x).latch = s.latch := by unfold State.setRow; split <;> rfl
@[simp] theorem State.quality_setRow (s : State) (k : Nat) (x : SpeciesRow) :
    (s.setRow k x).quality = s.quality := by unfold State.setRow; split <;> rfl
@[simp] theorem State.mode_setRow (s : State) (k : Nat) (x : SpeciesRow) :
    (s.setRow k x).mode = s.mode := by unfold State.setRow; split <;> rfl
@[simp] theorem State.modeRefused_setRow (s : State) (k : Nat) (x : SpeciesRow) :
    (s.setRow k x).modeRefused = s.modeRefused := by unfold State.setRow; split <;> rfl
@[simp] theorem State.cfg_setRow (s : State) (k : Nat) (x : SpeciesRow) :
    (s.setRow k x).cfg = s.cfg := by unfold State.setRow; split <;> rfl
@[simp] theorem State.cause_setRow (s : State) (k : Nat) (x : SpeciesRow) :
    (s.setRow k x).cause = s.cause := by unfold State.setRow; split <;> rfl
@[simp] theorem State.enable_setRow (s : State) (k : Nat) (x : SpeciesRow) :
    (s.setRow k x).enable = s.enable := by unfold State.setRow; split <;> rfl
@[simp] theorem State.ram_setRow (s : State) (k : Nat) (x : SpeciesRow) :
    (s.setRow k x).ram = s.ram := by unfold State.setRow; split <;> rfl
@[simp] theorem State.eeprom_setRow (s : State) (k : Nat) (x : SpeciesRow) :
    (s.setRow k x).eeprom = s.eeprom := by unfold State.setRow; split <;> rfl

/-! ### writeFrame -/

@[simp] theorem State.pending_writeFrame (s : State) (f k : Nat) (bs : List Byte) :
    (s.writeFrame f k bs).pending = s.pending := rfl
@[simp] theorem State.free_writeFrame (s : State) (f k : Nat) (bs : List Byte) : (s.writeFrame f k bs).free = s.free := rfl
@[simp] theorem State.now_writeFrame (s : State) (f k : Nat) (bs : List Byte) : (s.writeFrame f k bs).now = s.now := rfl
@[simp] theorem State.pins_writeFrame (s : State) (f k : Nat) (bs : List Byte) : (s.writeFrame f k bs).pins = s.pins := rfl
@[simp] theorem State.resetHeld_writeFrame (s : State) (f k : Nat) (bs : List Byte) :
    (s.writeFrame f k bs).resetHeld = s.resetHeld := rfl
@[simp] theorem State.resetPower_writeFrame (s : State) (f k : Nat) (bs : List Byte) :
    (s.writeFrame f k bs).resetPower = s.resetPower := rfl
@[simp] theorem State.resetCause_writeFrame (s : State) (f k : Nat) (bs : List Byte) :
    (s.writeFrame f k bs).resetCause = s.resetCause := rfl
@[simp] theorem State.feed_writeFrame (s : State) (f k : Nat) (bs : List Byte) : (s.writeFrame f k bs).feed = s.feed := rfl
@[simp] theorem State.geometry_writeFrame (s : State) (f k : Nat) (bs : List Byte) :
    (s.writeFrame f k bs).geometry = s.geometry := rfl
@[simp] theorem State.geometryValid_writeFrame (s : State) (f k : Nat) (bs : List Byte) :
    (s.writeFrame f k bs).geometryValid = s.geometryValid := rfl
@[simp] theorem State.species_writeFrame (s : State) (f k : Nat) (bs : List Byte) :
    (s.writeFrame f k bs).species = s.species := rfl
@[simp] theorem State.manifest_writeFrame (s : State) (f k : Nat) (bs : List Byte) :
    (s.writeFrame f k bs).manifest = s.manifest := rfl
@[simp] theorem State.counters_writeFrame (s : State) (f k : Nat) (bs : List Byte) :
    (s.writeFrame f k bs).counters = s.counters := rfl
@[simp] theorem State.temp_writeFrame (s : State) (f k : Nat) (bs : List Byte) : (s.writeFrame f k bs).temp = s.temp := rfl
@[simp] theorem State.queue_writeFrame (s : State) (f k : Nat) (bs : List Byte) : (s.writeFrame f k bs).queue = s.queue := rfl
@[simp] theorem State.arms_writeFrame (s : State) (f k : Nat) (bs : List Byte) : (s.writeFrame f k bs).arms = s.arms := rfl
@[simp] theorem State.arbiter_writeFrame (s : State) (f k : Nat) (bs : List Byte) :
    (s.writeFrame f k bs).arbiter = s.arbiter := rfl
@[simp] theorem State.rotor1_writeFrame (s : State) (f k : Nat) (bs : List Byte) : (s.writeFrame f k bs).rotor1 = s.rotor1 := rfl
@[simp] theorem State.rotor2_writeFrame (s : State) (f k : Nat) (bs : List Byte) : (s.writeFrame f k bs).rotor2 = s.rotor2 := rfl
@[simp] theorem State.supply_writeFrame (s : State) (f k : Nat) (bs : List Byte) : (s.writeFrame f k bs).supply = s.supply := rfl
@[simp] theorem State.holds_writeFrame (s : State) (f k : Nat) (bs : List Byte) : (s.writeFrame f k bs).holds = s.holds := rfl
@[simp] theorem State.latch_writeFrame (s : State) (f k : Nat) (bs : List Byte) : (s.writeFrame f k bs).latch = s.latch := rfl
@[simp] theorem State.quality_writeFrame (s : State) (f k : Nat) (bs : List Byte) :
    (s.writeFrame f k bs).quality = s.quality := rfl
@[simp] theorem State.mode_writeFrame (s : State) (f k : Nat) (bs : List Byte) : (s.writeFrame f k bs).mode = s.mode := rfl
@[simp] theorem State.modeRefused_writeFrame (s : State) (f k : Nat) (bs : List Byte) :
    (s.writeFrame f k bs).modeRefused = s.modeRefused := rfl
@[simp] theorem State.cfg_writeFrame (s : State) (f k : Nat) (bs : List Byte) : (s.writeFrame f k bs).cfg = s.cfg := rfl
@[simp] theorem State.cause_writeFrame (s : State) (f k : Nat) (bs : List Byte) : (s.writeFrame f k bs).cause = s.cause := rfl
@[simp] theorem State.enable_writeFrame (s : State) (f k : Nat) (bs : List Byte) : (s.writeFrame f k bs).enable = s.enable := rfl
@[simp] theorem State.ram_writeFrame (s : State) (f k : Nat) (bs : List Byte) :
    (s.writeFrame f k bs).ram = s.ram.writeBytes (frameAddr f k) bs := rfl
@[simp] theorem State.eeprom_writeFrame (s : State) (f k : Nat) (bs : List Byte) : (s.writeFrame f k bs).eeprom = s.eeprom := rfl

/-! ### leaveFlow -/

@[simp] theorem State.pending_leaveFlow (s : State) (a : ArmId) : (s.leaveFlow a).pending = s.pending := rfl
@[simp] theorem State.free_leaveFlow (s : State) (a : ArmId) : (s.leaveFlow a).free = s.free := rfl
@[simp] theorem State.now_leaveFlow (s : State) (a : ArmId) : (s.leaveFlow a).now = s.now := rfl
@[simp] theorem State.pins_leaveFlow (s : State) (a : ArmId) : (s.leaveFlow a).pins = s.pins := rfl
@[simp] theorem State.resetHeld_leaveFlow (s : State) (a : ArmId) : (s.leaveFlow a).resetHeld = s.resetHeld := rfl
@[simp] theorem State.resetPower_leaveFlow (s : State) (a : ArmId) : (s.leaveFlow a).resetPower = s.resetPower := rfl
@[simp] theorem State.resetCause_leaveFlow (s : State) (a : ArmId) : (s.leaveFlow a).resetCause = s.resetCause := rfl
@[simp] theorem State.feed_leaveFlow (s : State) (a : ArmId) : (s.leaveFlow a).feed = s.feed := rfl
@[simp] theorem State.geometry_leaveFlow (s : State) (a : ArmId) : (s.leaveFlow a).geometry = s.geometry := rfl
@[simp] theorem State.geometryValid_leaveFlow (s : State) (a : ArmId) : (s.leaveFlow a).geometryValid = s.geometryValid := rfl
@[simp] theorem State.species_leaveFlow (s : State) (a : ArmId) : (s.leaveFlow a).species = s.species := rfl
@[simp] theorem State.manifest_leaveFlow (s : State) (a : ArmId) : (s.leaveFlow a).manifest = s.manifest := rfl
@[simp] theorem State.counters_leaveFlow (s : State) (a : ArmId) : (s.leaveFlow a).counters = s.counters := rfl
@[simp] theorem State.temp_leaveFlow (s : State) (a : ArmId) : (s.leaveFlow a).temp = s.temp := rfl
@[simp] theorem State.queue_leaveFlow (s : State) (a : ArmId) : (s.leaveFlow a).queue = s.queue := rfl
@[simp] theorem State.arms_leaveFlow (s : State) (a : ArmId) : (s.leaveFlow a).arms = s.arms := rfl
@[simp] theorem State.arbiter_leaveFlow (s : State) (a : ArmId) :
    (s.leaveFlow a).arbiter = { s.arbiter with wait := s.arbiter.wait.filter fun e => e.arm != a, inFlight := s.arbiter.inFlight.filter fun b => b != a } := rfl
@[simp] theorem State.rotor1_leaveFlow (s : State) (a : ArmId) : (s.leaveFlow a).rotor1 = s.rotor1 := rfl
@[simp] theorem State.rotor2_leaveFlow (s : State) (a : ArmId) : (s.leaveFlow a).rotor2 = s.rotor2 := rfl
@[simp] theorem State.supply_leaveFlow (s : State) (a : ArmId) : (s.leaveFlow a).supply = s.supply := rfl
@[simp] theorem State.holds_leaveFlow (s : State) (a : ArmId) : (s.leaveFlow a).holds = s.holds := rfl
@[simp] theorem State.latch_leaveFlow (s : State) (a : ArmId) : (s.leaveFlow a).latch = s.latch := rfl
@[simp] theorem State.quality_leaveFlow (s : State) (a : ArmId) : (s.leaveFlow a).quality = s.quality := rfl
@[simp] theorem State.mode_leaveFlow (s : State) (a : ArmId) : (s.leaveFlow a).mode = s.mode := rfl
@[simp] theorem State.modeRefused_leaveFlow (s : State) (a : ArmId) : (s.leaveFlow a).modeRefused = s.modeRefused := rfl
@[simp] theorem State.cfg_leaveFlow (s : State) (a : ArmId) : (s.leaveFlow a).cfg = s.cfg := rfl
@[simp] theorem State.cause_leaveFlow (s : State) (a : ArmId) : (s.leaveFlow a).cause = s.cause := rfl
@[simp] theorem State.enable_leaveFlow (s : State) (a : ArmId) : (s.leaveFlow a).enable = s.enable := rfl
@[simp] theorem State.ram_leaveFlow (s : State) (a : ArmId) : (s.leaveFlow a).ram = s.ram := rfl
@[simp] theorem State.eeprom_leaveFlow (s : State) (a : ArmId) : (s.leaveFlow a).eeprom = s.eeprom := rfl

/-! ### Arms -/

theorem Arms.get_set (x : Arms) (a b : ArmId) (c : Arm) : (x.set a c).get b = if a = b then c else x.get b := by
  cases a <;> cases b <;> rfl

@[simp] theorem Arms.get_set_self (x : Arms) (a : ArmId) (c : Arm) : (x.set a c).get a = c := by simp [Arms.get_set]

/-- Two sets of arms that agree on every arm are equal. -/
theorem Arms.ext_get {x y : Arms} (h : ∀ a, x.get a = y.get a) : x = y := by
  cases x; cases y
  simp only [Arms.mk.injEq]
  exact ⟨h .a11, h .a12, h .a13, h .a14, h .a15, h .a21, h .a22, h .a23, h .a24, h .a25⟩

@[simp] theorem Arms.set_get_self (x : Arms) (a : ArmId) : x.set a (x.get a) = x :=
  Arms.ext_get fun b => by rw [Arms.get_set]; split <;> simp_all

theorem Arms.set_set (x : Arms) (a : ArmId) (c d : Arm) : (x.set a c).set a d = x.set a d :=
  Arms.ext_get fun b => by simp only [Arms.get_set]; split <;> rfl

theorem State.arm_setArm (s : State) (a b : ArmId) (c : Arm) : (s.setArm a c).arm b = if a = b then c else s.arm b :=
  Arms.get_set s.arms a b c

@[simp] theorem State.arm_setArm_self (s : State) (a : ArmId) (c : Arm) : (s.setArm a c).arm a = c := by
  simp [State.arm_setArm]

theorem State.arm_updArm (s : State) (a b : ArmId) (f : Arm → Arm) :
    (s.updArm a f).arm b = if a = b then f (s.arm a) else s.arm b :=
  Arms.get_set s.arms a b _

@[simp] theorem State.arm_updArm_self (s : State) (a : ArmId) (f : Arm → Arm) : (s.updArm a f).arm a = f (s.arm a) := by
  simp [State.arm_updArm]

/-- A state with the same arms has the same contexts. -/
theorem State.arm_congr {s t : State} (h : s.arms = t.arms) (a : ArmId) : s.arm a = t.arm a := by
  unfold State.arm; rw [h]

/-! ### Rotors -/

theorem State.rotor_setRotor (s : State) (r u : RotorId) (x : Rotor) :
    (s.setRotor r x).rotor u = if r = u then x else s.rotor u := by
  cases r <;> cases u <;> rfl

@[simp] theorem State.rotor_setRotor_self (s : State) (r : RotorId) (x : Rotor) : (s.setRotor r x).rotor r = x := by
  simp [State.rotor_setRotor]

theorem State.rotor_updRotor (s : State) (r u : RotorId) (f : Rotor → Rotor) :
    (s.updRotor r f).rotor u = if r = u then f (s.rotor r) else s.rotor u := by
  cases r <;> cases u <;> rfl

/-! ### Rows -/

theorem State.row_setRow (s : State) (k n : Nat) (x : SpeciesRow) :
    (s.setRow k x).row n = if k = n ∧ k < 32 then x else s.row n := by
  unfold State.setRow State.row
  by_cases hk : k < 32
  · by_cases hn : n < 32
    · by_cases h : k = n
      · subst h; simp [hk]
      · simp [hk, hn, h]
    · have : k ≠ n := fun h => hn (h ▸ hk)
      simp [hk, hn, this]
  · simp [hk]

/-! ### The hold cause set and the cause set -/

theorem HoldCauses.get_put (h : HoldCauses) (c d : HoldCause) (b : Bool) :
    (h.put c b).get d = if c = d then b else h.get d := by
  cases c <;> cases d <;> rfl

/-- A raised cause is pending, and no other changes. -/
theorem State.pendingCause_raise (s : State) (c d : Cause) :
    (s.raise c).pendingCause d = (decide (c = d) || s.pendingCause d) := by
  cases c <;> cases d <;> simp [State.raise, State.pendingCause, oneBit, Cause.place]

end Sys2Proof.Machine
end

