-- ==== Sys2Proof/Laws/Publish.lean ====
section
/-! SUPPORT. What publication can do: it writes frames 240 to 250 only, so a command's next state is what its effect gives, up to those
frames. -/

namespace Sys2Proof.Machine

/-! ### Lengths of the published encodings -/

@[simp] theorem length_bytesOfWord (w : Word) : (bytesOfWord w).length = 2 := rfl
@[simp] theorem length_byteN (n : Nat) : (byteN n).length = 1 := rfl
@[simp] theorem length_byteI (i : Int) : (byteI i).length = 1 := rfl
@[simp] theorem length_wordN (n : Nat) : (wordN n).length = 2 := rfl
@[simp] theorem length_wordI (i : Int) : (wordI i).length = 2 := rfl
@[simp] theorem length_bytesOfLong (p : BitVec 32) : (bytesOfLong p).length = 4 := rfl
@[simp] theorem length_temperatureBytes (v : Option Int) : (temperatureBytes v).length = 2 := by cases v <;> rfl
@[simp] theorem length_rotorView_bytes (w : RotorView) : w.bytes.length = 7 := by simp [RotorView.bytes]
@[simp] theorem length_fieldBytes (x : SpeciesRow) : x.fieldBytes.length = 48 := by
  unfold SpeciesRow.fieldBytes
  simp only [List.length_append, length_byteN, length_byteI, length_wordN]
@[simp] theorem length_flowEntry (s : State) (a : ArmId) (e : Bool) : (s.flowEntry a e).length = 2 := rfl
@[simp] theorem length_record_headBytes (q : Record) : q.headBytes.length = 20 := by simp [Record.headBytes]
@[simp] theorem length_packBytes (n : Nat) (fs : List (Nat × List Byte)) : (packBytes n fs).length = n := by
  simp [packBytes]

@[simp] theorem length_arm_entryBytes (c : Arm) : c.entryBytes.length = 18 := by
  unfold Arm.entryBytes
  cases c.flow.request? <;> simp

theorem length_placeBytes {entries : List (List Byte)} {size : Nat} (h : ∀ e ∈ entries, e.length = size) (k : Nat) :
    (placeBytes entries size k).length = size := by
  unfold placeBytes
  by_cases hk : k < entries.length
  · simp [List.getD, hk, h]
  · simp [List.getD, Nat.not_lt.1 hk]

/-! ### The published groups lie in frames 240 to 250 -/

/-- A run of bytes within the published frames. -/
def Field.published (x : Field) : Prop := frameAddr 240 0 ≤ x.1 ∧ x.1 + x.2.length ≤ frameAddr 251 0

theorem placeFields_within {entries : List (List Byte)} {size count base bound : Nat}
    (h : ∀ e ∈ entries, e.length = size) (hb : base + size * count ≤ bound) :
    ∀ x ∈ placeFields entries size count base, x.1 + x.2.length ≤ bound := by
  intro x hx
  obtain ⟨k, hk, rfl⟩ := List.mem_map.1 hx
  have hk : k < count := List.mem_range.1 hk
  have h1 : size * (k + 1) ≤ size * count := Nat.mul_le_mul_left _ hk
  rw [Nat.mul_succ] at h1
  simp only [length_placeBytes h]
  omega

theorem statusFields_within (s : State) : ∀ x ∈ s.statusFields, x.1 + x.2.length ≤ 256 := by
  have h1 := placeFields_within (entries := s.manifest.staged.map fun e => byteN e.frame) (size := 1) (count := 4) (base := 22)
    (bound := 256) (by simp) (by decide)
  have h2 := placeFields_within (entries := s.arbiter.inFlight.map fun a => s.flowEntry a false) (size := 2) (count := 4)
    (base := 60) (bound := 256) (by simp) (by decide)
  have h3 := placeFields_within (entries := s.arbiter.wait.map fun e => s.flowEntry e.arm e.elevated) (size := 2) (count := 10)
    (base := 70) (bound := 256) (by simp) (by decide)
  unfold State.statusFields State.statusFieldsA State.statusFieldsB State.statusFieldsC
  simp only [List.forall_mem_append]
  refine ⟨⟨⟨⟨?_, h1⟩, ?_⟩, ?_⟩, ⟨⟨h2, ?_⟩, h3⟩, ?_⟩ <;> simp [State.rotorFields]

theorem transitHeader_within (s : State) : ∀ x ∈ s.transitHeader, x.1 + x.2.length ≤ 256 := by
  simp [State.transitHeader]

theorem recordPart_within (s : State) {part : Record → List Byte} {size offset : Nat} (h : ∀ q, (part q).length = size)
    (hb : offset + size ≤ 40) : ∀ x ∈ s.recordPart part size offset, x.1 + x.2.length ≤ 256 := by
  intro x hx
  obtain ⟨k, hk, rfl⟩ := List.mem_map.1 hx
  have hk : k < 6 := List.mem_range.1 hk
  have : ∀ e ∈ s.queue.map part, e.length = size := by simp [h]
  simp only [length_placeBytes this]
  omega

theorem recordFields_within (s : State) : ∀ x ∈ s.recordFields, x.1 + x.2.length ≤ 256 := by
  unfold State.recordFields
  simp only [List.forall_mem_append]
  exact ⟨⟨recordPart_within s (by simp) (by decide), recordPart_within s (by simp) (by decide)⟩,
    recordPart_within s (by simp) (by decide)⟩

theorem armFields_within (s : State) : ∀ x ∈ s.armFields, x.1 + x.2.length ≤ 256 := by
  unfold State.armFields
  simp only [List.forall_mem_append]
  refine ⟨by simp, ?_⟩
  intro x hx
  obtain ⟨a, -, rfl⟩ := List.mem_map.1 hx
  cases a <;> simp [armCode]

theorem published_atFrame {f : Nat} {fs : List Field} (hf : 240 ≤ f ∧ f ≤ 250) (h : ∀ x ∈ fs, x.1 + x.2.length ≤ 256) :
    ∀ x ∈ atFrame f fs, Field.published x := by
  intro x hx
  obtain ⟨y, hy, rfl⟩ := List.mem_map.1 hx
  have := h y hy
  simp only [Field.published, frameAddr]
  omega

/-- Every published group lies in the published frames. -/
theorem groups_published (s : State) : ∀ g ∈ s.groups, ∀ x ∈ g, Field.published x := by
  have single : ∀ fs : List Field, (∀ x ∈ fs, Field.published x) → ∀ g ∈ fs.map (fun x => [x]), ∀ x ∈ g, Field.published x := by
    intro fs h g hg x hx
    obtain ⟨y, hy, rfl⟩ := List.mem_map.1 hg
    rw [List.mem_singleton.1 hx]; exact h y hy
  unfold State.groups
  simp only [List.forall_mem_append]
  refine ⟨⟨⟨⟨single _ ?_, single _ ?_⟩, ?_⟩, single _ ?_⟩, ?_⟩
  · exact published_atFrame (by decide) (statusFields_within s)
  · exact published_atFrame (by decide) (transitHeader_within s)
  · intro g hg
    rw [List.mem_singleton.1 hg]; exact published_atFrame (by decide) (recordFields_within s)
  · exact published_atFrame (by decide) (armFields_within s)
  · intro g hg x hx
    obtain ⟨k, hk, rfl⟩ := List.mem_map.1 hg
    have hk : k < 32 := List.mem_range.1 hk
    rw [List.mem_singleton.1 hx]
    simp only [Field.published, imageAddr, frameAddr, length_fieldBytes]
    omega

/-! ### What writing the groups changes -/

theorem read_writeFields {fs : List Field} (h : ∀ x ∈ fs, Field.published x) (m : Memory) {a : Nat} (ha : ¬ isPublished a) :
    (writeFields m fs).read a = m.read a := by
  unfold writeFields
  induction fs generalizing m with
  | nil => rfl
  | cons x fs ih =>
    rw [List.foldl_cons, ih fun y hy => h y (List.mem_cons_of_mem _ hy)]
    have hx := h x (by simp)
    simp only [Field.published] at hx
    simp only [isPublished] at ha
    exact Memory.read_writeBytes_of_outside (by omega)

theorem read_writeChanged {ys : List (List Field)} (h : ∀ g ∈ ys, ∀ x ∈ g, Field.published x) (xs : List (List Field))
    (m : Memory) {a : Nat} (ha : ¬ isPublished a) : (writeChanged m xs ys).read a = m.read a := by
  induction ys generalizing m xs with
  | nil => cases xs <;> rfl
  | cons y ys ih =>
    cases xs with
    | nil => rfl
    | cons x xs =>
      unfold writeChanged
      rw [ih (fun g hg => h g (List.mem_cons_of_mem _ hg))]
      split
      · rfl
      · exact read_writeFields (h y (by simp)) m ha

theorem wf_writeFields {m : Memory} (fs : List Field) (h : m.wf) : (writeFields m fs).wf := by
  unfold writeFields
  induction fs generalizing m with
  | nil => exact h
  | cons x fs ih => rw [List.foldl_cons]; exact ih (Memory.wf_writeBytes _ _ h)

theorem wf_writeChanged {m : Memory} (xs ys : List (List Field)) (h : m.wf) : (writeChanged m xs ys).wf := by
  induction ys generalizing m xs with
  | nil => cases xs <;> exact h
  | cons y ys ih =>
    cases xs with
    | nil => exact h
    | cons x xs =>
      unfold writeChanged
      refine ih _ ?_
      split
      · exact h
      · exact wf_writeFields _ h

theorem length_publishedImage (s : State) : s.publishedImage.length = 11 * 256 := by
  unfold State.publishedImage
  rw [length_packBytes]

/-! ### What is published does not depend on the manifest RAM -/

theorem statusFields_withRam (s : State) (m : Memory) : { s with ram := m }.statusFields = s.statusFields := rfl
theorem transitHeader_withRam (s : State) (m : Memory) : { s with ram := m }.transitHeader = s.transitHeader := rfl
theorem recordFields_withRam (s : State) (m : Memory) : { s with ram := m }.recordFields = s.recordFields := rfl
theorem armFields_withRam (s : State) (m : Memory) : { s with ram := m }.armFields = s.armFields := rfl
theorem row_withRam (s : State) (m : Memory) (k : Nat) : { s with ram := m }.row k = s.row k := rfl

theorem groups_withRam (s : State) (m : Memory) : { s with ram := m }.groups = s.groups := by
  unfold State.groups
  rw [statusFields_withRam, transitHeader_withRam, recordFields_withRam, armFields_withRam]
  simp only [row_withRam]

theorem publishedImage_withRam (s : State) (m : Memory) : { s with ram := m }.publishedImage = s.publishedImage := by
  unfold State.publishedImage
  rw [groups_withRam]

theorem imageStands_of_image {s : State} {bs : List Byte} (h : bs.length = 11 * 256) (hs : s.publishedImage = bs) :
    ({ s with ram := s.ram.writeBytes (frameAddr 240 0) bs } : State).imageStands := by
  unfold State.imageStands
  rw [publishedImage_withRam, hs]
  exact Memory.readBytes_writeBytes_of_length _ _ h

/-- Frames 240 to 250 rewritten in full show the published state. -/
theorem imageStands_rewriteAll (s : State) : s.rewriteAll.imageStands := imageStands_of_image (length_publishedImage s) rfl

/-! ### publish and act -/

/-- The three things publication can do: nothing, the changed groups, or the whole image. -/
theorem publish_cases (old new : State) :
    publish old new = new
      ∨ publish old new = { new with ram := writeChanged new.ram old.groups new.groups }
      ∨ publish old new = { new with ram := new.ram.writeBytes (frameAddr 240 0) new.publishedImage } := by
  unfold publish State.rewriteAll
  cases new.publishes <;> cases old.publishes <;> simp only [Bool.false_eq_true, if_true, if_false, true_or, or_true]

/-- Publication changes the manifest RAM only, there only frames 240 to 250, and keeps the canonical form. -/
theorem publish_ram (old new : State) :
    ∃ m : Memory, publish old new = { new with ram := m } ∧ (∀ a, ¬ isPublished a → m.read a = new.ram.read a)
      ∧ (new.ram.wf → m.wf) := by
  rcases publish_cases old new with h | h | h
  · exact ⟨new.ram, h, fun _ _ => rfl, id⟩
  · exact ⟨_, h, fun a ha => read_writeChanged (groups_published new) _ _ ha, fun hm => wf_writeChanged _ _ hm⟩
  · refine ⟨_, h, fun a ha => ?_, fun hm => Memory.wf_writeBytes _ _ hm⟩
    rw [Memory.read_writeBytes_of_outside]
    simp only [isPublished, frameAddr] at ha
    rw [length_publishedImage]
    simp only [frameAddr]
    omega

/-- A state with another manifest RAM is published from it when the two agree outside the published frames. -/
theorem publishedFrom_withRam {u : State} {m : Memory} (h : ∀ a, ¬ isPublished a → m.read a = u.ram.read a) :
    PublishedFrom u { u with ram := m } := ⟨rfl, h⟩

theorem publishedFrom_refl (s : State) : PublishedFrom s s := ⟨rfl, fun _ _ => rfl⟩

/-- Publication leaves every field but the manifest RAM, and of it every byte outside frames 240 to 250. -/
theorem publish_publishedFrom (old new : State) : PublishedFrom new (publish old new) := by
  obtain ⟨m, h, hm, -⟩ := publish_ram old new
  rw [h]
  exact publishedFrom_withRam hm

/-- Publication keeps the manifest RAM canonical. -/
theorem publish_wf {old new : State} (h : new.ram.wf) : (publish old new).ram.wf := by
  obtain ⟨m, hp, -, hw⟩ := publish_ram old new
  rw [hp]
  exact hw h

/-- After publication every byte outside the published frames reads as before it. -/
theorem publish_ticketFramesKept (old new : State) : TicketFramesKept new (publish old new) :=
  (publish_publishedFrom old new).2

theorem act_running {s : State} (h : s.running) (f : State → State) : act s f = .next (publish s (f s)) := by
  unfold act
  rw [h]; rfl

theorem act_held {s : State} (h : s.resetHeld.isSome = true) (f : State → State) : act s f = .next s := by
  unfold act
  rw [if_pos h]

theorem actOrPin_running {s : State} (h : s.running) (pin f : State → State) :
    actOrPin s pin f = .next (publish s (f s)) := by
  unfold actOrPin
  rw [h]; rfl

/-- A command whose meaning is one act reaches what the act gives. -/
theorem reaches_of_act {c : Instr} {s u : State} {f : State → State} (hc : exec c s = act s f) (h : s.running)
    (hf : f s = u) : Reaches c s u :=
  ⟨publish s (f s), by rw [hc, act_running h], hf ▸ publish_publishedFrom s (f s)⟩

/-- A command whose meaning is one act answers the published form of what the act gives. -/
theorem answers_of_act {c : Instr} {s : State} {f : State → State} {P : State → Prop} (hc : exec c s = act s f)
    (h : s.running) (hP : P (publish s (f s))) : Answers c s P :=
  ⟨publish s (f s), by rw [hc, act_running h], hP⟩

end Sys2Proof.Machine
end

