-- ==== Sys2Proof/Laws/Chain.lean ====
section
/-! SUPPORT. What the Manifest Reader's shared operations can do: which fields, and which bytes of the manifest RAM, they change. -/

namespace Sys2Proof.Machine

/-! ### Closing a frame (R36) -/

@[simp] theorem length_outcomeSection (res : Result) (detail : Nat) (sequence tag : Word) (time : Nat)
    (fields : List (Nat × List Byte)) : (outcomeSection res detail sequence tag time fields).length = 128 :=
  length_packBytes _ _

/-- A closure changes the manifest RAM, the counters and the cause register only. -/
theorem closeFrame_fields (s : State) (f : Nat) (tag : Word) (res : Result) (detail : Nat) (fields : List (Nat × List Byte)) :
    { s.closeFrame f tag res detail fields with ram := s.ram, counters := s.counters, cause := s.cause } = s := by
  unfold State.closeFrame
  dsimp only
  by_cases h : s.frameState f = 2
  · rw [if_pos h]
    generalize outcomeSection _ _ _ _ _ _ = bs
    rfl
  · rw [if_neg h]; rfl

theorem closeFrame_counters (s : State) (f : Nat) (tag : Word) (res : Result) (detail : Nat)
    (fields : List (Nat × List Byte)) : (s.closeFrame f tag res detail fields).counters = s.counters.finish res := rfl

/-- The RAM after a closure: the outcome section and the state byte while the frame stands TAKEN, else as before. -/
theorem closeFrame_ram (s : State) (f : Nat) (tag : Word) (res : Result) (detail : Nat) (fields : List (Nat × List Byte)) :
    (s.closeFrame f tag res detail fields).ram =
      if s.frameState f = 2 then
        (s.ram.writeBytes (frameAddr f 128)
          (outcomeSection res detail ((s.counters.finish res).finished res) tag s.now fields)).writeBytes (frameAddr f 2)
          [res.frameState]
      else s.ram := by
  unfold State.closeFrame
  dsimp only
  by_cases h : s.frameState f = 2
  · rw [if_pos h, if_pos h]
    generalize outcomeSection _ _ _ _ _ _ = bs
    rfl
  · rw [if_neg h, if_neg h]; rfl

/-- A closure leaves every byte outside its frame's state byte and outcome section. -/
theorem closeFrame_read {s : State} {f : Nat} {tag : Word} {res : Result} {detail : Nat} {fields : List (Nat × List Byte)}
    {a : Nat} (h : a ≠ frameAddr f 2) (k : a < frameAddr f 128 ∨ frameAddr (f + 1) 0 ≤ a) :
    (s.closeFrame f tag res detail fields).ram.read a = s.ram.read a := by
  rw [closeFrame_ram]
  by_cases t : s.frameState f = 2
  · rw [if_pos t, Memory.read_writeBytes_of_outside, Memory.read_writeBytes_of_outside]
    · rw [length_outcomeSection]; simp only [frameAddr] at k ⊢; omega
    · simp only [frameAddr, List.length_cons, List.length_nil] at h ⊢; omega
  · rw [if_neg t]

theorem closeFrame_wf {s : State} {f : Nat} {tag : Word} {res : Result} {detail : Nat} {fields : List (Nat × List Byte)}
    (h : s.ram.wf) : (s.closeFrame f tag res detail fields).ram.wf := by
  rw [closeFrame_ram]
  by_cases t : s.frameState f = 2
  · rw [if_pos t]; exact Memory.wf_writeBytes _ _ (Memory.wf_writeBytes _ _ h)
  · rw [if_neg t]; exact h

/-! ### The scan request and the head of the staged queue (R25, R32, R33) -/

/-- Calling a scan changes the two scan flags only. -/
theorem requestScan_fields (s : State) :
    { s.requestScan with manifest := { s.requestScan.manifest with
        scanning := s.manifest.scanning, scanRequest := s.manifest.scanRequest } } = s := by
  unfold State.requestScan
  by_cases h : s.cfg.preload = .running
  · rw [if_pos h]
  · rw [if_neg h]
    by_cases k : s.manifest.scanning = true
    · rw [if_pos k]
    · rw [if_neg k]

theorem endScan_fields (s : State) (why : ScanEnd) : { s.endScan why with manifest := s.manifest } = s := rfl

/-- The head's field check changes the staged entries only. -/
theorem checkHead_fields (s : State) :
    { s.checkHead with manifest := { s.checkHead.manifest with staged := s.manifest.staged } } = s := by
  unfold State.checkHead
  cases h : s.manifest.staged with
  | nil => dsimp only; rw [← h]
  | cons e rest =>
    dsimp only
    by_cases k : e.kind = .log ∧ e.check = .notMade
    · rw [if_pos k, ← h]
    · rw [if_neg k, ← h]

theorem checkHead_ram (s : State) : s.checkHead.ram = s.ram := by
  have k := congrArg State.ram (checkHead_fields s); exact k

theorem requestScan_ram (s : State) : s.requestScan.ram = s.ram := by
  have k := congrArg State.ram (requestScan_fields s); exact k

/-- The head's departure changes the manifest reader only. -/
theorem departHead_fields (s : State) : { s.departHead with manifest := s.manifest } = s := by
  let u : State := { s with manifest := { s.manifest with staged := s.manifest.staged.tail } }
  have h : { u.requestScan.checkHead with manifest := s.manifest } = { u.requestScan with manifest := s.manifest } := by
    have k := congrArg (fun x : State => { x with manifest := s.manifest }) (checkHead_fields u.requestScan); exact k
  have h' : { u.requestScan with manifest := s.manifest } = { u with manifest := s.manifest } := by
    have k := congrArg (fun x : State => { x with manifest := s.manifest }) (requestScan_fields u); exact k
  exact h.trans h'

theorem departHead_ram (s : State) : s.departHead.ram = s.ram := by
  have k := congrArg State.ram (departHead_fields s); exact k

theorem bindHead_fields (s : State) (b : Bool) : { s.bindHead b with manifest := s.manifest } = s := by
  unfold State.bindHead
  cases s.manifest.staged <;> rfl

/-! ### One step of a scan (R27) -/

theorem writeFrame_fields (s : State) (f k : Nat) (bs : List Byte) : { s.writeFrame f k bs with ram := s.ram } = s := rfl

theorem writeFrame_wf {s : State} (f k : Nat) (bs : List Byte) (h : s.ram.wf) : (s.writeFrame f k bs).ram.wf :=
  Memory.wf_writeBytes _ _ h

theorem moveCursor_fields (s : State) (f : Nat) : { s.moveCursor f with ram := s.ram, manifest := s.manifest } = s := by
  unfold State.moveCursor
  dsimp only
  by_cases h : s.manifest.cursor = 0 ∨ s.manifest.cursor = f
  · rw [if_pos h]; rfl
  · rw [if_neg h]; rfl

theorem moveCursor_wf {s : State} (f : Nat) (h : s.ram.wf) : (s.moveCursor f).ram.wf := by
  unfold State.moveCursor
  dsimp only
  by_cases k : s.manifest.cursor = 0 ∨ s.manifest.cursor = f
  · rw [if_pos k]; exact writeFrame_wf f 3 _ h
  · rw [if_neg k]; exact writeFrame_wf _ 3 _ (writeFrame_wf f 3 _ h)

theorem rejectAtScan_wf {s : State} (f : Nat) (res : Result) (detail : Word) (h : s.ram.wf) :
    (s.rejectAtScan f res detail).ram.wf :=
  moveCursor_wf f (closeFrame_wf (writeFrame_wf f 2 _ h))

theorem takeFrame_wf {s : State} (f : Nat) (kind : TicketKind) (area : List Byte) (h : s.ram.wf) :
    (s.takeFrame f kind area).ram.wf := by
  unfold State.takeFrame
  dsimp only
  rw [checkHead_ram]
  refine moveCursor_wf f ?_
  exact writeFrame_wf f 2 _ h

theorem scanFrame_wf {s : State} (f : Nat) (h : s.ram.wf) : (s.scanFrame f).ram.wf := by
  unfold State.scanFrame
  by_cases h1 : s.frameState f ≠ 1
  · rw [if_pos h1]; exact h
  rw [if_neg h1]
  by_cases h2 : s.holdsFrame f = true
  · rw [if_pos h2]; exact h
  rw [if_neg h2]
  dsimp only
  by_cases h3 : sumWords (s.ram.readBytes (frameAddr f 4) 124) ≠ 0
  · rw [if_pos h3]; exact rejectAtScan_wf f _ _ h
  rw [if_neg h3]
  cases TicketKind.ofCode (areaWord (s.ram.readBytes (frameAddr f 4) 124) 4) with
  | none => exact rejectAtScan_wf f _ _ h
  | some kind => exact takeFrame_wf f kind _ h

/-- One step of a scan keeps the canonical form of the manifest RAM. -/
theorem scanOnce_wf {s : State} (h : s.ram.wf) : s.scanOnce.ram.wf := by
  unfold State.scanOnce
  by_cases h1 : s.manifest.staged.length ≥ 4
  · rw [if_pos h1]; exact h
  rw [if_neg h1]
  dsimp only
  by_cases h2 : (s.ram.word (frameAddr s.manifest.cursor 0)).toNat = 0
  · rw [if_pos h2]; exact h
  rw [if_neg h2]
  by_cases h3 : 239 < (s.ram.word (frameAddr s.manifest.cursor 0)).toNat
  · rw [if_pos h3]; exact h
  · rw [if_neg h3]; exact scanFrame_wf _ h

end Sys2Proof.Machine
end

