-- ==== Sys2Proof/Laws/Flow.lean ====
section
/-! SUPPORT. What the shared operations of the Flow Arbiter, the Setpoint Unit and the Arm Controllers can do: they change the arms,
the arbiter's two lists, the protection timers and the records' maximum targets, and nothing else. -/

namespace Sys2Proof.Machine

/-- From `s` to `t` only requests, moves, grants, arms and targets differ. -/
def FlowOnly (s t : State) : Prop := t.withoutFlow = s.withoutFlow ∧ t.ram = s.ram

theorem FlowOnly.refl (s : State) : FlowOnly s s := ⟨rfl, rfl⟩

theorem FlowOnly.trans {s t u : State} (h : FlowOnly s t) (k : FlowOnly t u) : FlowOnly s u :=
  ⟨k.1.trans h.1, k.2.trans h.2⟩

/-- Acting on one arm after another changes no more than each act does. -/
theorem FlowOnly.foldl {α : Type} {f : State → α → State} (h : ∀ s x, FlowOnly s (f s x)) (xs : List α) (s : State) :
    FlowOnly s (xs.foldl f s) := by
  induction xs generalizing s with
  | nil => exact .refl s
  | cons x xs ih => exact (h s x).trans (ih _)

theorem FlowOnly.setArm (s : State) (a : ArmId) (c : Arm) : FlowOnly s (s.setArm a c) := ⟨rfl, rfl⟩

theorem FlowOnly.updArm (s : State) (a : ArmId) (f : Arm → Arm) : FlowOnly s (s.updArm a f) := ⟨rfl, rfl⟩

/-! ### What such a change leaves -/

section
variable {s t : State} (h : FlowOnly s t)

include h
theorem FlowOnly.pending : t.pending = s.pending := by have k := congrArg State.pending h.1; exact k
theorem FlowOnly.now : t.now = s.now := by have k := congrArg State.now h.1; exact k
theorem FlowOnly.pins : t.pins = s.pins := by have k := congrArg State.pins h.1; exact k
theorem FlowOnly.resetHeld : t.resetHeld = s.resetHeld := by have k := congrArg State.resetHeld h.1; exact k
theorem FlowOnly.feed : t.feed = s.feed := by have k := congrArg State.feed h.1; exact k
theorem FlowOnly.geometry : t.geometry = s.geometry := by have k := congrArg State.geometry h.1; exact k
theorem FlowOnly.species : t.species = s.species := by have k := congrArg State.species h.1; exact k
theorem FlowOnly.manifest : t.manifest = s.manifest := by have k := congrArg State.manifest h.1; exact k
theorem FlowOnly.supply : t.supply = s.supply := by have k := congrArg State.supply h.1; exact k
theorem FlowOnly.holds : t.holds = s.holds := by have k := congrArg State.holds h.1; exact k
theorem FlowOnly.mode : t.mode = s.mode := by have k := congrArg State.mode h.1; exact k
theorem FlowOnly.cause : t.cause = s.cause := by have k := congrArg State.cause h.1; exact k
theorem FlowOnly.enable : t.enable = s.enable := by have k := congrArg State.enable h.1; exact k
theorem FlowOnly.eeprom : t.eeprom = s.eeprom := by have k := congrArg State.eeprom h.1; exact k
theorem FlowOnly.slots : t.arbiter.slots = s.arbiter.slots := congrArg (fun x => x.arbiter.slots) h.1

theorem FlowOnly.drive (r : RotorId) : (t.rotor r).drive = (s.rotor r).drive := by
  cases r
  · exact congrArg (fun x => x.rotor1.drive) h.1
  · exact congrArg (fun x => x.rotor2.drive) h.1

theorem FlowOnly.ventHeld (a : ArmId) : t.ventHeld a = s.ventHeld a := by
  unfold State.ventHeld; rw [h.supply, h.drive]

end

/-! ### The Flow Arbiter -/

theorem FlowOnly.leaveFlow (s : State) (a : ArmId) : FlowOnly s (s.leaveFlow a) := ⟨rfl, rfl⟩

theorem FlowOnly.enterRequest (s : State) (a : ArmId) (q : FlowRequest) : FlowOnly s (s.enterRequest a q) := ⟨rfl, rfl⟩

theorem FlowOnly.judgeElevation (s : State) (a : ArmId) : FlowOnly s (s.judgeElevation a) := ⟨rfl, rfl⟩

theorem FlowOnly.replaceRequest (s : State) (a : ArmId) (old new : FlowRequest) :
    FlowOnly s (s.replaceRequest a old new) := by
  unfold State.replaceRequest
  by_cases h : new.cls = old.cls
  · rw [if_pos h]; exact .updArm s a _
  · rw [if_neg h]; exact (FlowOnly.updArm s a _).trans (.judgeElevation _ a)

theorem FlowOnly.vent (s : State) (a : ArmId) (p : Nat) : FlowOnly s (s.vent a p) := ⟨rfl, rfl⟩

theorem FlowOnly.startProtection (s : State) (r : RotorId) : FlowOnly s (s.startProtection r) := by
  unfold State.startProtection
  by_cases h : s.geometry.protectionPeriod = 0
  · rw [if_pos h]; exact .refl s
  · rw [if_neg h]; cases r <;> exact ⟨rfl, rfl⟩

theorem FlowOnly.grant (s : State) (a : ArmId) : FlowOnly s (s.grant a) := by
  unfold State.grant
  cases (s.arm a).flow with
  | waiting q =>
    dsimp only
    by_cases h : q.kind = .lift
    · rw [if_pos h]; exact .trans ⟨rfl, rfl⟩ (.startProtection _ _)
    · rw [if_neg h]; exact ⟨rfl, rfl⟩
  | _ => exact .refl s

theorem FlowOnly.grantUpTo (n : Nat) (s : State) : FlowOnly s (State.grantUpTo n s) := by
  induction n generalizing s with
  | zero => exact .refl s
  | succ n ih =>
    unfold State.grantUpTo
    by_cases h : s.arbiter.inFlight.length < s.arbiter.slots
    · rw [if_pos h]
      cases s.choose with
      | none => exact .refl s
      | some e => exact (FlowOnly.grant s e.arm).trans (ih _)
    · rw [if_neg h]; exact .refl s

theorem FlowOnly.arbitrate (s : State) : FlowOnly s s.arbitrate := .grantUpTo _ s

theorem FlowOnly.elevateAged (s : State) : FlowOnly s s.elevateAged := ⟨rfl, rfl⟩

/-! ### The Setpoint Unit -/

theorem FlowOnly.actOnTarget (s : State) (a : ArmId) (v : Nat) (cls : FlowClass) : FlowOnly s (s.actOnTarget a v cls) := by
  unfold State.actOnTarget
  dsimp only
  by_cases h : s.ventHeld a
  · rw [if_pos h]; exact .refl s
  rw [if_neg h]
  by_cases k : v = (s.arm a).aim
  · rw [if_pos k]; exact .refl s
  rw [if_neg k]
  cases (s.arm a).flow <;> dsimp only
  · by_cases l : (s.arm a).aim < v
    · rw [if_pos l]; exact .enterRequest s a _
    · rw [if_neg l]; exact .vent s a v
  · by_cases l : (s.arm a).aim < v ∨ (s.arm a).commanded < v
    · rw [if_pos l]; exact .replaceRequest s a _ _
    · rw [if_neg l]; exact .vent s a v
  · by_cases l : (s.arm a).aim < v
    · rw [if_pos l]; exact .setArm s a _
    · rw [if_neg l]; exact .vent s a v
  · exact .refl s

/-- Raising a record's maximum target is a change of targets only. -/
theorem FlowOnly.maxTarget (s : State) (r : RotorId) (g : Tag) (v : Nat) :
    FlowOnly s (s.updView r g fun w => { w with maxTarget := max w.maxTarget v }) := by
  refine ⟨?_, rfl⟩
  have : (s.queue.map fun q => if q.tag == g then q.updView r fun w => { w with maxTarget := max w.maxTarget v } else q).map
      Record.withoutTargets = s.queue.map Record.withoutTargets := by
    rw [List.map_map]
    refine List.map_congr_left fun q _ => ?_
    simp only [Function.comp_apply]
    by_cases h : (q.tag == g) = true
    · rw [if_pos h]; cases r <;> rfl
    · rw [if_neg h]
  simp only [State.withoutFlow, State.updView, State.updRecord, State.mapQueue, this]

theorem FlowOnly.deliver (s : State) (a : ArmId) (q : Record) (deadBand v : Nat) (forced : Bool) (cls : FlowClass) :
    FlowOnly s (s.deliver a q deadBand v forced cls) := by
  unfold State.deliver
  dsimp only
  by_cases h : ((s.arm a).isLifting || dropped deadBand (s.arm a).aim v forced) = true
  · rw [if_pos h]; exact .refl s
  · rw [if_neg h]
    exact ((FlowOnly.updArm s a _).trans (.maxTarget _ _ _ _)).trans (.actOnTarget _ a v cls)

theorem FlowOnly.recompute (s : State) (forced : Bool) (k : RecomputeClass) (a : ArmId) :
    FlowOnly s (s.recompute forced k a) := by
  unfold State.recompute
  by_cases h : (s.arm a).state = .engaged
  · rw [if_pos h]
    cases (s.arm a).tag.bind s.record? with
    | none => exact .refl s
    | some q =>
      dsimp only
      cases q.row with
      | none => exact .refl s
      | some row =>
        cases s.targetFor a q with
        | none => exact .refl s
        | some v => exact .deliver s a q _ v forced _
  · rw [if_neg h]; exact .refl s

theorem FlowOnly.recomputeAll (s : State) (as : List ArmId) (forced : Bool) (k : RecomputeClass) :
    FlowOnly s (s.recomputeAll as forced k) :=
  FlowOnly.foldl (fun s a => .recompute s forced k a) as s

/-! ### The Arm Controllers -/

theorem FlowOnly.toStandby (s : State) (a : ArmId) : FlowOnly s (s.toStandby a) := by
  unfold State.toStandby
  cases (s.arm a).state with
  | parked => exact .refl s
  | out => exact .refl s
  | _ => exact (FlowOnly.vent s a _).trans (.updArm _ a _)

theorem FlowOnly.park (s : State) (a : ArmId) : FlowOnly s (s.park a) := by
  unfold State.park
  by_cases h : (s.arm a).state = .standby
  · rw [if_pos h]; exact .updArm s a _
  · rw [if_neg h]; exact .refl s

theorem FlowOnly.newRelease (s : State) (a : ArmId) : FlowOnly s (s.newRelease a) := by
  unfold State.newRelease
  by_cases h : (s.arm a).state = .standby
  · rw [if_pos h]; exact (FlowOnly.vent s a _).trans (.updArm _ a _)
  · rw [if_neg h]; exact .refl s

theorem FlowOnly.newLift (s : State) (a : ArmId) (aperture : Nat) (wake : Bool) :
    FlowOnly s (s.newLift a aperture wake) := by
  unfold State.newLift
  by_cases h : s.ventHeld a
  · rw [if_pos h]; exact .updArm s a _
  · rw [if_neg h]; exact .enterRequest s a _

theorem FlowOnly.startLift (s : State) (a : ArmId) (aperture : Nat) (t : Option Tag) (wake : Bool) :
    FlowOnly s ((s.updArm a fun c => c.startLift aperture t).newLift a aperture wake) :=
  (FlowOnly.updArm s a _).trans (.newLift _ a aperture wake)

theorem FlowOnly.relift (s : State) (aperture : Nat) (t : Option Tag) (a : ArmId) : FlowOnly s (s.relift aperture t a) := by
  unfold State.relift
  cases (s.arm a).flow with
  | waiting q => exact .updArm s a _
  | inFlight q granted timeout =>
    dsimp only
    by_cases h : q.value = aperture
    · rw [if_pos h]; exact .updArm s a _
    · rw [if_neg h]; exact .updArm s a _
  | deferred p w => exact .updArm s a _
  | idle => exact .startLift s a aperture t false

theorem FlowOnly.liftEngaged (s : State) (aperture : Nat) (t : Option Tag) (a : ArmId) :
    FlowOnly s (s.liftEngaged aperture t a) := by
  unfold State.liftEngaged
  cases (s.arm a).flow with
  | waiting q => exact (FlowOnly.updArm s a _).trans (.replaceRequest _ a q _)
  | inFlight q granted timeout => exact (FlowOnly.leaveFlow s a).trans (.startLift _ a aperture t false)
  | deferred p w => exact .startLift s a aperture t false
  | idle => exact .startLift s a aperture t false

theorem FlowOnly.liftInService (s : State) (aperture : Nat) (t : Option Tag) (a : ArmId) :
    FlowOnly s (s.liftInService aperture t a) := by
  unfold State.liftInService
  cases (s.arm a).state with
  | out => exact .refl s
  | parked => exact .startLift s a aperture t true
  | engaged => exact .liftEngaged s aperture t a
  | lifting => exact .relift s aperture t a
  | opened =>
    dsimp only
    by_cases h : (s.arm a).aperture = aperture
    · rw [if_pos h]; exact .updArm s a _
    · rw [if_neg h]; exact .startLift s a aperture t false
  | _ => exact .startLift s a aperture t false

theorem FlowOnly.beginHold (s : State) (a : ArmId) : FlowOnly s (s.beginHold a) := by
  unfold State.beginHold
  cases (s.arm a).state with
  | parked => exact .refl s
  | out => exact .refl s
  | _ => exact (FlowOnly.vent s a _).trans (.updArm _ a _)

theorem FlowOnly.endHold (s : State) (a : ArmId) : FlowOnly s (s.endHold a) := by
  unfold State.endHold
  cases (s.arm a).flow with
  | deferred p w => exact .enterRequest s a _
  | _ => exact .recompute s true .byPhase a

end Sys2Proof.Machine
end

