-- ==== Sys2Proof/Laws/Image.lean ====
section
/-! SUPPORT. Where the published fields stand in frames 240 to 250: no two share a byte, so a part whose image stands shows each of
them whole at its address. -/

namespace Sys2Proof.Machine

/-- The address of a field and its number of bytes. -/
def Field.shape (x : Field) : Nat × Nat := (x.1, x.2.length)

/-- Two runs of bytes have no byte in common. -/
def apart (x y : Nat × Nat) : Prop := x.1 + x.2 ≤ y.1 ∨ y.1 + y.2 ≤ x.1

/-- The byte a field puts at a place, when the fields share no byte. -/
theorem packBytes_field {n : Nat} {fs : List (Nat × List Byte)} (hd : (fs.map Field.shape).Pairwise apart) {x : Nat × List Byte}
    (hx : x ∈ fs) {k : Nat} (hk : k < x.2.length) (hn : x.1 + k < n) : (packBytes n fs)[x.1 + k]'(by simp [packBytes]; omega) = x.2[k] := by
  have hf : (fs.find? fun f => decide (f.1 ≤ x.1 + k ∧ x.1 + k < f.1 + f.2.length)) = some x := by
    induction fs with
    | nil => cases hx
    | cons y fs ih =>
      rw [List.map_cons, List.pairwise_cons] at hd
      rcases List.mem_cons.1 hx with rfl | hm
      · rw [List.find?_cons_of_pos]; simp; omega
      · have ha := hd.1 _ (List.mem_map_of_mem (f := Field.shape) hm)
        unfold apart Field.shape at ha
        rw [List.find?_cons_of_neg (by simp only [decide_eq_true_eq]; omega)]
        exact ih hd.2 hm
  simp only [packBytes, List.getElem_map, List.getElem_range]
  rw [hf]
  simp [List.getD, hk]

theorem shape_placeFields {entries : List (List Byte)} {size : Nat} (h : ∀ e ∈ entries, e.length = size) (count base : Nat) :
    (placeFields entries size count base).map Field.shape = (List.range count).map fun k => (base + size * k, size) := by
  unfold placeFields
  rw [List.map_map]
  exact List.map_congr_left fun k _ => by simp [Field.shape, length_placeBytes h]

theorem shape_recordPart (s : State) {part : Record → List Byte} {size : Nat} (h : ∀ q, (part q).length = size) (offset : Nat) :
    (s.recordPart part size offset).map Field.shape = (List.range 6).map fun k => (8 + 40 * k + offset, size) := by
  unfold State.recordPart
  rw [List.map_map]
  refine List.map_congr_left fun k _ => ?_
  have : (placeBytes (s.queue.map part) size k).length = size := length_placeBytes (by simpa using fun q _ => h q) k
  simp [Field.shape, this]

theorem shape_atFrame (f : Nat) (fs : List Field) :
    (atFrame f fs).map Field.shape = (fs.map Field.shape).map fun x => (frameAddr f x.1, x.2) := by
  simp [atFrame, Field.shape]

/-- The places of the status frame's fields. -/
def statusShapes : List (Nat × Nat) :=
  [(0, 4), (4, 4), (8, 2), (10, 1), (11, 1), (12, 1), (13, 1), (14, 2), (16, 1), (17, 1), (18, 1), (19, 1), (20, 1), (21, 1)]
    ++ ((List.range 4).map fun k => (22 + 1 * k, 1))
    ++ [(26, 2), (28, 2), (30, 2), (32, 2), (34, 2), (36, 2), (38, 2)]
    ++ [(40, 1), (41, 1), (42, 2), (44, 2), (46, 2), (48, 1), (49, 1), (50, 1), (52, 1), (53, 1), (54, 1), (55, 1), (56, 1),
        (57, 1), (58, 1), (59, 1)]
    ++ ((List.range 4).map fun k => (60 + 2 * k, 2))
    ++ [(68, 1), (69, 1)]
    ++ ((List.range 10).map fun k => (70 + 2 * k, 2))
    ++ [(90, 1), (91, 1), (92, 1), (93, 1), (94, 1), (95, 1), (96, 1), (97, 1), (98, 1)]

theorem shape_statusFields (s : State) : s.statusFields.map Field.shape = statusShapes := by
  unfold State.statusFields State.statusFieldsA State.statusFieldsB State.statusFieldsC State.rotorFields statusShapes
  simp only [List.map_append, List.map_cons, List.map_nil]
  rw [shape_placeFields (entries := s.manifest.staged.map fun e => byteN e.frame) (by simp),
    shape_placeFields (entries := s.arbiter.inFlight.map fun a => s.flowEntry a false) (by simp),
    shape_placeFields (entries := s.arbiter.wait.map fun e => s.flowEntry e.arm e.elevated) (by simp)]
  simp [Field.shape]

/-- The places of all published fields. -/
def groupShapes : List (Nat × Nat) :=
  statusShapes.map (fun x => (frameAddr 240 x.1, x.2))
    ++ [(0, 1), (1, 1), (2, 1), (3, 1), (4, 1), (5, 1)].map (fun x => (frameAddr 241 x.1, x.2))
    ++ ((List.range 6).map fun k => (frameAddr 241 (8 + 40 * k + 0), 20))
    ++ ((List.range 6).map fun k => (frameAddr 241 (8 + 40 * k + 20), 7))
    ++ ((List.range 6).map fun k => (frameAddr 241 (8 + 40 * k + 28), 7))
    ++ [(frameAddr 242 0, 1), (frameAddr 242 1, 1)]
    ++ (allArms.map fun a => (frameAddr 242 (16 + 24 * (armCode a - 1)), 18))
    ++ ((List.range 32).map fun k => (imageAddr k, 48))

theorem flatten_singletons (fs : List Field) : (fs.map fun x => [x]).flatten = fs := by
  induction fs with
  | nil => rfl
  | cons x fs ih => simp [ih]

theorem shape_groups (s : State) : s.groups.flatten.map Field.shape = groupShapes := by
  unfold State.groups groupShapes
  simp only [List.flatten_append, flatten_singletons, List.map_append, shape_atFrame, shape_statusFields]
  have hr : ([atFrame 241 s.recordFields].flatten).map Field.shape =
      ((List.range 6).map fun k => (frameAddr 241 (8 + 40 * k + 0), 20))
        ++ ((List.range 6).map fun k => (frameAddr 241 (8 + 40 * k + 20), 7))
        ++ ((List.range 6).map fun k => (frameAddr 241 (8 + 40 * k + 28), 7)) := by
    simp only [List.flatten_cons, List.flatten_nil, List.append_nil, shape_atFrame, State.recordFields, List.map_append]
    rw [shape_recordPart s (part := Record.headBytes) (by simp), shape_recordPart s (part := fun q => q.view1.bytes) (by simp),
      shape_recordPart s (part := fun q => q.view2.bytes) (by simp)]
    simp only [List.map_map, Function.comp_def]
  have hh : s.transitHeader.map Field.shape = [(0, 1), (1, 1), (2, 1), (3, 1), (4, 1), (5, 1)] := by
    simp [State.transitHeader, Field.shape]
  have ha : s.armFields.map Field.shape = [(0, 1), (1, 1)] ++ allArms.map fun a => (16 + 24 * (armCode a - 1), 18) := by
    unfold State.armFields
    simp [Field.shape, Function.comp_def]
  have hk : (((List.range 32).map fun k => [(imageAddr k, (s.row k).fieldBytes)]).flatten).map Field.shape =
      (List.range 32).map fun k => (imageAddr k, 48) := by
    have : ((List.range 32).map fun k => [((imageAddr k, (s.row k).fieldBytes) : Field)]) =
        (((List.range 32).map fun k => ((imageAddr k, (s.row k).fieldBytes) : Field)).map fun x => [x]) := by
      rw [List.map_map]; rfl
    rw [this, flatten_singletons, List.map_map]
    exact List.map_congr_left fun k _ => by simp [Field.shape]
  rw [hr, hh, ha, hk]
  simp only [List.map_append, List.map_cons, List.map_nil, List.map_map, Function.comp_def, List.append_assoc]

/-- No two published fields share a byte. -/
theorem groups_apart (s : State) : (s.groups.flatten.map Field.shape).Pairwise apart := by
  rw [shape_groups]
  unfold apart
  decide +kernel

/-- A part whose image stands shows each published field whole at its address (R205, R207). -/
theorem imageStands_field {s : State} (h : s.imageStands) {x : Field} (hx : x ∈ s.groups.flatten) :
    s.ram.readBytes x.1 x.2.length = x.2 := by
  have pub : ∀ y ∈ s.groups.flatten, Field.published y := by
    intro y hy
    obtain ⟨g, hg, hm⟩ := List.mem_flatten.1 hy
    exact groups_published s g hg y hm
  let moved : Field → Field := fun y => (y.1 - frameAddr 240 0, y.2)
  have hd : ((s.groups.flatten.map moved).map Field.shape).Pairwise apart := by
    have h0 := groups_apart s
    rw [List.pairwise_map] at h0
    rw [List.map_map, List.pairwise_map]
    refine List.Pairwise.imp_of_mem ?_ h0
    intro a b ha hb hab
    have pa := (pub a ha).1
    have pb := (pub b hb).1
    simp only [apart, Field.shape, Function.comp_apply, moved] at hab ⊢
    omega
  have hx' : moved x ∈ s.groups.flatten.map moved := List.mem_map_of_mem hx
  obtain ⟨p1, p2⟩ := pub x hx
  apply List.ext_getElem (by simp)
  intro k h1 h2
  rw [Memory.length_readBytes] at h1
  have hn : (moved x).1 + k < 11 * 256 := by
    simp only [moved, frameAddr] at p1 p2 ⊢
    omega
  have hp := packBytes_field hd hx' (k := k) h1 hn
  have hi : s.ram.readBytes (frameAddr 240 0) (11 * 256) = packBytes (11 * 256) (s.groups.flatten.map moved) := h
  have hl : (moved x).1 + k < (s.ram.readBytes (frameAddr 240 0) (11 * 256)).length := by simpa using hn
  have hr : (s.ram.readBytes (frameAddr 240 0) (11 * 256))[(moved x).1 + k] = x.2[k] := by
    rw [← hp]
    exact List.getElem_of_eq hi hl
  rw [Memory.getElem_readBytes] at hr
  rw [Memory.getElem_readBytes, ← hr]
  have : x.1 + k = frameAddr 240 0 + (x.1 - frameAddr 240 0 + k) := by omega
  exact congrArg s.ram.read this

end Sys2Proof.Machine
end

