-- ==== Sys2Proof/Laws/Link.lean ====
section
/-! SUPPORT. What the commands of the configuration memory do (R192): a write puts its bytes from its address on, a read returns the bytes
of successive addresses, and the stored image is what page reads return. -/

namespace Sys2Proof.Machine

/-! ### Runs of bytes -/

theorem Memory.readBytes_add (m : Memory) (a n k : Nat) : m.readBytes a (n + k) = m.readBytes a n ++ m.readBytes (a + n) k := by
  induction n generalizing a with
  | zero => simp
  | succ n ih =>
    rw [Nat.succ_add, Memory.readBytes_succ, Memory.readBytes_succ, ih, List.cons_append, Nat.add_assoc, Nat.add_comm 1 n]

theorem bytesWord_readBytes (m : Memory) (a n k : Nat) (h : k + 1 < n) : bytesWord (m.readBytes a n) k = m.word (a + k) := by
  have h0 : k < (m.readBytes a n).length := by rw [Memory.length_readBytes]; omega
  have h1 : k + 1 < (m.readBytes a n).length := by rw [Memory.length_readBytes]; omega
  simp only [bytesWord, Memory.word, List.getD_eq_getElem?_getD, List.getElem?_eq_getElem h0, List.getElem?_eq_getElem h1,
    Option.getD_some, Memory.getElem_readBytes, Nat.add_assoc]

@[simp] theorem applyWorn_nil (bs : List Byte) : applyWorn bs [] = bs := rfl

@[simp] theorem length_applyWorn (bs : List Byte) (worn : List (Nat × Byte)) : (applyWorn bs worn).length = bs.length := by
  unfold applyWorn
  induction worn generalizing bs with
  | nil => rfl
  | cons c worn ih => rw [List.foldl_cons, ih, List.length_set]

/-! ### One command -/

/-- The address that is sent is the address the memory takes. -/
theorem address_sent {a : Nat} (h : a < 65536) : 256 * (BitVec.ofNat 8 (a / 256)).toNat + (BitVec.ofNat 8 a).toNat = a := by
  simp only [BitVec.toNat_ofNat]; omega

@[simp] theorem Memory.took_statusRead (worn : List (Nat × Byte)) (m : Memory) : m.took worn MemoryCommand.statusRead.sent = m := rfl

@[simp] theorem Memory.took_writeEnable (worn : List (Nat × Byte)) (m : Memory) :
    m.took worn MemoryCommand.writeEnable.sent = m := rfl

@[simp] theorem Memory.took_read (worn : List (Nat × Byte)) (m : Memory) (a : Nat) :
    m.took worn (MemoryCommand.read a).sent = m := rfl

theorem Memory.took_write (worn : List (Nat × Byte)) (m : Memory) {a : Nat} (h : a < 65536) (bs : List Byte) :
    m.took worn (MemoryCommand.write a bs).sent = m.writeBytes a (applyWorn bs worn) := by
  simp only [MemoryCommand.sent, addressBytes, List.cons_append, List.nil_append, Memory.took, if_true, address_sent h]

theorem Memory.returned_read (m : Memory) {a : Nat} (h : a < 65536) (n : Nat) :
    m.returned (MemoryCommand.read a).sent n = m.readBytes a n := by
  simp only [MemoryCommand.sent, addressBytes, Memory.returned, if_true, address_sent h]

/-! ### What the controller's commands do -/

theorem sendAll_write (s : State) (worn : List (Nat × Byte)) {a : Nat} (h : a < 65536) (bs : List Byte) :
    s.sendAll worn (writeCommands a bs) = { s with eeprom := s.eeprom.writeBytes a (applyWorn bs worn) } := by
  simp only [State.sendAll, writeCommands, List.foldl_cons, List.foldl_nil, Memory.took_writeEnable, Memory.took_write _ _ h,
    Memory.took_statusRead]

theorem sendAll_read (s : State) (worn : List (Nat × Byte)) (a : Nat) : s.sendAll worn [.read a] = s := by
  simp only [State.sendAll, List.foldl_cons, List.foldl_nil, Memory.took_read]

theorem readMemory_eq (s : State) {a : Nat} (h : a < 65536) (n : Nat) : s.readMemory a n = s.eeprom.readBytes a n :=
  Memory.returned_read s.eeprom h n

/-- Sending commands changes the configuration memory only, and keeps its canonical form. -/
theorem sendAll_fields (s : State) (worn : List (Nat × Byte)) (cs : List MemoryCommand) :
    { s.sendAll worn cs with eeprom := s.eeprom } = s := rfl

theorem Memory.wf_took {m : Memory} (worn : List (Nat × Byte)) (sent : List Byte) (h : m.wf) : (m.took worn sent).wf := by
  unfold Memory.took
  split
  · split
    · exact Memory.wf_writeBytes _ _ h
    · exact h
  · exact h

theorem sendAll_wf {s : State} (worn : List (Nat × Byte)) (cs : List MemoryCommand) (h : s.eeprom.wf) :
    (s.sendAll worn cs).eeprom.wf := by
  have : ∀ (cs : List MemoryCommand) (m : Memory), m.wf → (cs.foldl (fun m c => m.took worn c.sent) m).wf := by
    intro cs
    induction cs with
    | nil => exact fun _ h => h
    | cons c cs ih => exact fun m h => ih _ (Memory.wf_took worn c.sent h)
  exact this cs s.eeprom h

/-! ### The stored image -/

theorem storedPage_eq (s : State) {k : Nat} (h : k < 1024) : s.storedPage k = s.eeprom.readBytes (64 * k) 64 :=
  readMemory_eq s (by unfold pageSize; omega) pageSize

theorem storedHeader_word (s : State) {k : Nat} (h : k + 1 < 64) : bytesWord (s.storedPage 0) k = s.eeprom.word k := by
  rw [storedPage_eq s (by decide), bytesWord_readBytes _ _ _ _ h]; simp

theorem storedSum_eq (s : State) : s.storedSum = sumWords (s.eeprom.readBytes 64 2176) := by
  have h : ∀ n, n ≤ 34 → ((List.range n).flatMap fun k => s.storedPage (k + 1)) = s.eeprom.readBytes 64 (64 * n) := by
    intro n
    induction n with
    | zero => intro _; rfl
    | succ n ih =>
      intro hn
      rw [List.range_succ, List.flatMap_append, ih (by omega), Nat.mul_succ, Memory.readBytes_add]
      simp only [List.flatMap_cons, List.flatMap_nil, List.append_nil]
      rw [storedPage_eq s (by omega), Nat.mul_succ, Nat.add_comm (64 * n) 64]
  unfold State.storedSum
  rw [h 34 (by decide)]

theorem storedRow_eq (s : State) {k : Nat} (h : k < 1000) :
    s.storedRow k = .ofBytes (s.eeprom.readBytes (64 * (k + 3)) 64) := by
  unfold State.storedRow
  rw [storedPage_eq s (by omega)]

theorem storedGeometry_eq (s : State) : s.storedGeometry = .ofWords fun k => s.eeprom.word (64 + 2 * k) := by
  have h : s.storedPage 1 ++ s.storedPage 2 = s.eeprom.readBytes 64 128 := by
    rw [storedPage_eq s (by decide), storedPage_eq s (by decide)]
    exact (Memory.readBytes_add s.eeprom 64 64 64).symm
  have w : ∀ k, k < 63 → bytesWord (s.storedPage 1 ++ s.storedPage 2) (2 * k) = s.eeprom.word (64 + 2 * k) := by
    intro k hk
    rw [h, bytesWord_readBytes _ _ _ _ (by omega)]
  unfold State.storedGeometry Geometry.ofWords
  simp (discharger := decide) only [w]

end Sys2Proof.Machine
end

