-- ==== Sys2Proof/Laws/Marks.lean ====
section
/-! SUPPORT. What arming a mark does, ahead of the peak and at a point already reached (R11, R12), and what a mark that fires, with the
chain of marks it arms, can change. -/

namespace Sys2Proof.Machine

/-! ### Arming -/

theorem armMark_ahead (n : Nat) {s : State} {c : Client} {t : Tag} {p : MarkPurpose} {x : Pos} (h : reached s.feed.peak x = false) :
    State.armMark n s c t p x = s.placeMark c t p x := by
  cases n with
  | zero => rfl
  | succ n =>
    rw [State.armMark]
    dsimp only
    rw [if_neg (by simp [h])]

theorem armMark_reached (n : Nat) {s : State} {c : Client} {t : Tag} {p : MarkPurpose} {x : Pos} {q : Record}
    (h : reached s.feed.peak x = true) (hq : s.record? t = some q) :
    State.armMark (n + 1) s c t p x = s.fireMark (State.armMark n) c q ⟨p, x⟩ := by
  rw [State.armMark]
  dsimp only
  rw [if_pos h, hq]

theorem arming_ahead {s : State} {c : Client} {t : Tag} {p : MarkPurpose} {x : Pos} (h : reached s.feed.peak x = false) :
    State.arming s c t p x = s.placeMark c t p x := armMark_ahead _ h

/-- With no mark due, firing the marks changes nothing. -/
theorem fireMarks_of_none (n : Nat) {s : State} (h : s.dueMark = none) : State.fireMarks n s = s := by
  cases n with
  | zero => rfl
  | succ n => rw [State.fireMarks, h]

/-- A part with no record has no mark due. -/
theorem dueMark_of_empty {s : State} (h : s.queue = []) : s.dueMark = none := by
  unfold State.dueMark State.dueMarksOf
  rw [h]; rfl

theorem MarkRow.get_set (x : MarkRow) (t u : Tag) (m : Option Mark) : (x.set t m).get u = if t = u then m else x.get u := by
  fin_cases t <;> fin_cases u <;> rfl

theorem MarkTable.get_set (x : MarkTable) (c d : Client) (t u : Tag) (m : Option Mark) :
    (x.set c t m).get d u = if c = d ∧ t = u then m else x.get d u := by
  cases c <;> cases d <;> simp [MarkTable.set, MarkTable.get, MarkRow.get_set]

/-! ### What stays while a rotor's marks fire -/

/-- A record without what the rotors keep in it: its two views and the flags STALL and ROTOR_DOWN. -/
def Record.core (q : Record) : Record :=
  { q with view1 := ⟨.approach, false, false, 0, 0, 0, none, 0⟩, view2 := ⟨.approach, false, false, 0, 0, 0, none, 0⟩
           stall := false, rotorDown := false }

/-- `u` with what a rotor's marks may touch taken from `s`: the marks, the records, the arms, the arbiter's lists, the park and
protection timers, the hold causes and the causes. -/
def rotorOverlaid (s u : State) : State :=
  { u with
    feed := { u.feed with marks := s.feed.marks }
    queue := s.queue
    arms := s.arms
    arbiter := { u.arbiter with inFlight := s.arbiter.inFlight, wait := s.arbiter.wait }
    rotor1 := { u.rotor1 with park := s.rotor1.park, protection := s.rotor1.protection }
    rotor2 := { u.rotor2 with park := s.rotor2.park, protection := s.rotor2.protection }
    holds := s.holds
    cause := s.cause }

/-- A raised cause keeps every pending one. -/
theorem pendingCause_raise (s : State) (d c : Cause) (h : s.pendingCause c = true) : (s.raise d).pendingCause c = true := by
  unfold State.pendingCause State.raise at *
  rw [BitVec.getLsbD_or, h, Bool.true_or]

/-- From `s` to `t` nothing else differs, of the records only what the rotors keep in them, and causes are only raised. -/
def Worked (s t : State) : Prop :=
  rotorOverlaid s t = s ∧ t.queue.map Record.core = s.queue.map Record.core
    ∧ ∀ c, s.pendingCause c = true → t.pendingCause c = true

theorem Worked.refl (s : State) : Worked s s := ⟨rfl, rfl, fun _ h => h⟩

theorem Worked.trans {s t u : State} (h : Worked s t) (k : Worked t u) : Worked s u :=
  ⟨(congrArg (rotorOverlaid s) k.1).trans h.1, k.2.1.trans h.2.1, fun c hc => k.2.2 c (h.2.2 c hc)⟩

/-- The record of a tag keeps all but what the rotors keep in it. -/
theorem Worked.record {s t : State} (h : Worked s t) (x : Tag) : (t.record? x).map Record.core = (s.record? x).map Record.core := by
  have k : ∀ u : State, (u.record? x).map Record.core = (u.queue.map Record.core).find? fun q => q.tag == x := by
    intro u
    rw [List.find?_map]
    rfl
  rw [k, k, h.2.1]

theorem Worked.of_flowOnly {s t : State} (h : FlowOnly s t) : Worked s t := by
  constructor
  · have k : rotorOverlaid s { t.withoutFlow with ram := s.ram } = rotorOverlaid s { s.withoutFlow with ram := s.ram } := by rw [h.1]
    rw [← h.2] at k
    have e : rotorOverlaid s { s.withoutFlow with ram := t.ram } = { s with ram := t.ram } := rfl
    rw [e, h.2] at k
    rw [← h.2] at k
    exact k.trans (by rw [h.2])
  · have k : t.queue.map Record.withoutTargets = s.queue.map Record.withoutTargets := by
      have k := congrArg State.queue h.1; exact k
    have e : ∀ l : List Record, (l.map Record.withoutTargets).map Record.core = l.map Record.core := by
      intro l; rw [List.map_map]; rfl
    refine ⟨by rw [← e t.queue, ← e s.queue, k], fun c hc => ?_⟩
    have k : t.cause = s.cause := by have k := congrArg State.cause h.1; exact k
    unfold State.pendingCause at *
    rw [k]
    exact hc

theorem Worked.foldl {α : Type} {f : State → α → State} (h : ∀ s x, Worked s (f s x)) (xs : List α) (s : State) :
    Worked s (xs.foldl f s) := by
  induction xs generalizing s with
  | nil => exact .refl s
  | cons x xs ih => exact (h s x).trans (ih _)

theorem Worked.mapQueue (s : State) {f : Record → Record} (h : ∀ q, (f q).core = q.core) : Worked s (s.mapQueue f) := by
  refine ⟨rfl, ?_, fun _ h => h⟩
  change (s.queue.map f).map Record.core = _
  rw [List.map_map]
  exact List.map_congr_left fun q _ => h q

theorem core_updView (q : Record) (r : RotorId) (f : RotorView → RotorView) : (q.updView r f).core = q.core := by
  cases r <;> rfl

theorem Worked.updView (s : State) (r : RotorId) (t : Tag) (f : RotorView → RotorView) : Worked s (s.updView r t f) :=
  .mapQueue s fun q => by
    split
    · exact core_updView q r f
    · rfl

theorem Worked.setMark (s : State) (c : Client) (t : Tag) (m : Option Mark) : Worked s (s.setMark c t m) := ⟨rfl, rfl, fun _ h => h⟩
theorem Worked.updArm (s : State) (a : ArmId) (f : Arm → Arm) : Worked s (s.updArm a f) := ⟨rfl, rfl, fun _ h => h⟩
theorem Worked.stopPark (s : State) (r : RotorId) : Worked s (s.stopPark r) := by cases r <;> exact ⟨rfl, rfl, fun _ h => h⟩
theorem Worked.startPark (s : State) (r : RotorId) : Worked s (s.startPark r) := by cases r <;> exact ⟨rfl, rfl, fun _ h => h⟩
theorem Worked.arbitrate (s : State) : Worked s s.arbitrate := .of_flowOnly (.arbitrate s)

theorem Worked.recomputeAll (s : State) (as : List ArmId) (forced : Bool) (k : RecomputeClass) :
    Worked s (s.recomputeAll as forced k) := .of_flowOnly (.recomputeAll s as forced k)

theorem Worked.countChanged (s : State) (r : RotorId) (old : Nat) : Worked s (s.countChanged r old) := by
  have h : ∀ s : State, Worked s (s.judgeUsability r old) := by
    intro s
    unfold State.judgeUsability
    dsimp only
    split
    · exact .refl s
    · exact ⟨rfl, rfl, fun c hc => pendingCause_raise _ _ c hc⟩
  exact ((Worked.mapQueue s fun q => core_updView q r _).trans (h _)).trans (.recomputeAll _ _ _ _)

theorem Worked.returnForLift (s : State) (a : ArmId) : Worked s (s.returnForLift a) :=
  (Worked.updArm s a _).trans (.countChanged _ _ _)

theorem Worked.askLift (aperture : Nat) (t : Option Tag) (s : State) (a : ArmId) : Worked s (s.askLift aperture t a) := by
  unfold State.askLift
  split
  · split
    · exact (Worked.returnForLift s a).trans (.of_flowOnly (.liftInService _ _ _ _))
    · exact .refl s
  · exact .of_flowOnly (.liftInService _ _ _ _)

theorem Worked.askLifts (s : State) (r : RotorId) (aperture : Nat) (t : Option Tag) : Worked s (s.askLifts r aperture t) :=
  .foldl (.askLift aperture t) _ s

theorem Worked.returnToStandby (s : State) (a : ArmId) : Worked s (s.returnToStandby a) :=
  ((Worked.updArm s a _).trans (.of_flowOnly (.toStandby _ a))).trans (.countChanged _ _ _)

theorem Worked.standbyRotor (s : State) (r : RotorId) (which : ArmState → Bool) : Worked s (s.standbyRotor r which) := by
  have h : ∀ s a, Worked s (s.idleStandby which a) := by
    intro s a
    unfold State.idleStandby
    split
    · split
      · exact .returnToStandby s a
      · exact .refl s
    · split
      · exact .of_flowOnly (.toStandby s a)
      · exact .refl s
  exact (Worked.foldl h _ s).trans (.startPark _ r)

/-! ### What a client does with its mark, whatever arms the next one -/

/-- An arming that, for a rotor, keeps what its marks keep. -/
def Arming.works (arm : Arming) : Prop := ∀ s r t p x, Worked s (arm s (clientOf r) t p x)

section
variable {arm : Arming} (h : arm.works)
include h

theorem Worked.armFirst (s : State) (r : RotorId) (q : Record) : Worked s (s.armFirst arm r q) := by
  unfold State.armFirst
  split <;> exact h _ _ _ _ _

theorem Worked.armNearest (s : State) (r : RotorId) (q : Record) : Worked s (s.armNearest arm r q) := by
  unfold State.armNearest
  split
  · exact h _ _ _ _ _
  · split
    · exact h _ _ _ _ _
    · exact .setMark s _ _ _

theorem Worked.rearmBody (s : State) (r : RotorId) (t : Tag) : Worked s (s.rearmBody arm r t) := by
  unfold State.rearmBody
  split
  · exact .armNearest h _ _ _
  · exact .refl s

theorem Worked.takeLift (s : State) (r : RotorId) (q : Record) : Worked s (s.takeLift arm r q) :=
  (((Worked.stopPark s r).trans (.askLifts _ r _ _)).trans (.updView _ _ _ _)).trans (.armFirst h _ r q)

theorem Worked.liftBehindStub (s : State) (r : RotorId) (q : Record) : Worked s (s.liftBehindStub arm r q) := by
  have k : ∀ m s a, Worked s (State.askLiftBehindStub m (some q.tag) s a) := by
    intro m s a
    unfold State.askLiftBehindStub
    split
    · exact .refl s
    · exact .refl s
    · exact .askLift _ _ s a
  exact (((Worked.stopPark s r).trans (.foldl (k _) _ _)).trans (.updView _ _ _ _)).trans (.armFirst h _ r q)

theorem Worked.onEntry (s : State) (r : RotorId) (q : Record) : Worked s (s.onEntry arm r q) := by
  have flagged : ∀ x : Record, (if x.tag == q.tag then (s.flagEntry r x).updView r fun w =>
      { w with phase := .entry, lateLifts := min (w.lateLifts + s.lateCount r) 255 } else x).core = x.core := by
    intro x
    split
    · rw [core_updView]; rfl
    · rfl
  have k : ∀ s a, Worked s (State.enterArm q s a) := by
    intro s a
    unfold State.enterArm
    split
    · exact .updArm s a _
    · exact .refl s
    · exact (Worked.of_flowOnly (.vent s a 0)).trans (.updArm _ a _)
  have e : ∀ s : State, Worked s (s.armAfterEntry arm r q) := by
    intro s
    unfold State.armAfterEntry
    split <;> exact h _ _ _ _ _
  exact ((((Worked.mapQueue s flagged).trans (.foldl k _ _)).trans (.recomputeAll _ _ _ _)).trans (e _)).trans (.arbitrate _)

theorem Worked.onRampEnd (s : State) (r : RotorId) (q : Record) : Worked s (s.onRampEnd arm r q) :=
  (((Worked.updView s r _ _).trans (.recomputeAll _ _ _ _)).trans (.rearmBody h _ r _)).trans (.arbitrate _)

theorem Worked.onSection (s : State) (r : RotorId) (q : Record) (p : Pos) : Worked s (s.onSection arm r q p) :=
  (((Worked.updView s r _ _).trans (.recomputeAll _ _ _ _)).trans (.rearmBody h _ r _)).trans (.arbitrate _)

theorem Worked.onRelease (s : State) (r : RotorId) (q : Record) : Worked s (s.onRelease arm r q) := by
  have e : ∀ s : State, Worked s (s.armTail arm r q) := by
    intro s
    unfold State.armTail
    split
    · exact h _ _ _ _ _
    · exact .refl s
  have k : ∀ s a, Worked s (State.releaseArm q.tag s a) := by
    intro s a
    unfold State.releaseArm
    split
    · exact (Worked.of_flowOnly (.vent s a _)).trans (.updArm _ a _)
    · exact .refl s
  unfold State.onRelease
  split
  · refine (Worked.trans ?_ (e _)).trans (.arbitrate _)
    exact (((Worked.updView s r _ _).trans (.updView _ r _ _)).trans (.askLifts _ r _ _)).trans (.updView _ _ _ _)
  · exact (((Worked.updView s r _ _).trans (.foldl k _ _)).trans (e _)).trans (.arbitrate _)

theorem Worked.takeUpNext (s : State) (r : RotorId) (b : Record) : Worked s (s.takeUpNext arm r b) := by
  have k : ∀ s a, Worked s (State.tailStandby s a) := by
    intro s a
    unfold State.tailStandby
    split
    · exact .of_flowOnly (.toStandby s a)
    · exact .refl s
  unfold State.takeUpNext
  split
  · exact .takeLift h s r b
  · exact .takeLift h s r b
  · exact .liftBehindStub h s r b
  · exact (Worked.foldl k _ s).trans (h _ _ _ _ _)
  · exact .armFirst h s r b

theorem Worked.onTail (s : State) (r : RotorId) (q : Record) : Worked s (s.onTail arm r q) := by
  unfold State.onTail
  dsimp only
  split
  · exact ((Worked.updView s r _ _).trans (.takeUpNext h _ r _)).trans (.arbitrate _)
  · exact ((Worked.updView s r _ _).trans (.standbyRotor _ r _)).trans (.arbitrate _)

theorem Worked.rotorMark (s : State) (r : RotorId) (q : Record) (m : Mark) : Worked s (s.rotorMark arm r q m) := by
  unfold State.rotorMark
  split
  · exact (Worked.takeLift h s r q).trans (.arbitrate _)
  · exact .onEntry h s r q
  · exact .onRampEnd h s r q
  · exact .onSection h s r q _
  · exact .onRelease h s r q
  · exact .onTail h s r q
  · exact .refl s
  · exact .refl s

end

/-- Arming a rotor's mark, with all that fires at once, changes no more than a rotor's marks do. -/
theorem works_armMark (n : Nat) : (State.armMark n).works := by
  induction n with
  | zero => intro s r t p x; exact .setMark s _ _ _
  | succ n ih =>
    intro s r t p x
    rw [State.armMark]
    dsimp only
    split
    · split
      · rename_i q _
        refine Worked.trans (t := s.setMark (clientOf r) q.tag none) (.setMark s _ _ none) ?_
        cases r
        · exact .rotorMark ih _ .r1 _ _
        · exact .rotorMark ih _ .r2 _ _
      · exact .setMark s _ _ _
    · exact .setMark s _ _ _

theorem works_arming : State.arming.works := works_armMark markFuel

/-! ### What stays while any mark fires -/

/-- `u` with what the firing of a mark may touch taken from `s`: what a rotor's marks may, the counters and the manifest RAM. -/
def overlaid (s u : State) : State :=
  { u with
    feed := { u.feed with marks := s.feed.marks }
    queue := s.queue
    arms := s.arms
    arbiter := { u.arbiter with inFlight := s.arbiter.inFlight, wait := s.arbiter.wait }
    rotor1 := { u.rotor1 with park := s.rotor1.park, protection := s.rotor1.protection }
    rotor2 := { u.rotor2 with park := s.rotor2.park, protection := s.rotor2.protection }
    holds := s.holds
    cause := s.cause
    counters := s.counters
    ram := s.ram }

/-- From `s` to `t` nothing else differs. -/
def Steady (s t : State) : Prop := overlaid s t = s

theorem Steady.refl (s : State) : Steady s s := rfl

theorem Steady.trans {s t u : State} (h : Steady s t) (k : Steady t u) : Steady s u :=
  (congrArg (overlaid s) k).trans h

theorem Steady.of_worked {s t : State} (h : Worked s t) : Steady s t := by
  have k := congrArg (overlaid s) h.1
  exact k

section
variable {s t : State} (h : Steady s t)
include h

theorem Steady.pending : t.pending = s.pending := by have k := congrArg State.pending h; exact k
theorem Steady.now : t.now = s.now := by have k := congrArg State.now h; exact k
theorem Steady.pins : t.pins = s.pins := by have k := congrArg State.pins h; exact k
theorem Steady.resetHeld : t.resetHeld = s.resetHeld := by have k := congrArg State.resetHeld h; exact k
theorem Steady.geometry : t.geometry = s.geometry := by have k := congrArg State.geometry h; exact k
theorem Steady.species : t.species = s.species := by have k := congrArg State.species h; exact k
theorem Steady.manifest : t.manifest = s.manifest := by have k := congrArg State.manifest h; exact k
theorem Steady.supply : t.supply = s.supply := by have k := congrArg State.supply h; exact k
theorem Steady.mode : t.mode = s.mode := by have k := congrArg State.mode h; exact k
theorem Steady.latch : t.latch = s.latch := by have k := congrArg State.latch h; exact k
theorem Steady.eeprom : t.eeprom = s.eeprom := by have k := congrArg State.eeprom h; exact k
theorem Steady.slots : t.arbiter.slots = s.arbiter.slots := by have k := congrArg (fun x => x.arbiter.slots) h; exact k
theorem Steady.feed : { t.feed with marks := s.feed.marks } = s.feed := by have k := congrArg State.feed h; exact k
theorem Steady.peak : t.feed.peak = s.feed.peak := by have k := congrArg (fun x => x.feed.peak) h; exact k
theorem Steady.drive (r : RotorId) : (t.rotor r).drive = (s.rotor r).drive := by
  cases r
  · have k := congrArg (fun x => x.rotor1.drive) h; exact k
  · have k := congrArg (fun x => x.rotor2.drive) h; exact k
end

theorem Steady.closeFrame (s : State) (f : Nat) (tag : Word) (res : Result) (detail : Nat) (fields : List (Nat × List Byte)) :
    Steady s (s.closeFrame f tag res detail fields) := by
  have k := congrArg (overlaid s) (closeFrame_fields s f tag res detail fields)
  exact k

theorem Steady.dropMarks (s : State) (t : Tag) : Steady s (s.dropMarks t) := rfl

theorem Steady.removeRecord (s : State) (t : Tag) : Steady s (s.removeRecord t) := by
  have h : Steady s ({ s with queue := s.queue.filter fun q => q.tag != t }.dropMarks t) := rfl
  unfold State.removeRecord
  dsimp only
  split
  · refine h.trans (t := { s with queue := s.queue.filter fun q => q.tag != t }.dropMarks t) ?_
    unfold State.putHold
    rfl
  · exact h

theorem Steady.closeRecord (s : State) (q : Record) (res : Result) (rep : ReportFields) :
    Steady s (s.closeRecord q res rep) := by
  unfold State.closeRecord
  dsimp only
  split
  · exact (Steady.closeFrame s _ _ _ _ _).trans (.removeRecord _ _)
  · exact .removeRecord s _

/-- A mark delivered to its client, whatever arms the next one. -/
theorem Steady.fireMark {arm : Arming} (hw : arm.works) (hs : ∀ s c t p x, Steady s (arm s c t p x)) (s : State) (c : Client)
    (q : Record) (m : Mark) : Steady s (s.fireMark arm c q m) := by
  refine Steady.trans (t := s.setMark c q.tag none) rfl ?_
  change Steady _ ((s.setMark c q.tag none).deliverMark arm c q m)
  unfold State.deliverMark
  split
  · exact .of_worked (.rotorMark hw _ .r1 q m)
  · exact .of_worked (.rotorMark hw _ .r2 q m)
  · unfold State.transitMark
    split
    · refine Steady.trans ?_ (hs _ _ _ _ _)
      rfl
    · exact .closeRecord _ q _ _
    · exact .refl _

/-- Arming a mark, with all that fires at once, changes no more than the firing of marks does. -/
theorem steady_armMark (n : Nat) (s : State) (c : Client) (t : Tag) (p : MarkPurpose) (x : Pos) :
    Steady s (State.armMark n s c t p x) := by
  induction n generalizing s c t p x with
  | zero => rfl
  | succ n ih =>
    rw [State.armMark]
    dsimp only
    split
    · split
      · exact .fireMark (works_armMark n) ih s c _ _
      · rfl
    · rfl

theorem steady_arming (s : State) (c : Client) (t : Tag) (p : MarkPurpose) (x : Pos) : Steady s (State.arming s c t p x) :=
  steady_armMark markFuel s c t p x

/-- So does firing all that the peak has reached. -/
theorem steady_fireMarks (n : Nat) (s : State) : Steady s (State.fireMarks n s) := by
  induction n generalizing s with
  | zero => exact .refl s
  | succ n ih =>
    rw [State.fireMarks]
    split
    · exact (Steady.fireMark works_arming steady_arming s _ _ _).trans (ih _)
    · exact .refl s

end Sys2Proof.Machine
end

