-- ==== Sys2Proof/WellFormed.lean ====
section
/-! DEFINITION. Which commands can reach the part: the bounds the spec puts on a command's operands. The meanings are
total and take the others too; no statement needs an ill-formed command. -/

namespace Sys2Proof

/-- The largest loop current the inputs read, 24 mA (section 12.6). -/
def maxLoopMicroAmp : Nat := 24000

/-- A word of the bus is named by its even byte address: A1 is the lowest address line (R201). -/
def wordAligned (address : Word) : Bool := address.toNat % 2 == 0

/-- The cells a memory did not take: offsets within a 64-byte page, rising (R191, R197). -/
def wornOk : List (Nat × Byte) → Bool
  | [] => true
  | [c] => decide (c.1 < 64)
  | c :: d :: rest => decide (c.1 < d.1) && wornOk (d :: rest)

/-- The bounds of the operands of a command. -/
def Instr.wellFormed : Instr → Bool
  | .temperatureSample i => decide (i ≤ maxLoopMicroAmp)
  | .supplySample i => decide (i ≤ maxLoopMicroAmp)
  | .registerWrite offset _ => wordAligned offset
  | .manifestRamWrite address _ => wordAligned address
  | .savePageDone worn => wornOk worn
  | .encoderEdge _ _ _ | .feedRunInactive | .feedRunActive | .stallWindowExpiry | .scanTimerExpiry | .scanStep
  | .ticketTakeUp | .atSpeedActive _ | .atSpeedInactive _ | .settleTimerExpiry _ | .moveComplete _ | .moveTimeout _
  | .fairnessElevation _ | .protectionTimerExpiry _ | .parkTimerExpiry _ | .presenceLoss _ | .presenceRestored _
  | .impactPulse _ | .burstWindowClose _ | .decayExpiry _ | .qualityByte _ _ | .gapTimerExpiry | .modeRequestConfig
  | .modeRequestRun | .modeRequestHold | .modeRequestService | .scan | .trackClear | .softReset | .causeWrite _
  | .enableWrite _ | .scanReloadWrite _ | .resetCauseWrite _ | .cfgAddrWrite _ | .accessTransferDone
  | .accessTransferTimeout | .savePageTimeout | .preloadNoResponse | .preloadEnd | .powerReset | .pinReset
  | .resetEnd _ _ _ _ => true

end Sys2Proof
end

