-- ==== Sys2Proof/Laws/PerInstr.lean ====
section
/-! SUPPORT. What well-formedness says of each command, one lemma per constructor: which operands are bounded and by what. -/

namespace Sys2Proof.Laws.Bounds

/-- The bounds the spec puts on the operands of a command, written out. -/
def bound : Instr → Prop
  | .temperatureSample i => i ≤ 24000
  | .supplySample i => i ≤ 24000
  | .registerWrite offset _ => offset.toNat % 2 = 0
  | .manifestRamWrite address _ => address.toNat % 2 = 0
  | .savePageDone worn => wornOk worn = true
  | _ => True

/-- A command is well-formed exactly when its operands keep the bounds. -/
def Statement (i : Instr) : Prop := i.wellFormed = true ↔ bound i

theorem encoderEdge (edge : Edge) (infeed outfeed : EyeLevel) :
    Statement (.encoderEdge edge infeed outfeed) := iff_of_true rfl trivial

theorem feedRunInactive : Statement .feedRunInactive := iff_of_true rfl trivial

theorem feedRunActive : Statement .feedRunActive := iff_of_true rfl trivial

theorem stallWindowExpiry : Statement .stallWindowExpiry := iff_of_true rfl trivial

theorem scanTimerExpiry : Statement .scanTimerExpiry := iff_of_true rfl trivial

theorem scanStep : Statement .scanStep := iff_of_true rfl trivial

theorem ticketTakeUp : Statement .ticketTakeUp := iff_of_true rfl trivial

theorem temperatureSample (microAmp : Nat) : Statement (.temperatureSample microAmp) := decide_eq_true_iff

theorem supplySample (microAmp : Nat) : Statement (.supplySample microAmp) := decide_eq_true_iff

theorem atSpeedActive (r : RotorId) : Statement (.atSpeedActive r) := iff_of_true rfl trivial

theorem atSpeedInactive (r : RotorId) : Statement (.atSpeedInactive r) := iff_of_true rfl trivial

theorem settleTimerExpiry (r : RotorId) : Statement (.settleTimerExpiry r) := iff_of_true rfl trivial

theorem moveComplete (a : ArmId) : Statement (.moveComplete a) := iff_of_true rfl trivial

theorem moveTimeout (a : ArmId) : Statement (.moveTimeout a) := iff_of_true rfl trivial

theorem fairnessElevation (a : ArmId) : Statement (.fairnessElevation a) := iff_of_true rfl trivial

theorem protectionTimerExpiry (r : RotorId) : Statement (.protectionTimerExpiry r) := iff_of_true rfl trivial

theorem parkTimerExpiry (r : RotorId) : Statement (.parkTimerExpiry r) := iff_of_true rfl trivial

theorem presenceLoss (a : ArmId) : Statement (.presenceLoss a) := iff_of_true rfl trivial

theorem presenceRestored (a : ArmId) : Statement (.presenceRestored a) := iff_of_true rfl trivial

theorem impactPulse (a : ArmId) : Statement (.impactPulse a) := iff_of_true rfl trivial

theorem burstWindowClose (a : ArmId) : Statement (.burstWindowClose a) := iff_of_true rfl trivial

theorem decayExpiry (a : ArmId) : Statement (.decayExpiry a) := iff_of_true rfl trivial

theorem qualityByte (b : Byte) (framingError : Bool) : Statement (.qualityByte b framingError) := iff_of_true rfl trivial

theorem gapTimerExpiry : Statement .gapTimerExpiry := iff_of_true rfl trivial

theorem modeRequestConfig : Statement .modeRequestConfig := iff_of_true rfl trivial

theorem modeRequestRun : Statement .modeRequestRun := iff_of_true rfl trivial

theorem modeRequestHold : Statement .modeRequestHold := iff_of_true rfl trivial

theorem modeRequestService : Statement .modeRequestService := iff_of_true rfl trivial

theorem scan : Statement .scan := iff_of_true rfl trivial

theorem trackClear : Statement .trackClear := iff_of_true rfl trivial

theorem softReset : Statement .softReset := iff_of_true rfl trivial

theorem causeWrite (w : Word) : Statement (.causeWrite w) := iff_of_true rfl trivial

theorem enableWrite (w : Word) : Statement (.enableWrite w) := iff_of_true rfl trivial

theorem scanReloadWrite (w : Word) : Statement (.scanReloadWrite w) := iff_of_true rfl trivial

theorem resetCauseWrite (w : Word) : Statement (.resetCauseWrite w) := iff_of_true rfl trivial

theorem cfgAddrWrite (w : Word) : Statement (.cfgAddrWrite w) := iff_of_true rfl trivial

theorem registerWrite (offset : Word) (w : Word) :
    Statement (.registerWrite offset w) := by simp [Statement, bound, Instr.wellFormed, wordAligned]

theorem accessTransferDone : Statement .accessTransferDone := iff_of_true rfl trivial

theorem accessTransferTimeout : Statement .accessTransferTimeout := iff_of_true rfl trivial

theorem savePageDone (worn : List (Nat × Byte)) : Statement (.savePageDone worn) := Iff.rfl

theorem savePageTimeout : Statement .savePageTimeout := iff_of_true rfl trivial

theorem preloadNoResponse : Statement .preloadNoResponse := iff_of_true rfl trivial

theorem preloadEnd : Statement .preloadEnd := iff_of_true rfl trivial

theorem powerReset : Statement .powerReset := iff_of_true rfl trivial

theorem pinReset : Statement .pinReset := iff_of_true rfl trivial

theorem resetEnd (infeed outfeed : EyeLevel) (atSpeed1 atSpeed2 : Bool) :
    Statement (.resetEnd infeed outfeed atSpeed1 atSpeed2) := iff_of_true rfl trivial

theorem manifestRamWrite (address : Word) (w : Word) :
    Statement (.manifestRamWrite address w) := by simp [Statement, bound, Instr.wellFormed, wordAligned]

end Sys2Proof.Laws.Bounds
end

