-- ==== Sys2Proof/Tests/Slice0.lean ====
section
/-! SUPPORT. The author's tests: the refusals of WellFormed, steps whose outcome is worked out from the spec (its own examples where it
has one), and a state that meets the hypotheses of each statement. -/

namespace Sys2Proof.Tests

set_option Elab.async false

open Sys2Proof Sys2Proof.Machine

/-! ### WellFormed refuses -/

theorem test_refuses_a_temperature_current_above_24_mA : (Instr.temperatureSample 24001).wellFormed = false := by decide
theorem test_refuses_a_supply_current_above_24_mA : (Instr.supplySample 24001).wellFormed = false := by decide
theorem test_refuses_an_odd_register_offset : (Instr.registerWrite 0x07 0).wellFormed = false := by decide
theorem test_refuses_an_odd_ram_address : (Instr.manifestRamWrite 0xFFFF 0).wellFormed = false := by decide
theorem test_refuses_a_worn_cell_beyond_the_page : (Instr.savePageDone [(64, 0)]).wellFormed = false := by decide
theorem test_refuses_worn_cells_out_of_order : (Instr.savePageDone [(5, 1), (5, 2)]).wellFormed = false := by decide
theorem test_accepts_the_bounds :
    (Instr.temperatureSample 24000).wellFormed && (Instr.supplySample 24000).wellFormed
      && (Instr.registerWrite 0x14 0xFFFF).wellFormed && (Instr.manifestRamWrite 0xFFFE 0).wellFormed
      && (Instr.savePageDone [(0, 1), (63, 2)]).wellFormed = true := by decide
theorem test_no_word_spells_a_command : decodeTableWord 16 0x1234 = none := rfl

/-! ### States -/

/-- The state a command answers. -/
def after (c : Instr) (s : State) : State :=
  match exec c s with
  | .next t => t
  | .fault _ | .refused _ => s

/-- RUN, the feed moving, supply NORMAL, both drives READY, every arm STANDBY; the preload still runs, so nothing is
published. -/
def ready : State :=
  { State.reset with
    mode := .run
    geometryValid := true
    pins := { Pins.initial with feedRun := true }
    feed := { Feed.reset .clear .clear with motion := .moving, position := 10000, peak := 10000 }
    supply := { Supply.reset with level := .normal, latest := some 600, fast := false }
    rotor1 := ⟨none, .ready, none, true, none⟩
    rotor2 := ⟨none, .ready, none, true, none⟩
    arbiter := ⟨4, [], []⟩
    holds := ⟨false, false, false, false, false, false, false, false, false⟩
    arms := allArms.foldl (fun x a => x.set a { Arm.reset with state := .standby, commanded := 40, target := 40 }) Arms.reset }

/-- A row with the values of the examples of sections 5.5 and 8.8. -/
def row12 : SpeciesRow :=
  { SpeciesRow.guard with
    trimLimit := 6, band0 := 170, band1 := 190, band2 := 210, band3 := 230, band4 := 250, band5 := 270, entry := 110
    minimum := 70, maximum := 380, frozenAdd := 35, buttLength := 1200, buttFactor := 115, topLength := 900, topFactor := 90
    rotor2Share := 110, deadBand := 12, trimStep := 8, trimFrozen := 2, trimThawed := -1, burstWindow := 30, threshold := 4
    maxDepth := 6, decayInterval := 100, reliefStep := 80 }

/-- The record of section 5.5 in BODY at rotor 2. -/
def record3 : Record :=
  { ready.orphanRecord 3 100000 with
    kind := .log, frame := some 30, row := some row12, rowUsed := 12, tempClass := some .frozen, noLearn := false
    working := 4000, tail := some 104000, measured := some 4000, provisional := false
    stations := [⟨0, 420⟩, ⟨2000, 300⟩, ⟨3900, 240⟩]
    view1 := ⟨.passed, false, false, 0, 0, 0, some 5, 0⟩
    view2 := ⟨.body, false, false, 346, 0, 0, some 5, 250⟩ }

/-- An arm ENGAGED on that record at 346 kPa, its monitor counting. -/
def engaged : Arm :=
  { Arm.reset with
    state := .engaged, tag := some 3, commanded := 346, target := 346
    monitor := ⟨true, some 3, some ⟨30, 4, 6, 100⟩, 0, none, none⟩ }

/-- The part at a feed position, with one record and rotor 2's arms ENGAGED on it. -/
def bodyAt (p : Pos) : State :=
  { ready with
    feed := { ready.feed with position := p, peak := p }
    queue := [record3]
    arms := (armsOf .r2).foldl (fun x a => x.set a engaged) ready.arms }

/-- The part with a LOG ticket at the head of the staged queue, or another. -/
def staged (kind : TicketKind) (area : List Byte) : State :=
  { ready with
    mode := .config
    manifest := { Manifest.reset with staged := [⟨30, kind, 0x305, area, .notMade, false⟩] }
    ram := Memory.write [] (frameAddr 30 2) 2 }

/-- The checked area that carries some words from offset 4 on. -/
def areaOf (ws : List Nat) : List Byte :=
  let bs := ws.flatMap wordN
  bs ++ List.replicate (124 - bs.length) 0

/-! ### Feed -/

theorem test_edge_is_counted : (after (.encoderEdge .forward .clear .clear) ready).feed.edges = 1 := by decide +kernel

/-- Section 1.10: the head of the ragged log is declared at 10,019 with its edge at 10,009, and the record of tag 0 arms rotor 1's lift mark
at 11,509. -/
theorem test_head_event_of_the_ragged_log :
    let s := { ready with feed := { ready.feed with
      position := 10018, peak := 10018, edges := 7, eyeIn := ⟨.clear, some 10009⟩ } }
    let t := after (.encoderEdge .forward .blocked .clear) s
    t.queue.map (fun q => (q.tag, q.head, q.provisional)) = [(0, 10009, true)]
      ∧ t.feed.marks.get .rotor1 0 = some ⟨.lift, 11509⟩ ∧ t.feed.eyeIn = ⟨.blocked, none⟩ := by decide +kernel

theorem test_feed_run_lost_begins_standstill :
    (after .feedRunInactive ready).feed.motion = .standstill ∧ (after .feedRunActive ready).pins.feedRun = true := by decide +kernel

theorem test_stall_window_begins_standstill :
    let s := { ready with feed := { ready.feed with stall := some 300 } }
    (after .stallWindowExpiry s).feed.motion = .standstill ∧ (after .stallWindowExpiry s).now = 300 := by decide +kernel

/-- A mark armed at or behind the peak fires at that moment, and its place is left empty; one ahead takes its place (R11, R12). -/
theorem test_a_reached_mark_fires_when_it_is_armed :
    let s := { bodyAt 104100 with feed := { ready.feed with position := 107000, peak := 107000 } }
    let t := State.arming s .transit 3 .outfeed 107000
    t.queue.map (fun q => q.outfeed) = [.awaitReport] ∧ t.feed.marks.get .transit 3 = some ⟨.windowEnd, 109000⟩
      ∧ (State.arming s .transit 3 .windowEnd 107000).queue = []
      ∧ (State.arming s .transit 3 .windowEnd 107001).feed.marks.get .transit 3 = some ⟨.windowEnd, 107001⟩ := by decide +kernel

/-! ### Manifest -/

/-- A SYNC ticket posted in frame 16, tag 0x0305, linked from the cursor frame 15 (section 2.9). -/
def posted : State :=
  { ready with
    manifest := { Manifest.reset with cursor := 15, scanning := true }
    ram := ((Memory.writeBytes [] (frameAddr 15 0) [16, 0, 2, 1]).writeBytes (frameAddr 16 0)
      [0, 0, 1, 0, 7, 0, 0x05, 0x03]).writeBytes (frameAddr 16 126) [0xF4, 0xFC] }

theorem test_scan_step_takes_the_sync_ticket :
    let t := after .scanStep posted
    t.manifest.cursor = 16 ∧ t.manifest.staged.map (fun e => (e.frame, e.kind, e.tag)) = [(16, .sync, 0x305)]
      ∧ t.frameState 16 = 2 ∧ t.ram.read (frameAddr 16 3) = 1 ∧ t.ram.read (frameAddr 15 3) = 0 := by decide +kernel

theorem test_scan_step_rejects_a_wrong_check :
    let t := after .scanStep { posted with ram := posted.ram.write (frameAddr 16 126) 0xF5 }
    t.frameState 16 = 4 ∧ t.manifest.cursor = 16 ∧ t.counters.rejections = 1 ∧ t.pendingCause .rejected = true
      ∧ t.ram.readBytes (frameAddr 16 128) 8 = [16, 0, 1, 0, 1, 0, 0x05, 0x03] := by decide +kernel

theorem test_take_up_closes_the_sync_ticket :
    let s := { staged .sync (areaOf [7, 0x305]) with counters := ⟨118, 4, 0, 0, 0, 0, 0⟩ }
    let t := after .ticketTakeUp s
    t.frameState 30 = 3 ∧ t.counters.closures = 119 ∧ t.manifest.staged = []
      ∧ t.ram.readBytes (frameAddr 30 128) 16 = [1, 0, 0, 0, 119, 0, 0x05, 0x03, 0, 0, 0, 0, 119, 0, 4, 0] := by decide +kernel

theorem test_take_up_refuses_a_trim_ticket :
    let t := after .ticketTakeUp (staged .trim (areaOf [4, 0x305, 1, 0, 9, 0]))
    t.frameState 30 = 4 ∧ t.ram.readBytes (frameAddr 30 128) 4 = [19, 0, 3, 0] ∧ t.species = ready.species := by decide +kernel

/-- A rejected ARM ticket's outcome has its kind-specific fields (R131, R206). -/
theorem test_take_up_refuses_an_arm_ticket :
    let t := after .ticketTakeUp (staged .arm (areaOf [5, 0x305, 2, 5, 3]))
    t.frameState 30 = 4 ∧ t.ram.readBytes (frameAddr 30 128) 4 = [19, 0, 2, 0]
      ∧ t.ram.readBytes (frameAddr 30 140) 7 = [2, 5, 3, 1, 0, 0, 1] := by decide +kernel

theorem test_scan_and_scan_timer :
    let s := { ready with cfg := { CfgMem.reset with preload := .marker }, manifest := { Manifest.reset with
      scanning := true, scanTimer := some 50 } }
    s.requestScan.manifest.scanRequest = true ∧ s.scanTimerExpired.manifest.scanTimer = some 110 := by decide +kernel

theorem test_scan_reload_of_zero_is_one : (after (.scanReloadWrite 0x0700) ready).manifest.scanReload = 1 := by decide +kernel

theorem test_ram_write_is_served_during_a_reset :
    (after (.manifestRamWrite 0x0102 0xABCD) (after .pinReset ready)).ram.word 0x0102 = 0xABCD := by decide +kernel

/-! ### Sensors and drives -/

theorem test_temperature_samples :
    (after (.temperatureSample 12000) ready).temp.latest = some 100
      ∧ (after (.temperatureSample 4000) ready).temp.latest = some (-400)
      ∧ (after (.temperatureSample 21000) ready).temp.latest = some 600
      ∧ (after (.temperatureSample 21001) ready).temp.latest = none
      ∧ (after (.temperatureSample 3599) ready).temp.latest = none := by decide +kernel

/-- Section 9.7: 470, 440 and 310 kPa from NORMAL, and 340 and 360 from CRITICAL. -/
theorem test_supply_dip :
    nextLevel .default .normal (supplyReading .default 11520) = .normal
      ∧ nextLevel .default .normal (supplyReading .default 11040) = .low
      ∧ nextLevel .default .low (supplyReading .default 8960) = .critical
      ∧ nextLevel .default .critical (supplyReading .default 9440) = .critical
      ∧ nextLevel .default .critical (supplyReading .default 9760) = .low
      ∧ nextLevel .default .low (supplyReading .default 11520) = .low
      ∧ nextLevel .default .low (supplyReading .default 11760) = .normal := by decide +kernel

theorem test_critical_supply_vents_the_arms :
    let t := after (.supplySample 8960) (bodyAt 104100)
    t.arbiter.slots = 0 ∧ t.holds.supplyCritical = true ∧ t.feedHold = true ∧ (t.arm .a21).commanded = 0
      ∧ (t.arm .a21).state = .engaged ∧ t.queue.map (fun q => q.stall) = [true] := by decide +kernel

theorem test_drive_settles_and_gets_ready :
    let s := after (.atSpeedActive .r1) { ready with rotor1 := Rotor.reset false 2000, holds := { ready.holds with rotor1Down := true } }
    s.rotor1.drive = .settling ∧ s.rotor1.settle = some 2000
      ∧ (after (.settleTimerExpiry .r1) s).rotor1.drive = .ready
      ∧ (after (.settleTimerExpiry .r1) s).holds.rotor1Down = false := by decide +kernel

theorem test_drive_lost :
    let t := after (.atSpeedInactive .r2) (bodyAt 104100)
    t.rotor2.drive = .down ∧ t.holds.rotor2Down = true ∧ t.queue.map (fun q => q.rotorDown) = [true]
      ∧ (t.arm .a21).commanded = 0 := by decide +kernel

/-! ### Arms and arbiter -/

/-- Arm 1.3 of section 6.13 with its CHARGE in flight, granted at 153. -/
def charging : State :=
  { bodyAt 104100 with
    arbiter := ⟨4, [.a23], []⟩
    arms := (bodyAt 104100).arms.set .a23 { engaged with
      commanded := 262, target := 262, flow := .inFlight ⟨.charge, 262, .high, false⟩ 153 200 } }

theorem test_charge_completes :
    let t := after (.moveComplete .a23) charging
    (t.arm .a23).flow = .idle ∧ (t.arm .a23).charges = 1 ∧ t.arbiter.inFlight = [] := by decide +kernel

theorem test_charge_times_out :
    let t := after (.moveTimeout .a23) charging
    t.now = 353 ∧ (t.arm .a23).state = .out ∧ (t.arm .a23).outCause = some .valveFault ∧ (t.arm .a23).vents = 1
      ∧ t.pendingCause .arm = true ∧ t.activeCount .r2 = 4 := by decide +kernel

/-- Section 5.5, an arm is lost at 104,100: the others are recomputed to 380 kPa, the arm in relief to 352. -/
theorem test_presence_loss_scales_the_targets :
    let s := bodyAt 104100
    let s := s.setArm .a23 { engaged with commanded := 266, target := 266, relief := true }
    let t := after (.presenceLoss .a25) s
    [ArmId.a21, .a22, .a23, .a24].map (fun a => (t.arm a).target) = [380, 380, 352, 380]
      ∧ (t.arm .a25).state = .out ∧ t.queue.map (fun q => (q.view2.maxTarget, q.view2.minActive)) = [(380, some 4)] := by
  decide +kernel

theorem test_presence_restored :
    let t := after (.presenceRestored .a25) (after (.presenceLoss .a25) ready)
    (t.arm .a25).inserted = true ∧ (t.arm .a25).state = .out ∧ (t.arm .a25).present = true := by decide +kernel

/-- Section 7.9 at time 15: the NORMAL request of arm 2.2 reaches 40 ms and is elevated; both slots are taken. -/
theorem test_fairness_elevation :
    let s := { bodyAt 104100 with
      now := 1014
      arbiter := ⟨2, [.a11, .a12], [⟨.a22, 975, false⟩]⟩
      arms := (bodyAt 104100).arms.set .a22 { engaged with flow := .waiting ⟨.charge, 250, .normal, false⟩ } }
    let t := after (.fairnessElevation .a22) s
    t.now = 1015 ∧ t.arbiter.wait = [⟨.a22, 975, true⟩] := by decide +kernel

/-- Section 7.9 at time 90, just before the LOW recharge of arm 2.4 reaches 100 ms: the supply LOW, both slots taken, the lifts of 1.4 and 1.5
waiting. -/
def recharging : State :=
  let lift (s : State) (a : ArmId) : State :=
    s.setArm a { Arm.reset with state := .lifting, flow := .waiting ⟨.lift, 420, .urgent, false⟩ }
  let charge (f : Flow) : Arm := { engaged with commanded := 180, flow := f }
  let s : State := { bodyAt 104100 with
    now := 1089
    supply := { ready.supply with level := .low, nextSample := 1095 }
    arbiter := ⟨2, [.a22, .a13], [⟨.a24, 990, false⟩, ⟨.a14, 1000, false⟩, ⟨.a15, 1000, false⟩]⟩ }
  ((lift (lift s .a14) .a15).setArm .a24 (charge (.waiting ⟨.charge, 260, .low, false⟩))).setArm .a22
    (charge (.inFlight ⟨.charge, 250, .normal, false⟩ 1062 200))

/-- Section 7.9 at time 90: the recharge is elevated and stays set aside. A slot that is then freed goes to the lift of 1.4 (R142). -/
theorem test_an_elevated_low_request_stays_set_aside :
    let t := after (.fairnessElevation .a24) recharging
    t.now = 1090 ∧ t.arbiter.wait = [⟨.a24, 990, true⟩, ⟨.a14, 1000, false⟩, ⟨.a15, 1000, false⟩]
      ∧ (after (.moveComplete .a22) t).arbiter.inFlight = [.a13, .a14] := by decide +kernel

/-- The LOW recharge of 99 ms under LOW supply when rotor 2 loses an arm: the recompute is NORMAL (R105), so the request takes that class in
place and is elevated at once, its age being above 40 ms (R140, R141); judged by its new class (R142), it takes the next freed slot before
the lift of 1.4. -/
theorem test_a_raised_class_ends_the_low_supply_wait :
    let t := after (.presenceLoss .a25) recharging
    t.supply.level = .low ∧ t.waitingClass .a24 = some .normal ∧ t.arbiter.wait.head? = some ⟨.a24, 990, true⟩
      ∧ (after (.moveComplete .a22) t).arbiter.inFlight = [.a13, .a24] := by decide +kernel

/-- Section 7.9 at time 95: the supply is NORMAL again, and the elevated recharge is granted first, then the lift of 1.4. -/
theorem test_the_elevated_low_request_is_granted_at_normal :
    let t := after (.supplySample 13600) { recharging with arbiter := { recharging.arbiter with
      wait := [⟨.a24, 990, true⟩, ⟨.a14, 1000, false⟩, ⟨.a15, 1000, false⟩] } }
    t.now = 1095 ∧ t.supply.level = .normal ∧ t.arbiter.inFlight = [.a22, .a13, .a24, .a14]
      ∧ t.arbiter.wait.map WaitEntry.arm = [.a15] := by decide +kernel

theorem test_protection_and_park_timers :
    (after (.protectionTimerExpiry .r1) { ready with rotor1 := { ready.rotor1 with protection := some 29 } }).rotor1.protection = none
      ∧ ((after (.parkTimerExpiry .r1) { ready with rotor1 := { ready.rotor1 with park := some 10353 } }).arm .a13).state = .parked := by
  decide +kernel

/-- The steps of the section target of section 5.5 at 900 mm and at 1,200 mm, with four active arms. -/
theorem test_section_targets :
    let s := (bodyAt 104100).setArm .a25 { engaged with state := .out, tag := none }
    s.bodyTarget .a21 row12 .frozen record3 = 380
      ∧ ({ s with feed := { s.feed with position := 104400 } } : State).bodyTarget .a21 row12 .frozen record3 = 358
      ∧ ({ s with feed := { s.feed with position := 106300 } } : State).bodyTarget .a21 row12 .frozen record3 = 330
      ∧ ({ s with feed := { s.feed with position := 107100 } } : State).bodyTarget .a21 row12 .frozen record3 = 305 := by
  decide +kernel

/-! ### Impact monitors (section 8.8) -/

/-- The arm 2.4 of section 8.8 with a count, a burst window and a decay timer. -/
def struck (now counter : Nat) (burst decay : Option Nat) (relief : Bool) : State :=
  { bodyAt 104100 with
    now := now
    arms := (bodyAt 104100).arms.set .a24 { engaged with
      relief := relief, monitor := ⟨true, some 3, some ⟨30, 4, 6, 100⟩, counter, burst, decay⟩ } }

theorem test_pulse_reaches_the_threshold :
    let t := after (.impactPulse .a24) (struck 185 3 none (some 240) false)
    (t.arm .a24).monitor.counter = 4 ∧ (t.arm .a24).monitor.burst = some 215 ∧ (t.arm .a24).relief = true
      ∧ t.queue.map (fun q => q.view2.reliefEntries) = [1] := by decide +kernel

theorem test_saturated_pulse_opens_the_window :
    let t := after (.impactPulse .a24) (struck 330 6 none (some 340) true)
    (t.arm .a24).monitor.counter = 6 ∧ (t.arm .a24).monitor.burst = some 360 := by decide +kernel

theorem test_decay_clears_relief :
    let t := after (.decayExpiry .a24) (struck 500 4 none (some 540) true)
    (t.arm .a24).monitor.counter = 3 ∧ (t.arm .a24).monitor.decay = some 640 ∧ (t.arm .a24).relief = false := by decide +kernel

theorem test_burst_window_closes :
    ((after (.burstWindowClose .a24) (struck 185 4 (some 215) none true)).arm .a24).monitor.burst = none := by decide +kernel

/-! ### Quality reports (section 10.7) -/

/-- A record of row 9 that awaits its report, with the three bytes of a frame received. -/
def awaiting (trim : Int) (residual flags : Byte) : State :=
  { (ready.setRow 9 { SpeciesRow.guard with trimLimit := 1, residualTarget := 5, trimThawed := trim }) with
    queue := [{ record3 with
      rowUsed := 9, tempClass := some .thawed, outfeed := .awaitReport, view2 := ⟨.passed, false, false, 0, 0, 0, some 5, 0⟩ }]
    quality := { Quality.reset with buffer := [0xA5, residual, flags], gap := some 0 } }

theorem test_report_above_the_target_raises_the_trim :
    let t := after (.qualityByte 0xAD false) (awaiting 0 8 0)
    (t.row 9).trimThawed = 1 ∧ t.queue = [] ∧ t.counters.closures = 1 := by decide +kernel

theorem test_gouge_lowers_the_trim_and_the_limit_holds_it :
    ((after (.qualityByte 0xA8 false) (awaiting 1 2 1)).row 9).trimThawed = 0
      ∧ ((after (.qualityByte 0xB0 false) (awaiting 1 11 0)).row 9).trimThawed = 1 := by decide +kernel

theorem test_damaged_report_is_discarded :
    let t := after (.qualityByte 0xAE false) (awaiting 0 8 0)
    t.counters.discarded = 1 ∧ t.quality.lastDiscard = .check ∧ t.pendingCause .report = true ∧ t.queue.length = 1 := by decide +kernel

theorem test_gap_discards_the_frame :
    (after .gapTimerExpiry (awaiting 0 8 0)).quality.lastDiscard = .gap ∧ (after .gapTimerExpiry (awaiting 0 8 0)).now = 6 := by
  decide +kernel

/-! ### Modes and registers -/

theorem test_run_is_refused_without_a_geometry :
    let t := after .modeRequestRun State.reset
    t.mode = .config ∧ t.modeRefused = true ∧ t.pendingCause .mode = true := by decide +kernel

theorem test_mode_requests :
    (after .modeRequestHold ready).mode = .hold
      ∧ (after .modeRequestService { ready with mode := .hold }).mode = .service
      ∧ (after .modeRequestConfig { ready with mode := .hold }).mode = .config
      ∧ (after .modeRequestRun { ready with mode := .hold }).mode = .run
      ∧ (after .modeRequestConfig { bodyAt 104100 with mode := .hold }).mode = .hold := by decide +kernel

theorem test_track_clear :
    (after .trackClear { ready with latch := true, holds := { ready.holds with trackFault := true } }).latch = false
      ∧ (after .trackClear { ready with latch := true, feed := { ready.feed with eyeIn := ⟨.blocked, none⟩ } }).latch = true := by
  decide +kernel

theorem test_cause_enable_and_interrupt :
    (after (.causeWrite 0x0003) { ready with cause := 0x0007 }).cause = 0x0004
      ∧ (after (.enableWrite 0xFFFF) ready).enable = 0x8FFF
      ∧ (after (.enableWrite 0x8001) { ready with cause := 0x0001 }).interrupt = true
      ∧ (after (.enableWrite 0x0001) { ready with cause := 0x0001 }).interrupt = false
      ∧ (after (.resetCauseWrite 0x0001) ready).resetCause = 0 := by decide +kernel

theorem test_control_write_is_three_commands :
    let t := after (.registerWrite 0x02 0x0033) { ready with
      cfg := { CfgMem.reset with preload := .marker }, latch := true }
    t.mode = .hold ∧ t.manifest.scanning = true ∧ t.latch = false := by decide +kernel

/-! ### Configuration memory -/

theorem test_access_port_reads_and_writes :
    let busy := { ready with cfg := { CfgMem.reset with preload := .good } }
    let s := busy.writeRegister 0x10 0x8044
    s.cfg.addr = 0x8044 ∧ s.cfg.transfer = some ⟨true, 0x44, [0, 0, 0, 0], 10⟩
      ∧ s.transferAnswered.cfg.addr = 0x0044 ∧ s.transferExpired.cfg.fault = true
      ∧ (busy.writePort 0x0040).transferAnswered.cfg.addr = 0x8040
      ∧ (busy.writePort 0x0040).transferExpired.cfg.dataLo = 0xFFFF := by decide +kernel

/-- The bytes sent on the memory's bus (R192): the write of that transfer, and a save's last page. -/
theorem test_bytes_sent_to_the_memory :
    let busy := { ready with cfg := { CfgMem.reset with preload := .good } }
    (busy.writeRegister 0x10 0x9344).memoryCommands.map MemoryCommand.sent =
        [[0x06], [0x02, 0x13, 0x44, 0, 0, 0, 0], [0x05]]
      ∧ (busy.writeRegister 0x10 0x1344).memoryCommands.map MemoryCommand.sent = [[0x03, 0x13, 0x44]]
      ∧ ready.memoryCommands.map MemoryCommand.sent = [[0x05]]
      ∧ [0x00, 0x01, 0xFE, 0xFF].map (fun b => (busy.writeRegister 0x10 0x9344).statusAnswer b []) =
        [some .accessTransferDone, none, some .accessTransferDone, none] := by decide +kernel

/-- The last page of a save of frame 30. -/
def lastPage : State :=
  { ready with
    ram := Memory.write [] (frameAddr 30 2) 2
    cfg := { CfgMem.reset with save := some ⟨30, 0x305, some ⟨0, headerBytes 0x1234, 10⟩, 0x1234, []⟩ } }

theorem test_save_closes_done_or_failed :
    (after (.savePageDone []) lastPage).ram.readBytes (frameAddr 30 128) 14 =
        [1, 0, 0, 0, 1, 0, 0x05, 0x03, 0, 0, 0, 0, 0x34, 0x12]
      ∧ (after (.savePageDone []) lastPage).eeprom.word 0 = 0x4B41
      ∧ (after (.savePageDone [(2, 0)]) lastPage).ram.readBytes (frameAddr 30 128) 4 = [2, 0, 0, 0]
      ∧ (after (.savePageDone []) lastPage).pendingCause .save = true := by decide +kernel

theorem test_preload_of_an_empty_memory_is_bad :
    State.reset.preloadResult = (.marker, 0)
      ∧ ({ State.reset with eeprom := Memory.writeBytes [] 0 [0x41, 0x4B, 0x80, 0x08, 1, 0] } : State).preloadResult = (.check, 0)
      ∧ ({ State.reset with eeprom := Memory.writeBytes [] 0 [0x41, 0x4B, 0x80, 0x08] } : State).preloadResult = (.geometry, 1) := by
  decide +kernel

/-! ### Resets -/

theorem test_soft_reset_takes_one_millisecond :
    let s := after .softReset ready
    s.resetHeld = some .soft ∧ s.feedHold = true ∧ s.mode = .config ∧ s.resetCause = 0x0005
      ∧ s.idle.idle.pending = [.resetEnd .clear .clear false false] := by decide +kernel

theorem test_reset_end_reads_the_levels :
    let t := after (.resetEnd .blocked .clear true false) (after .powerReset ready)
    t.feed.eyeIn.declared = .blocked ∧ t.feed.blockage = some ⟨false, none⟩ ∧ t.rotor1.drive = .settling
      ∧ t.rotor2.drive = .down ∧ t.resetCause = 1 ∧ t.resetHeld = none := by decide +kernel

/-! ### A state that meets the hypotheses of each statement, at the ends of the ranges

The statements without hypotheses are not listed: EveryCommandAnswersANextState, InterruptLineFollowsCausesAndEnables,
ResetStateMeetsTheInvariants. -/

/-- The part with feed-run inactive, at an edge count, a peak and a mode. -/
def feedAt (edges : Nat) (peak : Pos) (m : Mode) : State :=
  { ready with
    mode := m
    pins := { ready.pins with feedRun := false }
    feed := { ready.feed with edges := edges, peak := peak } }

theorem test_meets_StepTakesTheFrontCommand : ({ ready with pending := [.scan, .scanStep] } : State).pending = .scan :: [.scanStep] := rfl

theorem test_meets_IdleStepIssuesADueEventOrPassesAMillisecond :
    ready.pending = [] ∧ ready.dueCommand = none ∧ ({ ready with now := 1 } : State).dueCommand = some (.supplySample 0) := by
  decide +kernel

theorem test_meets_HeldResetIgnoresCommands :
    (after .pinReset ready).resetHeld.isSome = true ∧ servedInReset .scan = false := by decide +kernel

theorem test_meets_EdgesMoveTheCountAndTheFeedPosition :
    let s := feedAt 7 10001 .run
    let t := feedAt 7 10000 .run
    let u := feedAt 0 10099 .hold
    let v := feedAt 0 10000 .service
    (s.running ∧ s.pins.feedRun = false ∧ ready.running ∧ ready.pins.feedRun = true ∧ ready.feed.motion = .moving)
      ∧ ((feedAt 6 10000 .run).feed.edges + 1 < (feedAt 6 10000 .run).geometry.encoderResolution
        ∧ (feedAt 1 10000 .run).feed.edges ≠ 0)
      ∧ (s.geometry.encoderResolution ≤ s.feed.edges + 1 ∧ posDiff (s.feed.position + 1) s.feed.peak = 0)
      ∧ (t.geometry.encoderResolution ≤ t.feed.edges + 1 ∧ posDiff (t.feed.position + 1) t.feed.peak = 1
        ∧ t.feed.eyeIn = ⟨.clear, none⟩ ∧ t.feed.eyeOut = ⟨.clear, none⟩ ∧ t.feed.blockage = none ∧ t.feed.marks = .empty)
      ∧ (u.feed.edges = 0 ∧ u.mode = .hold ∧ posDiff u.feed.peak (u.feed.position - 1) = u.geometry.reverseLimit)
      ∧ v.feed.edges = 0 ∧ v.mode = .service := by decide +kernel

theorem test_meets_EyeSampleFollowsItsTable :
    (⟨.clear, none⟩ : Eye).change = none ∧ (⟨.clear, some 10009⟩ : Eye).change = some 10009
      ∧ posDiff 10018 10009 < (10 : Nat) ∧ ((10 : Nat) : Int) ≤ posDiff 10019 10009 := by decide +kernel

/-- One edge before a new-peak step to 10001, the eyes and the blockage as given. -/
def eyesAt (eyeIn eyeOut : Eye) (b : Option Blockage) (m : Mode) : State :=
  { feedAt 7 10000 m with feed := { (feedAt 7 10000 m).feed with eyeIn := eyeIn, eyeOut := eyeOut, blockage := b } }

/-- The outfeed checks of NewPeakStepTakesTheEyesDeclarations at the ends of the tolerance, for an edge at 9991: the head expected 150 mm
off, and 151 mm. -/
theorem test_meets_NewPeakStepTakesTheEyesDeclarations :
    let q (off : Nat) : Record := { record3 with head := 9991 - BitVec.ofNat 32 (ready.geometry.d3 + off), outfeed := .inMachine }
    let s := { eyesAt ⟨.clear, none⟩ ⟨.clear, some 9991⟩ none .run with queue := [q 150] }
    (s.running ∧ s.pins.feedRun = false ∧ s.geometry.encoderResolution ≤ s.feed.edges + 1
        ∧ posDiff (s.feed.position + 1) s.feed.peak = 1)
      ∧ (s.feed.eyeIn = ⟨.clear, none⟩ ∧ s.feed.blockage = none ∧ (s.geometry.eyeDebounce : Int) = posDiff (s.feed.position + 1) 9991
        ∧ posDiff (s.feed.position + 1) 9992 < s.geometry.eyeDebounce
        ∧ posDiff (s.feed.position + 1) 9991 < s.geometry.maxLogLength)
      ∧ (posDiff 10001 (10001 - BitVec.ofNat 32 ready.geometry.maxLogLength) = ready.geometry.maxLogLength
        ∧ posDiff 10001 (10002 - BitVec.ofNat 32 ready.geometry.maxLogLength) < ready.geometry.maxLogLength)
      ∧ ((posDiff 9991 (posAdd (q 150).head s.geometry.d3)).natAbs = s.geometry.outfeedTolerance
        ∧ (posDiff 9991 (posAdd (q 151).head s.geometry.d3)).natAbs = s.geometry.outfeedTolerance + 1
        ∧ s.queue.find? (fun q => q.outfeed == .inMachine) = some (q 150))
      ∧ (s.mode = .run ∧ s.latch = false ∧ (eyesAt ⟨.blocked, some 9991⟩ ⟨.clear, none⟩ (some ⟨true, none⟩) .hold).feed.blockage
          = some ⟨true, none⟩
        ∧ (eyesAt ⟨.blocked, none⟩ ⟨.clear, none⟩ (some ⟨true, some 9991⟩) .service).mode = .service) := by decide +kernel

/-- A declared head, tail and outfeed head, and an overlong blockage, each taken at that step. -/
theorem test_a_new_peak_step_takes_each_declaration :
    (after (.encoderEdge .forward .blocked .clear) (eyesAt ⟨.clear, some 9991⟩ ⟨.clear, none⟩ none .run)).queue.length = 1
      ∧ (after (.encoderEdge .forward .clear .clear) { eyesAt ⟨.blocked, some 9991⟩ ⟨.clear, none⟩ (some ⟨true, some 9491⟩) .run with
          queue := [{ ready.orphanRecord 0 9491 with kind := .orphan }] }).counters.orphans = 1
      ∧ (after (.encoderEdge .forward .blocked .clear) (eyesAt ⟨.blocked, none⟩ ⟨.clear, none⟩
          (some ⟨true, some (10001 - BitVec.ofNat 32 ready.geometry.maxLogLength)⟩) .run)).feed.reason = .overlong
      ∧ (after (.encoderEdge .forward .clear .blocked) { eyesAt ⟨.clear, none⟩ ⟨.clear, some 9991⟩ none .run with
          queue := [{ record3 with outfeed := .inMachine }] }).feed.reason = .slip := by decide +kernel

/-- A change opened, kept and abandoned, and both eyes declaring at one step; the step that abandons a CLEAR change checks the length (log
38). -/
theorem test_a_new_peak_step_takes_every_sample :
    let at2 (x y : Eye) (b : Option Blockage) (i o : EyeLevel) : Feed := (after (.encoderEdge .forward i o) (eyesAt x y b .run)).feed
    let long : Option Blockage := some ⟨true, some (10001 - BitVec.ofNat 32 ready.geometry.maxLogLength)⟩
    ((at2 ⟨.clear, none⟩ ⟨.blocked, none⟩ none .blocked .clear).eyeIn = ⟨.clear, some 10001⟩
        ∧ (at2 ⟨.clear, none⟩ ⟨.blocked, none⟩ none .blocked .clear).eyeOut = ⟨.blocked, some 10001⟩)
      ∧ (at2 ⟨.blocked, some 9992⟩ ⟨.clear, some 9992⟩ long .clear .blocked).eyeIn = ⟨.blocked, some 9992⟩
      ∧ (at2 ⟨.blocked, some 9992⟩ ⟨.clear, some 9992⟩ long .clear .blocked).reason = .noFault
      ∧ (at2 ⟨.blocked, some 9992⟩ ⟨.clear, some 9992⟩ long .blocked .clear).eyeIn = ⟨.blocked, none⟩
      ∧ (at2 ⟨.blocked, some 9992⟩ ⟨.clear, some 9992⟩ long .blocked .clear).eyeOut = ⟨.clear, none⟩
      ∧ (at2 ⟨.blocked, some 9992⟩ ⟨.clear, some 9992⟩ long .blocked .clear).reason = .overlong
      ∧ (at2 ⟨.clear, some 9991⟩ ⟨.clear, some 9991⟩ none .blocked .blocked).eyeIn = ⟨.blocked, none⟩
      ∧ (at2 ⟨.clear, some 9991⟩ ⟨.clear, some 9991⟩ none .blocked .blocked).eyeOut = ⟨.blocked, none⟩
      ∧ (at2 ⟨.clear, some 9991⟩ ⟨.clear, some 9991⟩ none .blocked .blocked).reason = .slip := by decide +kernel

theorem test_meets_TrackFaultTearsDownTheQueue :
    let s := feedAt 0 10100 .run
    s.running ∧ s.pins.feedRun = false ∧ s.feed.edges = 0 ∧ s.mode = .run ∧ s.latch = false
      ∧ posDiff s.feed.peak (s.feed.position - 1) = s.geometry.reverseLimit + 1
      ∧ ({ s with latch := true } : State).latch = true := by decide +kernel

/-- Two records, one of them provisional, with TAKEN frames; an arm OUT, one OPEN at "maximum aperture", one deferred under vent hold. -/
def jammed : State :=
  let s := after (.moveTimeout .a23) charging
  { s with
    queue := [record3, { record3 with tag := 4, frame := some 31, provisional := true }]
    ram := (Memory.write [] (frameAddr 30 2) 2).write (frameAddr 31 2) 2
    rotor1 := ⟨some 900, .down, none, false, none⟩
    arms := (s.arms.set .a11 { Arm.reset with state := .lifting, flow := .deferred 400 true }).set .a24
      { Arm.reset with state := .opened, aperture := s.geometry.maxAperture } }

theorem test_meets_TeardownLiftsTheArmsAndClosesTheRecords :
    (jammed.queue.filter fun q => !q.provisional && q.frame.isSome) = [record3]
      ∧ (jammed.queue.any fun q => q.provisional && q.frame.isSome) = true ∧ jammed.frameState 30 = 2
      ∧ ([record3].map Record.frame).Nodup ∧ (jammed.arm .a23).state = .out ∧ (jammed.arm .a24).state = .opened
      ∧ (jammed.arm .a24).aperture = jammed.geometry.maxAperture ∧ (jammed.arm .a21).state = .engaged
      ∧ (∀ a ∈ allArms, flowFits (jammed.arm a).state (jammed.arm a).flow = true) ∧ jammed.ventHeld .a12 = true
      ∧ (jammed.arm .a12).state = .standby ∧ (jammed.arm .a12).flow.isWaiting = false := by decide +kernel

theorem test_teardown :
    let t := jammed.trackFault .slip
    t.rotor1.park = none ∧ t.frameState 30 = 3 ∧ t.frameState 31 = 2 ∧ t.counters.closures = 1 ∧ (t.arm .a23).state = .out
      ∧ (t.arm .a24).state = .opened ∧ (t.arm .a21).state = .lifting
      ∧ (t.arm .a12).flow = .deferred jammed.geometry.maxAperture false := by decide +kernel

/-- STANDSTILL with feed-run active. -/
def still : State := { ready with feed := { ready.feed with motion := .standstill, edges := 6 } }

theorem test_meets_StandstillBegins :
    let s := { bodyAt 104100 with feed := still.feed, queue := [record3] }
    still.running ∧ still.feed.motion = .standstill ∧ ready.feed.motion = .moving ∧ ready.feed.stall = none
      ∧ ({ ready with feed := { ready.feed with stall := some 300 } } : State).feed.stall = some 300
      ∧ record3.row = some row12 ∧ (s.targetFor .a21 record3).isSome = true := by decide +kernel

theorem test_meets_StandstillEndsAtACountedEdge :
    let moved (edges : Nat) (peak : Pos) (m : Mode) : State :=
      { still with mode := m, feed := { still.feed with edges := edges, peak := peak } }
    (still.running ∧ still.pins.feedRun = true ∧ still.feed.motion = .standstill ∧ Edge.reverse ≠ .noDirection)
      ∧ still.feed.edges + 1 < still.geometry.encoderResolution ∧ still.feed.edges ≠ 0
      ∧ still.geometry.encoderResolution = (moved 7 10001 .run).feed.edges + 1
      ∧ posDiff ((moved 7 10001 .run).feed.position + 1) (moved 7 10001 .run).feed.peak = 0
      ∧ posDiff ((moved 7 10000 .run).feed.position + 1) (moved 7 10000 .run).feed.peak = 1
      ∧ (still.feed.eyeIn = ⟨.clear, none⟩ ∧ still.feed.eyeOut = ⟨.clear, none⟩ ∧ still.feed.blockage = none
        ∧ still.feed.marks = .empty)
      ∧ (moved 0 10099 .hold).feed.edges = 0
      ∧ posDiff (moved 0 10099 .hold).feed.peak ((moved 0 10099 .hold).feed.position - 1) = still.geometry.reverseLimit
      ∧ (moved 0 10000 .config).mode = .config := by decide +kernel

/-- The preload has ended; a scan is in progress or not. -/
def loaded (scanning : Bool) : State :=
  { ready with
    cfg := { CfgMem.reset with preload := .good }
    manifest := { Manifest.reset with scanning := scanning, scanTimer := some 50 } }

/-- A drive's byte is written alone: the host's value in the usability byte beside it stays (R20, R205). -/
theorem test_an_unchanged_field_keeps_the_hosts_value :
    let s := (loaded false).storeWord 0xF034 0x7777
    (after (.atSpeedInactive .r1) { s with rotor1 := ⟨none, .settling, some 9, true, none⟩ }).ram.readBytes
      (frameAddr 240 52) 2 = [0, 0x77] := by decide +kernel

/-- A scan in progress at frame 0, whose link is `f`; frame `f` has a state byte, a kind and a check byte. -/
def linked (f : Nat) (state kind check : Byte) : State :=
  { ready with
    manifest := { Manifest.reset with scanning := true }
    ram := ((Memory.writeBytes [] 0 [BitVec.ofNat 8 f, 0]).writeBytes (frameAddr f 2) [state, 0, kind, 0]).writeBytes
      (frameAddr f 126) [check, 0xFF] }

theorem test_meets_LinkFaultEndsTheScan :
    (linked 240 1 7 0xF9).running ∧ (linked 240 1 7 0xF9).manifest.scanning = true
      ∧ (linked 240 1 7 0xF9).manifest.staged.length < 4
      ∧ 239 < ((linked 240 1 7 0xF9).ram.word (frameAddr (linked 240 1 7 0xF9).manifest.cursor 0)).toNat
      ∧ ((linked 239 1 7 0xF9).ram.word (frameAddr (linked 239 1 7 0xF9).manifest.cursor 0)).toNat ≤ 239 := by decide +kernel

theorem test_meets_ScansAreCalledAndEnd :
    (ready.running ∧ ready.cfg.preload = .running ∧ ready.manifest.scanTimer = none ∧ (loaded true).running
        ∧ (loaded true).cfg.preload ≠ .running ∧ (loaded true).manifest.scanning = true
        ∧ (loaded true).manifest.scanTimer = some 50 ∧ (loaded false).manifest.scanning = false
        ∧ (loaded false).manifest.scanTimer = some 50 ∧ ready.manifest.scanning = false)
      ∧ 4 ≤ ({ posted with manifest := { posted.manifest with
          staged := List.replicate 4 ⟨30, .sync, 0, [], .notMade, false⟩ } } : State).manifest.staged.length
      ∧ ({ posted with ram := [] } : State).ram.word (frameAddr posted.manifest.cursor 0) = 0
      ∧ (linked 1 0 7 0xF9).frameState 1 ≠ 1 ∧ (linked 239 1 7 0xF9).frameState 239 = 1
      ∧ ({ linked 239 1 7 0xF9 with cfg := { CfgMem.reset with save := some ⟨239, 0, none, 0, []⟩ } } : State).holdsFrame 239
        = true := by decide +kernel

theorem test_meets_ScanStepTakesAPostedFrame :
    ∀ f ∈ [1, 239], let s := linked f 1 7 0xF9
      s.running ∧ s.manifest.scanning = true ∧ s.manifest.staged.length < 4
        ∧ (s.ram.word (frameAddr s.manifest.cursor 0)).toNat = f ∧ s.frameState f = 1 ∧ s.holdsFrame f = false
        ∧ sumWords (s.ram.readBytes (frameAddr f 4) 124) = 0
        ∧ TicketKind.ofCode (areaWord (s.ram.readBytes (frameAddr f 4) 124) 4) = some .sync := by decide +kernel

theorem test_meets_ScanStepRejectsABadFrame :
    sumWords ((linked 1 1 7 0xFA).ram.readBytes (frameAddr 1 4) 124) = 1
      ∧ sumWords ((linked 239 1 8 0xF8).ram.readBytes (frameAddr 239 4) 124) = 0
      ∧ TicketKind.ofCode (areaWord ((linked 239 1 8 0xF8).ram.readBytes (frameAddr 239 4) 124) 4) = none := by decide +kernel

theorem test_meets_FrameIsClosedOnlyWhileTaken :
    ready.frameState 30 ≠ 2 ∧ (staged .sync []).frameState 30 = 2 ∧ (∀ x ∈ [(140, byteN 1)], 140 ≤ x.1)
      ∧ record3.profileFault = none ∧ ({ record3 with profileFault := some .diameter } : Record).profileFault.isSome = true := by
  decide +kernel

/-- The fields of a LOG ticket's outcome lie in the section and apart. -/
theorem test_the_fields_of_a_log_outcome_lie_apart :
    let fields := logOutcome record3 ⟨0, false, false, 0, .notSuppressed, false⟩
    (∀ x ∈ fields, 140 ≤ x.1 ∧ x.1 + x.2.length ≤ 256)
      ∧ fields.Pairwise (fun x y => x.1 + x.2.length ≤ y.1 ∨ y.1 + y.2.length ≤ x.1)
      ∧ ∀ x ∈ fields, 165 < x.1 ∨ x.1 + x.2.length ≤ 165 := by decide +kernel

theorem test_meets_SyncTicketClosesAndLogTicketWaits :
    ready.manifest.staged = [] ∧ (staged .log []).manifest.staged = [⟨30, .log, 0x305, [], .notMade, false⟩]
      ∧ (staged .log []).checkHead.manifest.staged.map (fun e => (e.kind, decide (e.check ≠ .notMade))) = [(.log, true)]
      ∧ (staged .sync []).manifest.staged = [⟨30, .sync, 0x305, [], .notMade, false⟩] := by decide +kernel

/-- The table of R43, each reason at a bound: row, validity, station counts 0 and 17, order, diameters 59 and 761, lengths 299 and 20,001.
-/
theorem test_field_check_follows_the_table_of_R43 :
    (ready.setRow 31 { row12 with valid := false }).logFieldCheck (areaOf [1, 0, 31, 0, 300, 0, 0, 1, 0, 60]) = .failed .speciesInvalid
      ∧ [[32, 0, 4000, 0, 0, 1, 0, 400], [0, 0, 4000, 0, 0, 0], [0, 0, 4000, 0, 0, 17], [0, 0, 4000, 0, 0, 2, 5, 400, 5, 400],
          [0, 0, 4000, 0, 0, 1, 0, 59], [0, 0, 4000, 0, 0, 1, 0, 761], [0, 0, 299, 0, 0, 1, 0, 400], [0, 0, 20001, 0, 0, 1, 0, 400],
          [0, 0, 300, 0, 0, 1, 0, 60], [0, 0, 20000, 0, 0, 1, 0, 760]].map (fun ws => ready.logFieldCheck (areaOf ([1, 0] ++ ws)))
        = [.failed .speciesRange, .failed .stationCount, .failed .stationCount, .failed .stationOrder, .failed .diameter,
          .failed .diameter, .failed .expectedLength, .failed .expectedLength, .passed, .passed] := by decide +kernel

/-- The checked area of a SPECIES ticket. -/
def speciesArea (k handling : Nat) (x : SpeciesRow) : List Byte :=
  let bs := [2, 0, 5, 3] ++ wordN k ++ wordN handling ++ x.toBytes
  bs ++ List.replicate (124 - bs.length) 0

theorem test_meets_SpeciesTicketWritesTheNamedRow :
    (areaWord (speciesArea 31 1 row12) 8).toNat = 31 ∧ areaWord (speciesArea 31 1 row12) 10 = 1
      ∧ rowCheck 31 (.ofBytes (areaBytes (speciesArea 31 1 row12) 12 64)) = none
      ∧ rowCheck 0 (.ofBytes (areaBytes (speciesArea 0 0 SpeciesRow.guard) 12 64)) = none
      ∧ (rowCheck 32 (.ofBytes (areaBytes (speciesArea 32 2 row12) 12 64))).isSome = true
      ∧ row12.toBytes.getD 0 0 = 1 ∧ ({ row12 with valid := false } : SpeciesRow).toBytes.getD 0 0 = 0 := by decide +kernel

theorem test_row_checks_follow_R92 :
    [rowCheck 32 row12, rowCheck 31 { row12 with burstWindow := 0 }, rowCheck 31 { row12 with burstWindow := 1001 },
      rowCheck 31 { row12 with minimum := 381 }, rowCheck 31 { row12 with maxDepth := 3 }, rowCheck 31 { row12 with trimThawed := -7 },
      rowCheck 0 row12, rowCheck 31 { row12 with minimum := 380, maxDepth := 4, trimThawed := -6 }]
      = [some 1, some 2, some 2, some 3, some 4, some 5, some 6, none] := by decide +kernel

/-- A TRIM ticket at the head: the action, the row and the cells of its checked area. -/
def trim (action k : Nat) (frozen thawed : Int) : StagedTicket :=
  ⟨30, .trim, 0x305, [4, 0, 5, 3] ++ wordN action ++ wordN k ++ wordI frozen ++ wordI thawed ++ List.replicate 112 0, .notMade, false⟩

theorem test_meets_TrimTicketsAreCheckedAndWriteTheCells :
    let s := ready.setRow 31 row12
    ((areaWord (trim 0 0 0 0).area 8).toNat = 0 ∧ (areaWord (trim 3 0 0 0).area 8).toNat = 3)
      ∧ ((areaWord (trim 1 32 0 0).area 8).toNat = 1 ∧ (areaWord (trim 1 32 0 0).area 10).toNat = 32)
      ∧ (withinTrim (ready.row 0).trimLimit (areaWord (trim 1 0 9 0).area 12).toInt = false
        ∧ withinTrim (ready.row 0).trimLimit (areaWord (trim 1 0 0 (-9)).area 14).toInt = false
        ∧ withinTrim (ready.row 0).trimLimit (areaWord (trim 1 0 8 (-8)).area 12).toInt = true
        ∧ withinTrim (ready.row 0).trimLimit (areaWord (trim 1 0 8 (-8)).area 14).toInt = true)
      ∧ (areaWord (trim 2 99 9 9).area 8).toNat = 2
      ∧ ((areaWord (trim 1 31 6 (-6)).area 10).toNat = 31 ∧ (areaWord (trim 1 31 6 (-6)).area 12).toInt = 6
        ∧ (areaWord (trim 1 31 6 (-6)).area 14).toInt = -6 ∧ withinTrim (s.row 31).trimLimit 6 = true
        ∧ withinTrim (s.row 31).trimLimit (-6) = true ∧ withinTrim (s.row 0).trimLimit 0 = true) := by decide +kernel

/-- An ARM ticket's checked area. -/
def armArea (rotor index action : Nat) : List Byte := areaOf [5, 0x305, rotor, index, action]

theorem test_meets_ArmTicketTakesArmsOutAndBack :
    (areaWord (armArea 0 1 1) 8).toNat = 0 ∧ (areaWord (armArea 3 1 1) 8).toNat = 3 ∧ (areaWord (armArea 1 0 1) 10).toNat = 0
      ∧ (areaWord (armArea 1 6 1) 10).toNat = 6 ∧ armOf 1 1 = some .a11 ∧ armOf 2 5 = some .a25
      ∧ (areaWord (armArea 2 5 3) 12).toNat = 3 ∧ (areaWord (armArea 2 5 1) 12).toNat = 1 ∧ (areaWord (armArea 2 5 2) 12).toNat = 2
      ∧ ((after (.presenceLoss .a25) ready).arm .a25).present = false
      ∧ ((after (.moveTimeout .a23) charging).arm .a23).state = .out
      ∧ ((after (.moveTimeout .a23) charging).arm .a23).present = true
      ∧ ((after (.moveTimeout .a23) charging).current? .r2).isSome = true
      ∧ ({ after (.moveTimeout .a23) charging with queue := [] } : State).current? .r2 = none
      ∧ (ready.arm .a25).state ≠ .out ∧ rotorOf .a24 = rotorOf .a23 ∧ (charging.arm .a24).state = .engaged := by decide +kernel

/-- The checked area of a GEOMETRY ticket. -/
def geometryArea (g : Geometry) : List Byte := [3, 0, 5, 3] ++ g.toBytes.take 88 ++ List.replicate 32 0

theorem test_meets_GeometryTicketReplacesTheGeometry :
    let ticketGeometry (area : List Byte) : Geometry := .ofWords fun k => areaWord area (8 + 2 * k)
    (ticketGeometry (geometryArea .default)).firstFailed = none
      ∧ (ticketGeometry (geometryArea { Geometry.default with encoderResolution := 0 })).firstFailed = some 1
      ∧ (ticketGeometry (geometryArea { Geometry.default with encoderResolution := 0 })).firstOutOfRange.isSome = true
      ∧ (match (ticketGeometry (geometryArea { Geometry.default with d2 := 9000 })).firstFailed with
        | some n => n != 1
        | none => false) = true
      ∧ (staged .geometry []).mode = .config ∧ ready.mode ≠ .config ∧ ((staged .geometry []).arm .a25).state = .standby := by decide +kernel

/-- The checks of R195 at their bounds, and the offsets of the first and the last field out of range. -/
theorem test_geometry_checks_follow_R195 :
    let g := Geometry.default
    [{ g with encoderResolution := 65 }, { g with d1 := 809 }, { g with d2 := 2399 }, { g with d3 := 3499 }, { g with band2 := 150 },
        { g with supplyCritical := 420 }, { g with slotsNormal := 2, slotsLow := 3 }, { g with guardDiameter := 761 },
        { g with d1 := 810 }, { g with d2 := 2400, d3 := 2700 }, { g with supplyCritical := 419, guardDiameter := 760 }].map
      Geometry.firstFailed = [some 1, some 2, some 3, some 4, some 5, some 6, some 7, some 8, none, none, none]
      ∧ ({ g with encoderResolution := 0 } : Geometry).firstOutOfRange = some 0
      ∧ ({ g with d3 := 30001 } : Geometry).firstOutOfRange = some 86 := by decide +kernel

theorem test_meets_SaveTicketStartsTheSave :
    lastPage.cfg.save.isSome = true ∧ ready.cfg.save = none ∧ ready.cfg.transfer = none
      ∧ ({ ready with cfg := { CfgMem.reset with transfer := some ⟨false, 0, [], 10⟩ } } : State).cfg.transfer.isSome = true := by
  decide +kernel

theorem test_meets_TemperatureSamplesAndClassesFollowTheirTables :
    let q := ready.orphanRecord 0 10000
    ready.running ∧ (∀ i ∈ [3600, 4000, 20000, 21000], 3600 ≤ i ∧ i ≤ 21000) ∧ 3599 < 3600 ∧ 21000 < 21001
      ∧ q.tempHeld = false ∧ q.tempUnknown = false ∧ q.frozenFlag = .unflagged ∧ { q with frozenFlag := .frozen }.frozenFlag = .frozen
      ∧ { q with frozenFlag := .thawed }.frozenFlag = .thawed
      ∧ (⟨some (-20), some (-20), 0, 100⟩ : Temperature).latest = some (-20)
      ∧ (⟨none, some (-19), 2, 100⟩ : Temperature).heldLogs < ready.geometry.tempHoldLimit
      ∧ ready.geometry.tempHoldLimit ≤ (⟨none, some (-19), 3, 100⟩ : Temperature).heldLogs ∧ ready.temp.lastValid = none := by
  decide +kernel

theorem test_meets_HeadEventCreatesAProvisionalRecord :
    let five := { ready with queue := [0, 1, 2, 3, 4].map fun (k : Tag) => ready.orphanRecord k 10000 }
    five.mode = .run ∧ five.queue.length = 5 ∧ five.freeTag = some 5 ∧ five.headIsLog = false
      ∧ (∀ r ∈ [RotorId.r1, .r2], reached five.feed.peak
        (posAdd 10000 ((five.geometry.toolPlane r : Int) - five.geometry.entryLead)) = false)
      ∧ (five.current? .r1).isSome = true ∧ ready.current? .r1 = none
      ∧ 6 ≤ ({ five with queue := five.queue ++ [ready.orphanRecord 5 10000] } : State).queue.length
      ∧ (staged .log (areaOf [1, 0, 0, 0, 4000, 0, 0, 1, 0, 400])).checkHead.manifest.staged.map StagedTicket.check = [.passed]
      ∧ (staged .log (areaOf [1, 0, 32])).checkHead.manifest.staged.map StagedTicket.check = [.failed .speciesRange]
      ∧ (staged .log []).mode = .config ∧ ready.queue = [] ∧ five.queue.getLast?.map Record.tag = some 4
      ∧ record3.tail = some 104000 := by decide +kernel

/-- The table of R65 at the bounds of "joint gap" and "entry lead". -/
theorem test_relation_follows_the_table_of_R65 :
    let stub := { record3 with kind := .stub }
    [ready.relationTo 104149 (some record3), ready.relationTo 104150 (some record3), ready.relationTo 104299 (some record3),
      ready.relationTo 104300 (some record3), ready.relationTo 104299 (some stub), ready.relationTo 104300 (some stub),
      ready.relationTo 104149 none] = [.joint, .close, .close, .apart, .stubBehind, .apart, .apart] := by decide +kernel

theorem test_meets_TailEventClassifiesTheRecord :
    let q := ready.orphanRecord 0 10000
    ({ ready with queue := [q] } : State).queue.getLast? = some q
      ∧ reached ready.feed.peak (posAdd 10499 ready.geometry.d3) = false ∧ (posDiff 10499 q.head).toNat < ready.geometry.stubLimit
      ∧ ready.geometry.stubLimit ≤ (posDiff 10500 q.head).toNat ∧ q.kind = .orphan ∧ { q with kind := .log }.kind = .log
      ∧ (ready.geometry.lengthTolerance : Int) < (((posDiff 10500 q.head).toNat : Int) - (801 : Nat)).natAbs := by decide +kernel

/-- A head event on an empty staged queue makes an ORPHAN and calls a scan; a head that is no LOG ticket stays as it is, and no scan is
called (R25, R48). -/
theorem test_head_event_calls_a_scan :
    let s : State := { ready with cfg := { ready.cfg with preload := .marker } }
    let e : StagedTicket := ⟨30, .sync, 0x305, [], .notMade, false⟩
    let u : State := { s with manifest := { s.manifest with staged := [e] } }
    (s.headEvent 10000).manifest = { s.manifest with scanning := true } ∧ (u.headEvent 10000).manifest = u.manifest
      ∧ (s.headEvent 10000).queue.map (fun q => (q.kind, q.working)) = [(.orphan, s.geometry.maxLogLength)] := by decide +kernel

/-- A confirmed LOG of 500 mm: its ticket leaves and the SYNC behind it is the head, a scan is called, and its length is judged against "length
tolerance" (R33, R53, R55). -/
theorem test_tail_event_confirms_the_log :
    let e (k : TicketKind) : StagedTicket := ⟨30, k, 0x305, [], .passed, true⟩
    let log (m : Option Nat) : State := { ready with
      cfg := { ready.cfg with preload := .marker }
      queue := [{ ready.orphanRecord 0 10000 with kind := .log, frame := some 30, expected := m }]
      manifest := { ready.manifest with staged := [e .log, e .sync] } }
    let seen (t : State) : List (Bool × Word) := t.queue.map fun q => (q.lengthMismatch, t.counters.mismatches)
    ((log none).tailEvent 10500).manifest.staged.map StagedTicket.kind = [.sync]
      ∧ ((log none).tailEvent 10500).manifest.scanning = true
      ∧ [none, some 800, some 801].map (fun m => seen ((log m).tailEvent 10500)) = [[(false, 0)], [(false, 0)], [(true, 1)]] := by
  decide +kernel

/-- The record of section 5.5 at a phase at rotor 2, its tail declared or not, and the records behind it. -/
def phased (ph : Phase) (tail : Option Pos) (behind : List Record) (peak : Pos) : State :=
  { bodyAt peak with queue :=
    { record3 with tail := tail, view2 := { record3.view2 with phase := ph, followed := 0 } } :: behind }

/-- A record behind it at rotor 2, of a relation and a phase. -/
def follower (rel : Relation) (ph : Phase) : Record :=
  { record3 with tag := 4, frame := none, head := 104080, tail := none, relation := rel, view1 := { record3.view1 with phase := ph }
                 view2 := { record3.view2 with phase := ph } }

/-- A record in LIFT, ENTRY and BODY at rotor 2 whose tail is handed over; in ENTRY with BODY skipped, by a long ramp, and not. -/
theorem test_meets_the_hand_over_of_TailEventClassifiesTheRecord :
    let q (ph : Phase) : Record := { record3 with tail := none, view2 := { record3.view2 with phase := ph, followed := 3900 } }
    let y (ph : Phase) (tail : Pos) (n : Nat) : Record := { q ph with tail := some tail, working := n }
    (∀ r, (phased .lift none [] 103100).handOverAhead r (y .lift 100300 300) 100300)
      ∧ (∀ r, (phased .entry none [] 103100).handOverAhead r (y .entry 100600 600) 100600)
      ∧ (∀ r, (phased .body none [] 107110).handOverAhead r (y .body 104000 4000) 104000)
      ∧ reached (posAdd 100000 (3200 + 1000)) (posAdd 100600 (3200 - 60)) = true
      ∧ reached (posAdd 100000 (3200 + 250)) (posAdd 100600 (3200 - 60)) = false
      ∧ ((phased .lift none [] 103100).current? .r2).map Record.tag = some 3
      ∧ ((phased .lift none [] 103100).arm .a21).state = .engaged ∧ (q .lift).kind ≠ .stub
      ∧ ((phased .lift none [] 103100).queue.map Record.tag).Nodup := by
  refine ⟨?_, ?_, ?_, by decide +kernel⟩
  · rintro (_ | _)
    · exact ⟨fun h => absurd h (by decide), fun h => absurd h (by decide), fun h => absurd h (by decide)⟩
    · refine ⟨fun _ _ => ?_, fun h => absurd h (by decide), fun h => absurd h (by decide)⟩
      unfold State.ahead
      decide +kernel
  · rintro (_ | _)
    · exact ⟨fun h => absurd h (by decide), fun h => absurd h (by decide), fun h => absurd h (by decide)⟩
    · refine ⟨fun h => absurd h (by decide), fun _ _ => ?_, fun h => absurd h (by decide)⟩
      unfold State.ahead
      decide +kernel
  · rintro (_ | _)
    · exact ⟨fun h => absurd h (by decide), fun h => absurd h (by decide), fun h => absurd h (by decide)⟩
    · refine ⟨fun h => absurd h (by decide), fun h => absurd h (by decide), fun _ _ => ⟨?_, ?_⟩⟩
      · rintro d ⟨h, -, hd, -⟩
        exfalso
        rcases h with ⟨p, hp, rfl⟩ | ⟨row, hr, h⟩
        · simp only [record3, List.mem_cons, List.not_mem_nil, or_false] at hp
          rcases hp with rfl | rfl | rfl <;> exact absurd hd (by decide)
        · cases hr
          rcases h with ⟨-, h | h⟩ | ⟨h, -⟩
          · subst h; exact absurd hd (by decide)
          · subst h; exact absurd hd (by decide)
          · cases h
      · rintro - tail h
        cases h
        unfold State.ahead
        decide +kernel

/-- What the hand-over does there: the lifts of a stub with its tail mark, the release mark in ENTRY, the re-armed mark in BODY. -/
theorem test_tail_is_handed_over :
    let at2 (ph : Phase) (p : Pos) : State := (phased ph none [] p)
    let long (s : State) : State := { s with geometry := { s.geometry with rampLength := 1000 } }
    (((at2 .lift 103100).tailEvent 100300).feed.marks.get .rotor2 3 = some ⟨.tail, 103500⟩
        ∧ (((at2 .lift 103100).tailEvent 100300).arm .a21).aperture = ready.geometry.maxAperture)
      ∧ ((long (at2 .entry 103100)).tailEvent 100600).feed.marks.get .rotor2 3 = some ⟨.release, 103740⟩
      ∧ ((at2 .entry 103100).tailEvent 100600).feed.marks.get .rotor2 3 = none
      ∧ ((at2 .body 107110).tailEvent 104000).feed.marks.get .transit 3 = some ⟨.outfeed, 107800⟩ := by decide +kernel

theorem test_meets_MarksFireOnceWhenReached :
    let q := { record3 with tail := none }
    let s := (phased .body none [follower .close .lift] 103450).setMark .rotor2 3 (some ⟨.rampEnd, 103450⟩)
    State.arming.placesAhead ∧ ready.dueMark = none ∧ reached s.feed.peak 103450 = true ∧ reached s.feed.peak 103451 = false
      ∧ (s.record? 3).map Record.tag = some 3
      ∧ s.dueMark.map (fun x => (x.1, x.2.1.tag, x.2.2)) = some (.rotor2, 3, ⟨.rampEnd, 103450⟩)
      ∧ reached s.feed.peak (posAdd 108250 s.geometry.reportWindow) = false ∧ q.frame = some 30 ∧ Result.worked.rejects = false := by
  refine ⟨fun u c t p x h => arming_ahead h, ?_⟩
  decide +kernel

theorem test_meets_LiftAndEntryMarksActOnTheArms :
    let s := phased .lift none [] 103100
    let d := phased .lift (some 100300) [] 103100
    ((s.record? 3).map Record.tag = some 3 ∧ reached s.feed.peak (s.firstMark .r2 record3).position = false)
      ∧ reached s.feed.peak (posAdd 100000 ((s.geometry.toolPlane .r2 : Int) + s.geometry.rampLength)) = false
      ∧ (reached (posAdd 100000 ((d.geometry.toolPlane .r2 : Int) + d.geometry.rampLength))
          (posAdd 100300 ((d.geometry.toolPlane .r2 : Int) - d.geometry.releaseLead)) = true
        ∧ reached d.feed.peak (posAdd 100300 ((d.geometry.toolPlane .r2 : Int) - d.geometry.releaseLead)) = false)
      ∧ (s.arm .a21).state = .engaged ∧ (s.arm .a11).state = .standby ∧ (jammed.arm .a23).state = .out
      ∧ (jammed.arm .a24).state = .opened ∧ (jammed.arm .a24).flow = .idle
      ∧ record3.row = some row12 ∧ record3.tempClass.isSome = true := by decide +kernel

/-- An ENGAGED and a PARKED arm are asked the LIFT of a record, with a slot free for none, and under vent hold. -/
theorem test_lift_mark_requests_the_lifts :
    let s := { phased .approach none [] 103100 with arbiter := ⟨0, [], []⟩ }.setArm .a21 { Arm.reset with state := .parked }
    let held := { s with supply := { s.supply with level := .critical } }
    let lift (u : State) (a : ArmId) : Flow := ((u.deliverMark State.arming .rotor2 record3 ⟨.lift, 103100⟩).arm a).flow
    [ArmId.a21, .a22].map (lift s) = [.waiting ⟨.lift, s.ownAperture record3, .urgent, true⟩,
        .waiting ⟨.lift, s.ownAperture record3, .urgent, false⟩]
      ∧ [ArmId.a21, .a22].map (lift held) = [.deferred (s.ownAperture record3) true, .deferred (s.ownAperture record3) false] := by
  decide +kernel

/-- Rotor 2 with arm 2.1 ENGAGED, arm 2.2 to return and arms 2.3 and 2.4 OUT: two active arms, UNUSABLE. -/
def thinned (s : State) : State :=
  let out (s : State) (a : ArmId) (p : Bool) : State :=
    s.setArm a { Arm.reset with state := .out, outCause := some .byTicket, returnPending := p, present := true }
  { out (out (out s .a22 true) .a23 false) .a24 false with holds := { s.holds with rotor2Unusable := true } }

/-- By the joint lift an arm returns: the count rises to three, the rotor is UNUSABLE no longer and ROTOR is raised; the monitor of the
ENGAGED arm stops (R74, R131, R159, R169). -/
theorem test_joint_lift_returns_an_arm_and_stops_the_monitors :
    let s := thinned (phased .body (some 104000) [follower .joint .approach] 106000)
    let t := s.deliverMark State.arming .rotor2 record3 ⟨.release, 107140⟩
    s.activeCount .r2 = 2 ∧ t.activeCount .r2 = 3 ∧ t.holds.rotor2Unusable = false ∧ t.pendingCause .rotor = true
      ∧ (t.arm .a21).state = .lifting ∧ (t.arm .a21).monitor.counting = false ∧ (t.arm .a22).state = .lifting
      ∧ (t.arm .a23).state = .out ∧ (s.arm .a21).monitor.counting = true := by decide +kernel

/-- An arm ENGAGED on a record in BODY is recomputed, before its own turn, for the arm that returns before it (R105, R132). -/
theorem test_a_returning_arm_calls_the_recompute :
    let s := thinned (bodyAt 104100)
    let u := s.withReturned [.a22]
    s.returning .r2 = [.a22] ∧ (s.beforeLift .a21) = s.arm .a21
      ∧ some (s.beforeLift .a25).target = u.targetFor .a25 record3 ∧ (s.beforeLift .a25).target ≠ (s.arm .a25).target
      ∧ (s.beforeLift .a25).target = ((s.askLifts .r2 400 (some 4)).arm .a25).target := by decide +kernel

/-- The first point beyond the ramp is the butt zone's end at 1,200 mm; beyond the last, 3,900 mm, none is followed. -/
theorem test_meets_BodyMarksFollowTheSectionPoints :
    (phased .entry none [] 103450).nearestAhead .r2 { record3 with tail := none } 250
      ∧ (phased .body none [] 107110).nearestAhead .r2 { record3 with tail := none } 3900 := by
  have hb : ∀ d, ({ record3 with tail := none } : Record).boundaryAt d → d = 1200 ∨ d = 3100 := by
    rintro d ⟨row, hr, h⟩
    cases hr
    rcases h with ⟨-, h | h⟩ | ⟨h, -⟩
    · exact .inl h
    · exact .inr h
    · cases h
  have hs : ∀ d : Int, (∃ p ∈ ({ record3 with tail := none } : Record).stations, d = p.distance) → d = 0 ∨ d = 2000 ∨ d = 3900 := by
    rintro d ⟨p, hp, rfl⟩
    simp only [record3, List.mem_cons, List.not_mem_nil, or_false] at hp
    rcases hp with rfl | rfl | rfl
    · exact .inl rfl
    · exact .inr (.inl rfl)
    · exact .inr (.inr rfl)
  refine ⟨⟨fun d h k => ?_, fun _ tail h => by cases h⟩, fun d h k => ?_, fun _ tail h => by cases h⟩
  · have h2 := k 1200 ⟨.inr ⟨row12, rfl, .inl ⟨rfl, .inl rfl⟩⟩, by decide, by decide, fun _ => by decide, fun h => by cases h⟩
    have h3 : d = 1200 := by
      rcases h with ⟨h | h, hr, -⟩
      · rcases hs d h with rfl | rfl | rfl
        · exact absurd hr (by decide)
        · exact absurd h2 (by decide)
        · exact absurd h2 (by decide)
      · rcases hb d h with rfl | rfl
        · rfl
        · exact absurd h2 (by decide)
    subst h3
    unfold State.ahead
    decide +kernel
  · exfalso
    rcases h with ⟨h | h, -, hr, -⟩
    · rcases hs d h with rfl | rfl | rfl <;> exact absurd hr (by decide)
    · rcases hb d h with rfl | rfl <;> exact absurd hr (by decide)

theorem test_meets_ReleaseAndTailMarksPassTheRecordOn :
    let s (b : List Record) := phased .release (some 104000) b 106800
    let u (b : List Record) := (s b).updView .r2 3 fun w => { w with phase := .passed }
    (reached (s []).feed.peak (posAdd 104000 (ready.geometry.toolPlane .r2)) = false
        ∧ (s []).next? .r2 = none ∧ ((s [follower .joint .approach]).next? .r2).map (fun b => (b.tag, b.relation)) = some (4, .joint)
        ∧ ((s []).arm .a21).state = .engaged ∧ ((s []).arm .a21).tag = some 3)
      ∧ (u []).current? .r2 = none
      ∧ (∀ rel ∈ [Relation.apart, .close, .joint, .stubBehind], ((u [follower rel .approach]).current? .r2).map
          (fun b => (b.tag, b.phase .r2, b.relation)) = some (4, .approach, rel))
      ∧ ((u [follower .joint .lift]).current? .r2).map (fun b => (b.tag, b.phase .r2)) = some (4, .lift)
      ∧ reached (s []).feed.peak ((s []).firstMark .r2 (follower .joint .lift)).position = false
      ∧ reached (s []).feed.peak (posAdd 104080 ((ready.geometry.toolPlane .r2 : Int) - ready.geometry.entryLead)) = false
      ∧ ((after (.moveTimeout .a23) charging).arm .a23).state = .out := by decide +kernel

/-- An arm in each flow state, for a result above and below what it works toward. -/
theorem test_meets_TargetsFollowTheTenStepsAndActOnTheArm :
    let waits := { engaged with flow := .waiting ⟨.charge, 400, .low, false⟩ }
    (strictlyRising record3.stations = true ∧ record3.stations = [⟨0, 420⟩] ++ ⟨2000, 300⟩ :: ⟨3900, 240⟩ :: []
        ∧ diameterAt record3.stations 2001 = 300 - ((60 : Int) * 1).tdiv 1900 ∧ diameterAt record3.stations 3899 = 241)
      ∧ (engaged.isLifting = false ∧ engaged.flow = .idle ∧ engaged.commanded < 358 ∧ (12 : Nat) ≤ ((358 : Int) - engaged.aim).natAbs
        ∧ ((357 : Int) - engaged.aim).natAbs < 12 ∧ ready.ventHeld .a21 = false ∧ jammed.ventHeld .a12 = true)
      ∧ (waits.commanded < 358 ∧ 346 ≤ waits.commanded ∧ waits.aim = 400 ∧ FlowClass.high.rank < FlowClass.low.rank)
      ∧ ((charging.arm .a23).flow = .inFlight ⟨.charge, 262, .high, false⟩ 153 200 ∧ (charging.arm .a23).aim = 262) := by
  decide +kernel

/-- An arm with a LIFT in flight, with or without a record in the queue. -/
def liftInFlight (records : List Record) : State :=
  { ready with
    queue := records
    arbiter := ⟨4, [.a23], []⟩
    arms := ready.arms.set .a23 { Arm.reset with
      state := .lifting, tag := some 3, aperture := 400, flow := .inFlight ⟨.lift, 400, .urgent, true⟩ 6 400 } }

theorem test_meets_SettledReportCompletesTheMove :
    (ready.arm .a23).flow.isInFlight = false ∧ (charging.arm .a23).flow = .inFlight ⟨.charge, 262, .high, false⟩ 153 200
      ∧ ((liftInFlight [record3]).arm .a23).flow = .inFlight ⟨.lift, 400, .urgent, true⟩ 6 400
      ∧ ((liftInFlight [record3]).current? (rotorOf .a23)).isSome = true ∧ (liftInFlight []).current? (rotorOf .a23) = none
      ∧ (liftInFlight []).latch = false := by decide +kernel

theorem test_meets_MoveTimeoutPutsTheArmOut :
    charging.running ∧ (charging.arm .a23).flow = .inFlight ⟨.charge, 262, .high, false⟩ 153 200
      ∧ (∀ a ∈ allArms, (charging.arm a).state = .out → (charging.arm a).flow = .idle)
      ∧ (charging.arm .a24).state = .engaged ∧ usabilityOf (charging.activeCount .r2) = .full := by decide +kernel

/-- The count falls from 5 to 4, from 4 to 3 and from 3 to 2: ROTOR at the first and the last, and the UNUSABLE hold cause at the last. -/
theorem test_usability_follows_the_count :
    let four := after (.presenceLoss .a25) (bodyAt 104100)
    let three := after (.presenceLoss .a24) { four with cause := 0 }
    let two := after (.presenceLoss .a23) { three with cause := 0 }
    [four, three, two].map (fun (s : State) => (s.activeCount .r2, s.pendingCause .rotor, s.holds.rotor2Unusable, s.holds.rotor1Unusable))
        = [(4, true, false, false), (3, false, false, false), (2, true, true, false)]
      ∧ two.queue.map (fun q => q.view2.minActive) = [some 2] ∧ two.queue.map (fun q => q.view1.minActive) = [some 5] := by
  decide +kernel

theorem test_meets_PresenceChangesAreTaken :
    (ready.arm .a25).present = true ∧ ((after (.presenceLoss .a25) ready).arm .a25).present = false
      ∧ ((after (.presenceLoss .a25) ready).arm .a25).state = .out
      ∧ ((ready.setArm .a25 { Arm.reset with present := false }).arm .a25).state ≠ .out := by decide +kernel

theorem test_meets_ParkTimerParksTheStandbyArms :
    (ready.rotor .r1).park = none
      ∧ (({ ready with rotor1 := { ready.rotor1 with park := some 10353 } } : State).rotor .r1).park = some 10353 := by decide +kernel

/-- Section 7.9: two requests wait, a NORMAL one elevated, with a slot free and a protection timer running. -/
theorem test_meets_ArbiterGrantsAllItCanInItsOrder :
    let s := { bodyAt 104100 with
      arbiter := ⟨1, [], [⟨.a21, 975, false⟩, ⟨.a22, 980, true⟩]⟩
      rotor2 := { ready.rotor2 with protection := some 29 }
      arms := ((bodyAt 104100).arms.set .a21 { engaged with flow := .waiting ⟨.charge, 250, .normal, false⟩ }).set .a22
        { engaged with flow := .waiting ⟨.charge, 250, .low, false⟩ } }
    s.arbiter.inFlight.length < s.arbiter.slots ∧ s.choose = some ⟨.a22, 980, true⟩
      ∧ ({ s with supply := { s.supply with level := .low } } : State).choose = none
      ∧ s.arbitrate.arbiter.inFlight = [.a22]
      ∧ (s.arm .a21).flow = .waiting ⟨.charge, 250, .normal, false⟩ ∧ s.waitingClass .a21 = some .normal := by decide +kernel

/-- A waiting request of one class. -/
def waiting (cls : FlowClass) : State :=
  { bodyAt 104100 with
    arbiter := ⟨0, [], [⟨.a22, 975, false⟩]⟩
    rotor1 := { ready.rotor1 with protection := some 29 }
    arms := (bodyAt 104100).arms.set .a22 { engaged with flow := .waiting ⟨.charge, 250, cls, false⟩ } }

theorem test_meets_ElevationAndProtectionExpire :
    ((waiting .normal).arbiter.wait.find? fun x => x.arm == .a22) = some ⟨.a22, 975, false⟩
      ∧ (({ waiting .normal with arbiter := ⟨0, [], [⟨.a22, 975, true⟩]⟩ } : State).arbiter.wait.find? fun x => x.arm == .a22)
        = some ⟨.a22, 975, true⟩
      ∧ (∀ x ∈ (waiting .normal).arbiter.wait, x.arm ≠ .a21)
      ∧ ((waiting .normal).waitingClass .a22).bind (fairnessLimit (waiting .normal).geometry) = some 40
      ∧ (waiting .urgent).waitingClass .a22 = some .urgent ∧ (ready.rotor .r1).protection = none
      ∧ ((waiting .normal).rotor .r1).protection = some 29 := by decide +kernel

theorem test_meets_ImpactCountLeaks :
    let free := (struck 0 0 none none false).arm .a24
    let full := (struck 0 6 none none true).arm .a24
    let four := (struck 0 5 none (some 9) true).arm .a24
    (ready.arm .a24).state ≠ .engaged ∧ (ready.arm .a24).monitor.burst = none ∧ (ready.arm .a24).monitor.decay = none
      ∧ free.state = .engaged ∧ free.monitor.counting = true ∧ free.monitor.burst = none
      ∧ free.monitor.params = some ⟨30, 4, 6, 100⟩ ∧ free.monitor.counter + 1 ≠ 4 ∧ ¬ full.monitor.counter < 6
      ∧ ((struck 0 0 (some 30) none false).arm .a24).monitor.burst = some 30
      ∧ four.monitor.decay = some 9 ∧ four.monitor.counter ≠ 4 := by decide +kernel

theorem test_meets_ReliefFollowsTheThreshold :
    let below := (struck 0 3 none none false).arm .a24
    let at4 := (struck 0 4 none (some 9) true).arm .a24
    below.monitor.params = some ⟨30, 4, 6, 100⟩ ∧ below.state = .engaged ∧ below.monitor.counting = true
      ∧ below.monitor.burst = none ∧ below.monitor.counter < 6 ∧ below.monitor.counter + 1 = 4 ∧ below.monitor.tag = some 3
      ∧ at4.monitor.decay = some 9 ∧ at4.monitor.counter = 4 := by decide +kernel

/-- Relief clears on an arm ENGAGED at a lower pressure: a CHARGE of class LOW. -/
theorem test_cleared_relief_charges_low :
    let s := struck 500 4 none (some 540) true
    let low := s.setArm .a24 { s.arm .a24 with commanded := 266, target := 266 }
    ((after (.decayExpiry .a24) low).arm .a24).flow.request? = some ⟨.charge, 346, .low, false⟩ := by decide +kernel

theorem test_meets_SupplyLevelFollowsItsTable :
    ready.running ∧ ready.geometry.supplyCritical + ready.geometry.supplyHysteresis < ready.geometry.supplyLow
      ∧ nextLevel ready.geometry ready.supply.level (supplyReading ready.geometry 11200) = ready.supply.level := by decide +kernel

theorem test_meets_CriticalSupplyHoldsAndReleasesTheArms :
    let held := after (.supplySample 3599) (liftInFlight [record3])
    nextLevel ready.geometry ready.supply.level (supplyReading ready.geometry 3599) = .critical ∧ ready.supply.level ≠ .critical
      ∧ held.supply.level = .critical ∧ (held.rotor (rotorOf .a23)).drive = .ready
      ∧ nextLevel held.geometry held.supply.level (supplyReading held.geometry 9600) = .low
      ∧ (held.arm .a23).flow = .deferred 400 true
      ∧ nextLevel ready.geometry ready.supply.level (supplyReading ready.geometry 20001) = ready.supply.level
      ∧ nextLevel ready.geometry .normal (supplyReading ready.geometry 10400) = .low
      ∧ nextLevel ready.geometry .low (supplyReading ready.geometry 11680) = .normal := by decide +kernel

/-- An ENGAGED arm under vent hold: it has a target for its record, above its commanded pressure. -/
theorem test_meets_the_recompute_of_CriticalSupplyHoldsAndReleasesTheArms :
    let held := after (.supplySample 3599) (bodyAt 104100)
    (held.arm .a23).flow = .idle ∧ (held.arm .a23).state = .engaged
      ∧ (((held.arm .a23).tag.bind held.record?).bind fun q => held.targetFor .a23 q).map (fun v => decide (0 < v)) = some true
      ∧ (held.arm .a23).commanded = 0 ∧ (held.arm .a23).valve = .vent 0
      ∧ ((after (.supplySample 20000) held).arm .a23).flow.request?.map (fun x => (x.kind, x.cls)) = some (.charge, .normal) := by
  decide +kernel

theorem test_meets_DriveFollowsAtSpeedAndSettleTimer :
    let down := { ready with rotor1 := ⟨none, .down, none, false, none⟩ }
    let settling := { ready with rotor2 := ⟨none, .settling, some 2000, true, none⟩ }
    let lost := after (.atSpeedInactive .r2) (liftInFlight [record3])
    (ready.rotor .r1).atSpeed = true ∧ (ready.rotor .r1).drive = .ready ∧ (ready.rotor .r1).settle = none
      ∧ (down.rotor .r1).atSpeed = false ∧ (down.rotor .r1).drive = .down
      ∧ (settling.rotor .r2).atSpeed = true ∧ (settling.rotor .r2).drive = .settling ∧ (settling.rotor .r2).settle = some 2000
      ∧ rotorOf .a23 = .r2 ∧ (lost.arm .a23).flow = .deferred 400 true
      ∧ ready.supply.level ≠ .critical ∧ State.reset.supply.level = .critical ∧ State.reset.arbiter.wait = []
      ∧ (ready.rotor (rotorOf .a25)).drive = .ready ∧ rotorOf .a15 ≠ .r2 := by decide +kernel

/-- An ENGAGED arm of a rotor whose drive settles, and the CHARGE that the settle timer's expiry asks of it. -/
theorem test_meets_the_recompute_of_DriveFollowsAtSpeedAndSettleTimer :
    let lost := after (.atSpeedActive .r2) (after (.atSpeedInactive .r2) (bodyAt 104100))
    lost.supply.level ≠ .critical ∧ (lost.rotor .r2).settle.isSome = true
      ∧ (lost.arm .a23).flow = .idle ∧ (lost.arm .a23).state = .engaged
      ∧ (((lost.arm .a23).tag.bind lost.record?).bind fun q => lost.targetFor .a23 q).map (fun v => decide (0 < v)) = some true
      ∧ ((after (.settleTimerExpiry .r2) lost).arm .a23).flow.request?.map (fun x => (x.kind, x.cls)) = some (.charge, .normal) := by
  decide +kernel

theorem test_meets_ReceiverCollectsTheFrame :
    let at3 := awaiting 0 100 0
    ready.quality.buffer = [] ∧ ready.quality.gap = none ∧ at3.quality.buffer = [0xA5, 100, 0] ∧ at3.quality.gap = some 0
      ∧ (0xA5 + 100 + 0 : Byte) = 0x09 ∧ (0xA5 + 101 + 0 : Byte) = 0x0A ∧ 100 < (101 : Byte).toNat ∧ (100 : Byte).toNat ≤ 100
      ∧ ({ at3 with quality := { at3.quality with buffer := [0xA5, 100] } } : State).quality.buffer = 0xA5 :: [100]
      ∧ ∀ q ∈ ({ at3 with queue := [record3] } : State).queue, q.outfeed = .inMachine := by decide +kernel

theorem test_meets_MatchedReportClosesAndTeaches :
    let s := awaiting 0 100 0
    let none9 := { s with queue := s.queue.map fun (q : Record) => { q with noLearn := true } }
    let orphan := { s with queue := s.queue.map fun (q : Record) => { q with kind := .orphan } }
    s.quality.buffer = [0xA5, 100, 0] ∧ (0xA5 + 100 + 0 : Byte) = 0x09 ∧ (100 : Byte).toNat ≤ 100
      ∧ (0xA5 + 0 + 2 : Byte) = 0xA7 ∧ (2 : Byte).getLsbD 1 = true
      ∧ (s.queue.find? fun x => x.outfeed == .awaitReport).map (fun q => (q.kind, q.tempClass, suppression q (s.row q.rowUsed))) =
        some (.log, some .thawed, .notSuppressed)
      ∧ (none9.queue.find? fun x => x.outfeed == .awaitReport).map (fun q => suppression q (s.row q.rowUsed)) = some .noLearn
      ∧ (orphan.queue.find? fun x => x.outfeed == .awaitReport).map Record.kind = some .orphan := by decide +kernel

/-- The table of R182 in its order: each record meets its reason and every later one. -/
theorem test_suppression_follows_the_table_of_R182 :
    let q8 := { record3 with view1 := { record3.view1 with minActive := some 4 } }
    let q7 := { q8 with view2 := { q8.view2 with lateLifts := 1 } }
    let q6 := { q7 with rotorDown := true }
    let q5 := { q6 with stall := true }
    let q3 := { q5 with rowUsed := 0 }
    let q2 := { q3 with profileFault := some .diameter }
    let q1 := { q2 with noLearn := true }
    [suppression q1 row12, suppression q2 row12, suppression q3 row12, suppression q5 { row12 with valid := false },
        suppression q5 row12, suppression q6 row12, suppression q7 row12, suppression q8 row12, suppression record3 row12]
      = [.noLearn, .profileFault, .guardRow, .rowInvalid, .stall, .rotorDown, .lateLift, .armsBelowFull, .notSuppressed] := by
  decide +kernel

theorem test_meets_ModeRequestIsTakenWhenTheTableAllows :
    ready.running ∧ Mode.hold ≠ ready.mode ∧ ready.mode = .run
      ∧ ({ ready with mode := .config } : State).geometryValid = true ∧ ready.queue = []
      ∧ (bodyAt 0).queue ≠ [] ∧ State.reset.geometryValid = false := by decide +kernel

theorem test_meets_ModeChangeHasItsEffects :
    Mode.run = ready.mode ∧ Mode.hold ≠ ready.mode ∧ ready.modeAllowed .hold = true
      ∧ ({ ready with mode := .hold } : State).modeAllowed .service = true
      ∧ ({ ready with mode := .service } : State).modeAllowed .config = true := by decide +kernel

/-- On entry to SERVICE an arm OUT with return-pending returns, a PARKED one stays and a STANDBY one is vented again. -/
theorem test_service_sends_the_arms_to_standby :
    let s := ({ ready with mode := .hold }.setArm .a25 { Arm.reset with state := .out, returnPending := true }).setArm .a24
      { Arm.reset with state := .parked }
    let t := after .modeRequestService s
    s.modeAllowed .service = true ∧ [ArmId.a25, .a24, .a23].map (fun a => (t.arm a).state) = [.standby, .parked, .standby]
      ∧ (t.arm .a25).returnPending = false ∧ t.activeCount .r2 = 5 ∧ t.pendingCause .rotor = true := by decide +kernel

theorem test_meets_TrackClearNeedsAClearEye :
    ready.latch = false ∧ ({ ready with latch := true } : State).latch = true ∧ ready.feed.eyeIn.declared = .clear
      ∧ ready.queue = [] ∧ (∀ a ∈ allArms, (ready.arm a).state = .out → (ready.arm a).returnPending = false)
      ∧ ({ ready with feed := { ready.feed with eyeIn := ⟨.blocked, none⟩ } } : State).feed.eyeIn.declared = .blocked := by
  decide +kernel

theorem test_meets_ResetsGiveTheResetValues :
    ready.running ∧ ready.cfg.save = none ∧ ready.cfg.transfer = none ∧ (after .powerReset ready).resetHeld.isSome = true := by
  decide +kernel

theorem test_meets_HostWritesReachTheRegistersAndTheRam :
    ready.running ∧ 0x14 < (0x16#16 : Word).toNat ∧ (0x8000#16 : Word).getLsbD 15 = true ∧ (4#16 : Word).toNat = Mode.service.code
      ∧ (0xFFFE#16 : Word).toNat % 2 = 0 ∧ (after .powerReset ready).resetHeld.isSome = true
      ∧ (loaded false).running ∧ ready.readRegister 0x04 = 0x00D2#16 := by decide +kernel

/-- CONTROL words that request no mode, alone and with SCAN and TRACK_CLEAR, and one that requests HOLD with both. -/
theorem test_meets_the_control_writes_of_HostWritesReachTheRegistersAndTheRam :
    (∀ m : Mode, (0x0000#16 &&& 7#16).toNat ≠ m.code) ∧ (∀ m : Mode, (0x7FCF#16 &&& 7#16).toNat ≠ m.code)
      ∧ (∀ m : Mode, (0x0035#16 &&& 7#16).toNat ≠ m.code) ∧ (0x0033#16 &&& 7#16).toNat = Mode.hold.code
      ∧ ((0x7FCF#16).getLsbD 15 = false ∧ (0x7FCF#16).getLsbD 4 = false ∧ (0x7FCF#16).getLsbD 5 = false) := by
  refine ⟨?_, ?_, ?_, by decide, by decide⟩ <;> rintro (_ | _ | _ | _) <;> decide

theorem test_meets_AccessPortMovesFourBytes :
    let s := loaded false
    let read := s.writePort 0x1FFC
    let write := s.writePort 0x9FFC
    let behind := { read with cfg := { read.cfg with save := some ⟨30, 0x305, none, 0, []⟩ } }
    ready.cfgBusy = true ∧ s.cfgBusy = false ∧ (0x1FFC#16 : Word).getLsbD 15 = false ∧ (0x9FFC#16 : Word).getLsbD 15 = true
      ∧ s.cfg.transfer = none ∧ s.cfg.save = none ∧ read.cfg.transfer = some ⟨false, 0x1FFC, [], 10⟩
      ∧ write.cfg.transfer = some ⟨true, 0x1FFC, [0, 0, 0, 0], 10⟩ ∧ ready.cfg.preload = .running
      ∧ (1 : Byte).getLsbD 0 = true ∧ (0xFE : Byte).getLsbD 0 = false
      ∧ behind.transferAnswered.cfg.save.bind Save.page = some ⟨1, s.geometry.toBytes.take 64, 10⟩
      ∧ behind.transferExpired.cfg.save.bind Save.page = some ⟨1, s.geometry.toBytes.take 64, 20⟩ := by decide +kernel

theorem test_meets_SaveWritesItsPagesInOrder :
    ready.cfg.save.bind Save.page = none ∧ lastPage.cfg.transfer = none ∧ (loaded false).cfg.preload ≠ .running
      ∧ lastPage.cfg.save.bind Save.page = some ⟨0, headerBytes 0x1234, 10⟩
      ∧ applyWorn (headerBytes 0x1234) [(63, 1)] ≠ headerBytes 0x1234
      ∧ ∀ k ∈ [1, 2, 33, 34], ((some (Save.mk 30 0x305 (some ⟨k, [], 10⟩) 0 [])).bind Save.page).map SavePage.index = some k := by
  decide +kernel

theorem test_meets_PreloadInstallsTheStoredTables :
    State.reset.running ∧ State.reset.cfg.preload = .running ∧ State.reset.manifest.scanning = false
      ∧ (loaded false).cfg.preload ≠ .running := by decide +kernel

/-! A state other than that of reset meets the invariants, and every step from it answers. -/

theorem test_meets_memoriesCanonical : ready.memoriesCanonical := by
  unfold State.memoriesCanonical
  decide +kernel

theorem test_meets_holdsStand : ready.holdsStand :=
  ⟨by decide +kernel, fun a _ => by cases a <;> decide +kernel⟩

theorem test_meets_flowAgrees : ready.flowAgrees :=
  ⟨fun a => by cases a <;> decide +kernel, fun a _ => by cases a <;> decide +kernel, by decide +kernel, by decide +kernel,
    fun a => by cases a <;> decide +kernel, fun a => by cases a <;> decide +kernel⟩

theorem test_meets_slotsFollowSupply : ready.slotsFollowSupply := by
  unfold State.slotsFollowSupply State.geometryConsistent
  decide +kernel

theorem test_meets_impactBounded : (struck 0 6 none none true).impactBounded := by
  have h : ∀ a ∈ allArms, ((struck 0 6 none none true).arm a).monitor.params = some ⟨30, 4, 6, 100⟩
      ∧ ((struck 0 6 none none true).arm a).monitor.counter ≤ 6 ∨ ((struck 0 6 none none true).arm a).monitor.params = none := by
    decide +kernel
  intro a p hp
  have ha : a ∈ allArms := by cases a <;> decide
  rcases h a ha with ⟨h1, h2⟩ | h1
  · rw [h1] at hp; cases hp; exact h2
  · rw [h1] at hp; cases hp

theorem test_meets_trimsBounded : (ready.setRow 31 row12).trimsBounded := by
  unfold State.trimsBounded
  decide +kernel

theorem test_meets_readerBounded_registersLegal_framesAreTickets :
    posted.readerBounded ∧ posted.registersLegal ∧ posted.framesAreTickets := by
  refine ⟨?_, ⟨by decide +kernel, by decide +kernel, by decide +kernel, by decide +kernel, by decide +kernel, by decide +kernel, ?_, ?_⟩,
    by decide +kernel, ?_, ?_, ?_⟩
  · unfold State.readerBounded; decide +kernel
  · intro p hp; cases hp
  · intro x hx; cases hx
  · intro e he; cases he
  · intro q hq; cases hq
  · intro x hx; cases hx

/-- An invariant of every step meets a step that answers a next state. -/
theorem test_a_step_answers : ∃ t, step ready = .next t := ⟨_, rfl⟩

/-- A staged head, in-flight and waiting requests, and an arm in each flow state, for the fields of the published frames. -/
theorem test_meets_the_fields_of_PublishedFramesShowTheState :
    (staged .sync []).manifest.staged = [⟨30, .sync, 0x305, [], .notMade, false⟩] ∧ ready.manifest.staged = []
      ∧ charging.arbiter.inFlight[0]? = some .a23 ∧ (charging.arm .a23).flow.request? = some ⟨.charge, 262, .high, false⟩
      ∧ (waiting .normal).arbiter.wait[0]? = some ⟨.a22, 975, false⟩
      ∧ ((waiting .normal).arm .a22).flow = .waiting ⟨.charge, 250, .normal, false⟩
      ∧ ((after (.supplySample 3599) (liftInFlight [record3])).arm .a23).flow = .deferred 400 true
      ∧ (ready.arm .a25).flow = .idle ∧ (bodyAt 104100).queue[0]? = some record3
      ∧ (staged .sync []).manifest.staged.length ≤ 1 ∧ charging.arbiter.inFlight.length ≤ 1
      ∧ (waiting .normal).arbiter.wait.length ≤ 1 ∧ (bodyAt 104100).queue.length ≤ 1 := by decide +kernel

/-- The frames of a part that has just published show its state, and a command leaves it publishing. -/
theorem test_meets_PublishedFramesShowTheState :
    let s := (loaded false).rewriteAll
    s.framesAreTickets ∧ s.publishes = true ∧ s.imageStands ∧ ∃ t, exec (.causeWrite 1) s = .next t ∧ t.publishes = true := by
  have hr : (loaded false).rewriteAll.running := by decide +kernel
  have hx : exec (.causeWrite 1) (loaded false).rewriteAll
      = act (loaded false).rewriteAll fun s => s.clearCauses 1 := rfl
  refine ⟨⟨by decide +kernel, ?_, ?_, ?_⟩, by decide +kernel, imageStands_rewriteAll _, _, hx.trans (act_running hr _), ?_⟩
  · intro e he; cases he
  · intro q hq; cases hq
  · intro x hx; cases hx
  · obtain ⟨m, h, -⟩ := publish_ram (loaded false).rewriteAll ((loaded false).rewriteAll.clearCauses 1)
    rw [h]
    rfl

end Sys2Proof.Tests
end

section
/-! PROOF. The link fault of a scan (R28): what one step of a scan does to the LINK cause and to the end reason. -/

namespace Sys2Proof.Machine

/-! ### One step of a scan, by the link of the cursor frame (R27) -/

theorem scanStep_eq_scanOnce {s : State} (h : s.manifest.scanning = true) : s.scanStep = s.scanOnce := by
  rw [State.scanStep, if_pos h]

theorem scanOnce_of_chainEnd {s : State} (h : s.manifest.staged.length < 4)
    (hlink : (s.ram.word (frameAddr s.manifest.cursor 0)).toNat = 0) : s.scanOnce = s.endScan .chainEnd := by
  rw [State.scanOnce, if_neg (Nat.not_le.mpr h)]
  exact if_pos hlink

theorem scanOnce_of_linkFault {s : State} (h : s.manifest.staged.length < 4)
    (hlink : 239 < (s.ram.word (frameAddr s.manifest.cursor 0)).toNat) :
    s.scanOnce = (s.raise .link).endScan .linkFault := by
  have hpos : (s.ram.word (frameAddr s.manifest.cursor 0)).toNat ≠ 0 := by omega
  rw [State.scanOnce, if_neg (Nat.not_le.mpr h)]
  exact (if_neg hpos).trans (if_pos hlink)

theorem scanOnce_of_linked {s : State} (h : s.manifest.staged.length < 4)
    (hpos : (s.ram.word (frameAddr s.manifest.cursor 0)).toNat ≠ 0)
    (hlink : (s.ram.word (frameAddr s.manifest.cursor 0)).toNat ≤ 239) :
    s.scanOnce = s.scanFrame (s.ram.word (frameAddr s.manifest.cursor 0)).toNat := by
  rw [State.scanOnce, if_neg (Nat.not_le.mpr h)]
  exact (if_neg hpos).trans (if_neg (Nat.not_lt.mpr hlink))

/-- The three things a linked frame 1 to 239 can bring: the scan ends NOT POSTED or HELD, the frame is rejected, or it is
taken (R27 steps 4 to 7). -/
theorem scanFrame_cases (s : State) (f : Nat) :
    (∃ why, (why = .notPosted ∨ why = .held) ∧ s.scanFrame f = s.endScan why)
      ∨ (∃ res detail, s.scanFrame f = s.rejectAtScan f res detail)
      ∨ ∃ kind area, s.scanFrame f = s.takeFrame f kind area := by
  unfold State.scanFrame
  by_cases hposted : s.frameState f ≠ 1
  · exact .inl ⟨.notPosted, .inl rfl, if_pos hposted⟩
  rw [if_neg hposted]
  by_cases hheld : s.holdsFrame f = true
  · exact .inl ⟨.held, .inr rfl, if_pos hheld⟩
  rw [if_neg hheld]
  dsimp only
  by_cases hsum : sumWords (s.ram.readBytes (frameAddr f 4) 124) ≠ 0
  · exact .inr (.inl ⟨.check, _, if_pos hsum⟩)
  rw [if_neg hsum]
  cases TicketKind.ofCode (areaWord (s.ram.readBytes (frameAddr f 4) 124) 4) with
  | none => exact .inr (.inl ⟨.kind, _, rfl⟩)
  | some kind => exact .inr (.inr ⟨kind, _, rfl⟩)

/-! ### What leaves the LINK cause and the end reason alone -/

/-- `t` shows the link-fault flags of `s`: the LINK cause and the end reason of the last scan. -/
def LinkFlagsKept (s t : State) : Prop :=
  t.pendingCause .link = s.pendingCause .link ∧ t.manifest.endReason = s.manifest.endReason

theorem LinkFlagsKept.trans {s t u : State} (h : LinkFlagsKept s t) (k : LinkFlagsKept t u) : LinkFlagsKept s u :=
  ⟨k.1.trans h.1, k.2.trans h.2⟩

/-- The flags are read from the cause register and the manifest reader alone. -/
theorem LinkFlagsKept.of_eq {s t : State} (hcause : t.cause = s.cause)
    (hend : t.manifest.endReason = s.manifest.endReason) : LinkFlagsKept s t :=
  ⟨congrArg (·.getLsbD Cause.link.place) hcause, hend⟩

theorem LinkFlagsKept.raise {c : Cause} (h : c ≠ .link) (s : State) : LinkFlagsKept s (s.raise c) :=
  ⟨by rw [State.pendingCause_raise, decide_eq_false h, Bool.false_or], rfl⟩

theorem LinkFlagsKept.writeFrame (s : State) (f k : Nat) (bs : List Byte) : LinkFlagsKept s (s.writeFrame f k bs) :=
  .of_eq rfl rfl

theorem closeFrame_manifest (s : State) (f : Nat) (tag : Word) (res : Result) (detail : Nat)
    (fields : List (Nat × List Byte)) : (s.closeFrame f tag res detail fields).manifest = s.manifest := by
  have k := congrArg State.manifest (closeFrame_fields s f tag res detail fields); exact k

theorem closeFrame_cause (s : State) (f : Nat) (tag : Word) (res : Result) (detail : Nat)
    (fields : List (Nat × List Byte)) :
    (s.closeFrame f tag res detail fields).cause = (s.raise (if res.rejects then .rejected else .closed)).cause := by
  unfold State.closeFrame
  dsimp only
  by_cases htaken : s.frameState f = 2
  · rw [if_pos htaken]
    generalize outcomeSection _ _ _ _ _ _ = bs
    rfl
  · rw [if_neg htaken]; rfl

/-- A closure raises CLOSED or REJECTED, never LINK (R36). -/
theorem LinkFlagsKept.closeFrame (s : State) (f : Nat) (tag : Word) (res : Result) (detail : Nat)
    (fields : List (Nat × List Byte)) : LinkFlagsKept s (s.closeFrame f tag res detail fields) := by
  have hraised : (if res.rejects then Cause.rejected else .closed) ≠ .link := by cases res.rejects <;> decide
  exact .trans (.raise hraised s)
    (.of_eq (closeFrame_cause ..) (congrArg Manifest.endReason (closeFrame_manifest ..)))

theorem LinkFlagsKept.moveCursor (s : State) (f : Nat) : LinkFlagsKept s (s.moveCursor f) := by
  unfold State.moveCursor
  dsimp only
  by_cases h : s.manifest.cursor = 0 ∨ s.manifest.cursor = f
  · rw [if_pos h]; exact .of_eq rfl rfl
  · rw [if_neg h]; exact .of_eq rfl rfl

theorem LinkFlagsKept.checkHead (s : State) : LinkFlagsKept s s.checkHead := by
  have hcause := congrArg State.cause (checkHead_fields s)
  have hend := congrArg (·.manifest.endReason) (checkHead_fields s)
  exact .of_eq hcause hend

theorem LinkFlagsKept.rejectAtScan (s : State) (f : Nat) (res : Result) (detail : Word) :
    LinkFlagsKept s (s.rejectAtScan f res detail) :=
  .trans (.writeFrame ..) (.trans (.closeFrame ..) (.moveCursor ..))

theorem LinkFlagsKept.takeFrame (s : State) (f : Nat) (kind : TicketKind) (area : List Byte) :
    LinkFlagsKept s (s.takeFrame f kind area) := by
  unfold State.takeFrame
  dsimp only
  refine .trans (.trans ?_ (.moveCursor _ f)) (.checkHead _)
  exact .of_eq rfl rfl

theorem LinkFlagsKept.publish (old new : State) : LinkFlagsKept new (publish old new) := by
  obtain ⟨hfields, -⟩ := publish_publishedFrom old new
  have hcause := congrArg State.cause hfields
  have hend := congrArg (·.manifest.endReason) hfields
  exact .of_eq hcause hend

/-! ### No link fault -/

/-- No link fault from `s` to `t`: LINK stands as before, and the end reason is not LINK unless it was. -/
def NoLinkFault (s t : State) : Prop :=
  t.pendingCause .link = s.pendingCause .link ∧ (t.manifest.endReason = .linkFault → s.manifest.endReason = .linkFault)

theorem LinkFlagsKept.noLinkFault {s t : State} (h : LinkFlagsKept s t) : NoLinkFault s t :=
  ⟨h.1, fun hend => h.2.symm.trans hend⟩

theorem NoLinkFault.published {old s t : State} (h : NoLinkFault s t) : NoLinkFault s (publish old t) := by
  obtain ⟨hcause, hend⟩ := LinkFlagsKept.publish old t
  exact ⟨hcause.trans h.1, fun k => h.2 (hend.symm.trans k)⟩

theorem NoLinkFault.endScan {why : ScanEnd} (h : why ≠ .linkFault) (s : State) : NoLinkFault s (s.endScan why) :=
  ⟨rfl, fun k => absurd k h⟩

theorem NoLinkFault.scanFrame (s : State) (f : Nat) : NoLinkFault s (s.scanFrame f) := by
  obtain ⟨why, hwhy, h⟩ | ⟨res, detail, h⟩ | ⟨kind, area, h⟩ := scanFrame_cases s f
  · rw [h]
    exact .endScan (by obtain rfl | rfl := hwhy <;> decide) s
  · rw [h]
    exact (LinkFlagsKept.rejectAtScan s f res detail).noLinkFault
  · rw [h]
    exact (LinkFlagsKept.takeFrame s f kind area).noLinkFault

/-- A link of 0 ends the scan as CHAIN END and a link 1 to 239 leads to its frame: neither is a link fault (R27, R28). -/
theorem NoLinkFault.scanOnce {s : State} (h : s.manifest.staged.length < 4)
    (hlink : (s.ram.word (frameAddr s.manifest.cursor 0)).toNat ≤ 239) : NoLinkFault s s.scanOnce := by
  by_cases hzero : (s.ram.word (frameAddr s.manifest.cursor 0)).toNat = 0
  · rw [scanOnce_of_chainEnd h hzero]
    exact .endScan (by decide) s
  · rw [scanOnce_of_linked h hzero hlink]
    exact .scanFrame s _

/-! ### The statement -/

/-- Settles O13, by the link of the cursor frame: above 239 the step is the link fault's own branch, which touches no byte of
the manifest RAM; at 239 and below no branch of the step raises LINK or ends the scan with it. -/
theorem linkFaultEndsTheScan : Obligations.LinkFaultEndsTheScan := by
  unfold Obligations.LinkFaultEndsTheScan
  intro s hrun hscan hstaged
  have hexec : exec .scanStep s = act s State.scanStep := rfl
  have hstep : s.scanStep = s.scanOnce := scanStep_eq_scanOnce hscan
  refine ⟨fun hfault => ?_, fun hlink => ?_⟩
  · exact reaches_of_act hexec hrun (hstep.trans (scanOnce_of_linkFault hstaged hfault))
  · refine answers_of_act hexec hrun ?_
    rw [hstep]
    exact (NoLinkFault.scanOnce hstaged hlink).published

end Sys2Proof.Machine
end

section
/-! PROOF. The supply level (R164): what a supply sample makes of it, and that a sample which leaves it as it stands sets the
reading and the Supply Monitor's own timing only. -/

namespace Sys2Proof.Machine

/-! ### What a sample takes, and what it leaves to the level -/

/-- The state once the loop current has been read, before the reading is judged: the pin, the reading, the scan rate and the time
of the next sample (R163). -/
def State.supplyRead (s : State) (microAmp : Nat) : State :=
  let sample := supplyReading s.geometry microAmp
  let fast := keepsFast s.geometry s.supply.fast sample
  { s.reachTime s.supply.nextSample with
    pins := { s.pins with supplyMicroAmp := microAmp }
    supply := ⟨s.supply.level, sample, fast, max s.now s.supply.nextSample + samplePeriod fast⟩ }

/-- The level a sample sets (R164). -/
def State.judgedLevel (s : State) (microAmp : Nat) : SupplyLevel :=
  nextLevel s.geometry s.supply.level (supplyReading s.geometry microAmp)

theorem sampleSupply_of_levelKept {s : State} {i : Nat} (h : s.judgedLevel i = s.supply.level) :
    s.sampleSupply i = s.supplyRead i := if_pos h

theorem sampleSupply_of_levelChanged {s : State} {i : Nat} (h : s.judgedLevel i ≠ s.supply.level) :
    s.sampleSupply i = (s.supplyRead i).changeLevel (s.judgedLevel i) := if_neg h

/-! ### The delivery of a level, and a new geometry, leave the Supply Monitor alone (R165, R196) -/

theorem supply_beginHolds (as : List ArmId) (s : State) : (as.foldl State.beginHold s).supply = s.supply :=
  (FlowOnly.foldl .beginHold as s).supply

theorem supply_endHolds (as : List ArmId) (s : State) : (as.foldl State.endHold s).supply = s.supply :=
  (FlowOnly.foldl .endHold as s).supply

theorem supply_deliverLevel (s : State) (old new : SupplyLevel) : (s.deliverLevel old new).supply = s.supply := by
  unfold State.deliverLevel
  by_cases henters : new = .critical
  · rw [if_pos henters, State.supply_putHold]
    exact supply_beginHolds s.readyArms s
  rw [if_neg henters]
  by_cases hleaves : old = .critical
  · rw [if_pos hleaves, State.supply_putHold]
    exact supply_endHolds s.readyArms s
  · rw [if_neg hleaves]

theorem supply_changeLevel (s : State) (new : SupplyLevel) :
    (s.changeLevel new).supply = { s.supply with level := new } := by
  unfold State.changeLevel
  rw [(FlowOnly.arbitrate _).supply, State.supply_raise, supply_deliverLevel]

theorem supply_installGeometry (s : State) (g : Geometry) : (s.installGeometry g).supply = s.supply := by
  unfold State.installGeometry
  rw [(FlowOnly.arbitrate _).supply, (FlowOnly.foldl .newRelease allArms _).supply, (FlowOnly.elevateAged _).supply]

/-- Each sample sets the level that its judgement gives, whether the level changes or stands (R164). -/
theorem level_sampleSupply (s : State) (i : Nat) : (s.sampleSupply i).supply.level = s.judgedLevel i := by
  by_cases h : s.judgedLevel i = s.supply.level
  · rw [sampleSupply_of_levelKept h]
    exact h.symm
  · rw [sampleSupply_of_levelChanged h, supply_changeLevel]

theorem supply_publish (old new : State) : (publish old new).supply = new.supply := by
  have hfields := congrArg State.supply (publish_publishedFrom old new).1
  exact hfields

/-! ### A level that stands (R164) -/

/-- Nothing but the clock, the pins, the Supply Monitor and the published bytes differs once a reading has been taken. -/
theorem publish_supplyRead_frame (s : State) (i : Nat) :
    { publish s (s.supplyRead i) with now := s.now, pins := s.pins, supply := s.supply, ram := s.ram } = s := by
  obtain ⟨m, hpublished, -⟩ := publish_ram s (s.supplyRead i)
  rw [hpublished]
  rfl

/-- A command that answers what a supply sample's act gives, published (R163). -/
theorem supplySample_answers {s : State} {i : Nat} {P : State → Prop} (hrun : s.running)
    (hP : P (publish s (s.sampleSupply i))) : Answers (.supplySample i) s P :=
  answers_of_act (f := fun s => s.sampleSupply i) rfl hrun hP

/-! ### The statement -/

/-- Settles O39: the level after a sample is the judged one, by cases on whether it changes; the table of R164 is then read off
row by row from the level before and the sample. The table of the model needs no check 6 of R195. -/
theorem supplyLevelFollowsItsTable : Obligations.SupplyLevelFollowsItsTable := by
  unfold Obligations.SupplyLevelFollowsItsTable
  intro s i hrun _ sample hsample
  subst hsample
  refine ⟨supplySample_answers hrun ?_, fun hkept => supplySample_answers hrun ?_, supply_installGeometry s⟩
  · rw [supply_publish, level_sampleSupply, State.judgedLevel]
    cases s.supply.level <;> cases supplyReading s.geometry i <;> rfl
  · rw [sampleSupply_of_levelKept hkept]
    have hsupply : (publish s (s.supplyRead i)).supply = (s.supplyRead i).supply := supply_publish s _
    exact ⟨publish_supplyRead_frame s i, by rw [hsupply]; rfl, by rw [hsupply]; rfl,
      publish_ticketFramesKept s (s.supplyRead i)⟩

end Sys2Proof.Machine
end

section
/-! PROOF. The mode table (R188): when the table lets a request be taken, and what a taken or a refused request does to the mode, the
mode-refused flag and the MODE cause. -/

namespace Sys2Proof.Machine

/-! ### The table -/

/-- The rows of the table of R188, each with its condition; no other pair of modes has a row. -/
theorem modeAllowed_iff (s : State) (m : Mode) :
    s.modeAllowed m = true ↔
      s.mode = .config ∧ m = .run ∧ s.geometryValid = true
        ∨ s.mode = .run ∧ m = .hold
        ∨ s.mode = .hold ∧ m = .run
        ∨ s.mode = .hold ∧ m = .service ∧ s.queue = []
        ∨ s.mode = .service ∧ m = .hold
        ∨ (s.mode = .hold ∨ s.mode = .service) ∧ m = .config ∧ s.queue = [] := by
  unfold State.modeAllowed
  cases s.mode <;> cases m <;> simp

theorem requestMode_of_allowed {s : State} {m : Mode} (hne : m ≠ s.mode) (h : s.modeAllowed m = true) :
    s.requestMode m = s.enterMode m := by
  rw [State.requestMode, if_neg hne, if_pos h]

theorem requestMode_of_refused {s : State} {m : Mode} (hne : m ≠ s.mode) (h : ¬ s.modeAllowed m = true) :
    s.requestMode m = { s with modeRefused := true }.raise .mode := by
  rw [State.requestMode, if_neg hne, if_neg h]

/-- The four commands that request a mode are one act each, the request for that mode (R187). -/
theorem exec_requestOf (m : Mode) (s : State) : exec (requestOf m) s = act s fun s => s.requestMode m := by
  cases m <;> rfl

/-! ### Sending arms to STANDBY raises no cause but ROTOR -/

/-- Every cause but ROTOR stands in `t` as it stands in `s`. -/
def CausesKeptButRotor (s t : State) : Prop := ∀ c, c ≠ .rotor → t.pendingCause c = s.pendingCause c

theorem CausesKeptButRotor.trans {s t u : State} (h : CausesKeptButRotor s t) (k : CausesKeptButRotor t u) :
    CausesKeptButRotor s u :=
  fun c hc => (k c hc).trans (h c hc)

theorem CausesKeptButRotor.of_cause {s t : State} (h : t.cause = s.cause) : CausesKeptButRotor s t :=
  fun c _ => congrArg (·.getLsbD c.place) h

theorem CausesKeptButRotor.of_flowOnly {s t : State} (h : FlowOnly s t) : CausesKeptButRotor s t := .of_cause h.cause

theorem CausesKeptButRotor.raise (s : State) : CausesKeptButRotor s (s.raise .rotor) := by
  intro c hc
  rw [State.pendingCause_raise, decide_eq_false (Ne.symm hc), Bool.false_or]

theorem CausesKeptButRotor.foldl {α : Type} {f : State → α → State} (h : ∀ s x, CausesKeptButRotor s (f s x)) (xs : List α)
    (s : State) : CausesKeptButRotor s (xs.foldl f s) := by
  induction xs generalizing s with
  | nil => exact .of_cause rfl
  | cons x xs ih => exact (h s x).trans (ih _)

theorem CausesKeptButRotor.judgeUsability (s : State) (r : RotorId) (old : Nat) :
    CausesKeptButRotor s (s.judgeUsability r old) := by
  unfold State.judgeUsability
  dsimp only
  by_cases hsame : usabilityOf (s.activeCount r) = usabilityOf old
  · rw [if_pos hsame]; exact .of_cause rfl
  · rw [if_neg hsame]
    exact .trans (.of_cause (State.cause_putHold ..)) (.raise _)

theorem CausesKeptButRotor.countChanged (s : State) (r : RotorId) (old : Nat) :
    CausesKeptButRotor s (s.countChanged r old) :=
  .trans (.of_cause (State.cause_mapQueue ..)) (.trans (.judgeUsability _ r old) (.of_flowOnly (.recomputeAll ..)))

theorem CausesKeptButRotor.returnToStandby (s : State) (a : ArmId) : CausesKeptButRotor s (s.returnToStandby a) :=
  .trans (.of_flowOnly (.updArm s a _)) (.trans (.of_flowOnly (.toStandby _ a)) (.countChanged _ _ _))

theorem CausesKeptButRotor.idleStandby (which : ArmState → Bool) (s : State) (a : ArmId) :
    CausesKeptButRotor s (s.idleStandby which a) := by
  unfold State.idleStandby
  by_cases hout : (s.arm a).state = .out
  · rw [if_pos hout]
    by_cases hreturn : (s.arm a).returnPending = true
    · rw [if_pos hreturn]; exact .returnToStandby s a
    · rw [if_neg hreturn]; exact .of_cause rfl
  · rw [if_neg hout]
    by_cases hwhich : which (s.arm a).state = true
    · rw [if_pos hwhich]; exact .of_flowOnly (.toStandby s a)
    · rw [if_neg hwhich]; exact .of_cause rfl

theorem CausesKeptButRotor.startPark (s : State) (r : RotorId) : CausesKeptButRotor s (s.startPark r) := by
  cases r <;> exact .of_cause rfl

theorem CausesKeptButRotor.standbyRotor (s : State) (r : RotorId) (which : ArmState → Bool) :
    CausesKeptButRotor s (s.standbyRotor r which) :=
  .trans (.foldl (.idleStandby which) _ s) (.startPark _ r)

theorem CausesKeptButRotor.standbyAll (s : State) : CausesKeptButRotor s s.standbyAll :=
  .trans (.standbyRotor s .r1 _) (.standbyRotor _ .r2 _)

theorem Worked.standbyAll (s : State) : Worked s s.standbyAll :=
  .trans (.standbyRotor s .r1 _) (.standbyRotor _ .r2 _)

theorem Worked.modeRefused {s t : State} (h : Worked s t) : t.modeRefused = s.modeRefused := by
  have k := congrArg State.modeRefused h.1; exact k

/-! ### What the mode registers show -/

/-- `t` shows the mode, the mode-refused flag and the MODE cause of `s`. -/
def ModeShownAs (s t : State) : Prop :=
  t.mode = s.mode ∧ t.modeRefused = s.modeRefused ∧ t.pendingCause .mode = s.pendingCause .mode

theorem ModeShownAs.trans {s t u : State} (h : ModeShownAs s t) (k : ModeShownAs t u) : ModeShownAs s u := by
  obtain ⟨hmode, hrefused, hcause⟩ := h
  obtain ⟨kmode, krefused, kcause⟩ := k
  exact ⟨kmode.trans hmode, krefused.trans hrefused, kcause.trans hcause⟩

theorem ModeShownAs.of_worked {s t : State} (h : Worked s t) (k : CausesKeptButRotor s t) : ModeShownAs s t :=
  ⟨(Steady.of_worked h).mode, h.modeRefused, k .mode (by decide)⟩

theorem ModeShownAs.standbyAll (s : State) : ModeShownAs s s.standbyAll := .of_worked (.standbyAll s) (.standbyAll s)

theorem ModeShownAs.rebase (s : State) : ModeShownAs s s.rebase := ⟨rfl, rfl, rfl⟩

theorem ModeShownAs.arbitrate (s : State) : ModeShownAs s s.arbitrate :=
  .of_worked (.arbitrate s) (.of_flowOnly (.arbitrate s))

theorem ModeShownAs.publish (old new : State) : ModeShownAs new (publish old new) := by
  obtain ⟨m, hpublished, -⟩ := publish_ram old new
  rw [hpublished]
  exact ⟨rfl, rfl, rfl⟩

/-- The state as soon as the mode of a taken request stands, before the arms are sent to STANDBY (R189). -/
def State.withMode (s : State) (m : Mode) : State :=
  { s with mode := m, modeRefused := false, holds := s.holds.forMode m }

/-- A mode change that is taken makes the mode the one requested and clears the flag; its effects on the arms and on the tracker
touch neither, nor the MODE cause (R189). -/
theorem ModeShownAs.enterMode (s : State) (m : Mode) : ModeShownAs (s.withMode m) (s.enterMode m) := by
  have standby : ModeShownAs (s.withMode m)
      (if s.mode = .hold then (s.withMode m).standbyAll.rebase else (s.withMode m).standbyAll).arbitrate := by
    by_cases hhold : s.mode = .hold
    · rw [if_pos hhold]
      exact .trans (.trans (.standbyAll _) (.rebase _)) (.arbitrate _)
    · rw [if_neg hhold]
      exact .trans (.standbyAll _) (.arbitrate _)
  cases m with
  | run => exact ⟨rfl, rfl, rfl⟩
  | hold => exact ⟨rfl, rfl, rfl⟩
  | config => exact standby
  | service => exact standby

/-! ### The statement -/

/-- Settles O44: the model's table is the table of the statement, row by row; a request it allows enters the mode, after which
nothing touches the mode, the flag or the MODE cause, and any other is refused. -/
theorem modeRequestIsTakenWhenTheTableAllows : Obligations.ModeRequestIsTakenWhenTheTableAllows := by
  unfold Obligations.ModeRequestIsTakenWhenTheTableAllows
  intro s m hrun hne allowed htable
  have hallowed : allowed ↔ s.modeAllowed m = true := htable.trans (modeAllowed_iff s m).symm
  refine ⟨fun h => answers_of_act (exec_requestOf m s) hrun ?_, fun h => reaches_of_act (exec_requestOf m s) hrun ?_⟩
  · rw [requestMode_of_allowed hne (hallowed.mp h)]
    exact (ModeShownAs.enterMode s m).trans (.publish s _)
  · exact requestMode_of_refused hne (mt hallowed.mpr h)

end Sys2Proof.Machine
end

section
/-! PROOF. The interrupt line (R204): which bits of CAUSE and ENABLE it reads, and its level once the blocks have their reset
values. -/

namespace Sys2Proof.Machine

/-! ### The bits the line looks at -/

theorem ne_zero_iff_exists_getLsbD (w : Word) : w ≠ 0 ↔ ∃ k, w.getLsbD k = true := by
  constructor
  · intro hne
    by_contra hbits
    refine hne (BitVec.eq_of_getLsbD_eq fun k _ => .trans ?_ BitVec.getLsbD_zero.symm)
    exact Bool.eq_false_iff.mpr fun hk => hbits ⟨k, hk⟩
  · rintro ⟨k, hk⟩ rfl
    exact Bool.false_ne_true (BitVec.getLsbD_zero.symm.trans hk)

theorem getLsbD_causeMask (k : Nat) : causeMask.getLsbD k = decide (k < 12) := Nat.testBit_two_pow_sub_one 12 k

theorem Cause.place_lt (c : Cause) : c.place < 12 := by cases c <;> decide

/-- No bit of CAUSE below bit 12 is without its cause (R203). -/
theorem exists_cause_of_place {k : Nat} (h : k < 12) : ∃ c : Cause, c.place = k :=
  match k, h with
  | 0, _ => ⟨.closed, rfl⟩
  | 1, _ => ⟨.rejected, rfl⟩
  | 2, _ => ⟨.orphan, rfl⟩
  | 3, _ => ⟨.link, rfl⟩
  | 4, _ => ⟨.track, rfl⟩
  | 5, _ => ⟨.supply, rfl⟩
  | 6, _ => ⟨.rotor, rfl⟩
  | 7, _ => ⟨.arm, rfl⟩
  | 8, _ => ⟨.save, rfl⟩
  | 9, _ => ⟨.preload, rfl⟩
  | 10, _ => ⟨.report, rfl⟩
  | 11, _ => ⟨.mode, rfl⟩

/-- The mask of CAUSE has the bits of the causes and no others (R203). -/
theorem getLsbD_causeMask_iff (k : Nat) : causeMask.getLsbD k = true ↔ ∃ c : Cause, c.place = k := by
  rw [getLsbD_causeMask, decide_eq_true_iff]
  exact ⟨exists_cause_of_place, fun ⟨c, hc⟩ => hc ▸ c.place_lt⟩

/-- A masked word has a bit left exactly when the bit of some cause is set in it. -/
theorem masked_ne_zero_iff (w : Word) : w &&& causeMask ≠ 0 ↔ ∃ c : Cause, w.getLsbD c.place = true := by
  rw [ne_zero_iff_exists_getLsbD]
  simp only [BitVec.getLsbD_and, Bool.and_eq_true, getLsbD_causeMask_iff]
  constructor
  · rintro ⟨_, hset, c, rfl⟩
    exact ⟨c, hset⟩
  · rintro ⟨c, hset⟩
    exact ⟨c.place, hset, c, rfl⟩

/-! ### The line -/

/-- The line in terms of causes: some cause is both pending and enabled, under the global enable (R204). -/
theorem interrupt_iff (s : State) :
    s.interrupt = true ↔ s.enable.getLsbD 15 = true
      ∧ ∃ c : Cause, s.cause.getLsbD c.place = true ∧ s.enable.getLsbD c.place = true := by
  rw [State.interrupt, Bool.and_eq_true, bne_iff_ne, masked_ne_zero_iff]
  simp only [BitVec.getLsbD_and, Bool.and_eq_true]

/-- An ENABLE register without the global enable releases the line, whatever is pending (R204). -/
theorem interrupt_of_globalEnableClear {s : State} (h : s.enable.getLsbD 15 = false) : s.interrupt = false := by
  rw [State.interrupt, h, Bool.false_and]

/-- The reset values leave no bit of ENABLE set (R204). -/
theorem enable_resetBlocks (s : State) (x : RawLevels) : (s.resetBlocks x).enable = 0 := rfl

theorem interrupt_resetBlocks (s : State) (x : RawLevels) : (s.resetBlocks x).interrupt = false :=
  interrupt_of_globalEnableClear (by rw [enable_resetBlocks]; exact BitVec.getLsbD_zero)

/-! ### The statement -/

/-- Settles O49: the mask of the line keeps exactly the bits of the causes, the reset values clear the global enable, and a
raised cause is pending by the law of `raise`. -/
theorem interruptLineFollowsCausesAndEnables : Obligations.InterruptLineFollowsCausesAndEnables := by
  unfold Obligations.InterruptLineFollowsCausesAndEnables
  refine ⟨interrupt_iff, interrupt_resetBlocks, fun s c => ?_⟩
  rw [State.pendingCause_raise, decide_eq_true rfl, Bool.true_or]

end Sys2Proof.Machine
end

section
/-! PROOF. What the part can do in one command: a command is a run of elementary acts, each of one block, and each with the bounds that
its block keeps for itself. An invariant that every elementary act keeps holds after every command. -/

namespace Sys2Proof.Machine

/-! ### The bounds that a block keeps for itself -/

/-- The count of a monitor is within the depth it counts for (R152). -/
def Monitor.bounded (m : Monitor) : Prop := ∀ p, m.params = some p → m.counter ≤ p.maxDepth

/-- The bounds of the Manifest Reader: four staged tickets of ticket frames, the cursor a ticket frame or the anchor, the reload value one
byte and not 0 (R20, R23, R26, R30). -/
def Manifest.legal (m : Manifest) : Prop :=
  m.staged.length ≤ 4 ∧ m.cursor ≤ 239 ∧ (1 ≤ m.scanReload ∧ m.scanReload ≤ 255) ∧ ∀ e ∈ m.staged, isTicketFrame e.frame

/-- The staged entries hold ticket frames; the cursor is one, or the anchor (R20, R22, R23). -/
def Manifest.ticketed (m : Manifest) : Prop := m.cursor ≤ 239 ∧ ∀ e ∈ m.staged, isTicketFrame e.frame

/-- The save in flight holds a ticket frame (R22). -/
def CfgMem.ticketed (x : CfgMem) : Prop := ∀ y, x.save = some y → isTicketFrame y.frame

/-- The bounds of the Configuration Memory Controller: CFG_ADDR with the bits it has, a page 0 to 34, an address of the port, the save of
a ticket frame (R191, R197, R199). -/
def CfgMem.legal (x : CfgMem) : Prop :=
  portWord x.addr = x.addr ∧ (∀ p, x.save.bind Save.page = some p → p.index ≤ 34)
    ∧ (∀ y, x.transfer = some y → y.address ≤ 0x1FFC) ∧ ∀ y, x.save = some y → isTicketFrame y.frame

/-- The receiver holds at most three bytes, and its gap timer runs exactly while it holds one (R176, R177). -/
def Quality.legal (x : Quality) : Prop := x.buffer.length ≤ 3 ∧ (x.gap.isSome = true ↔ x.buffer ≠ [])

/-- The bits of a register are among those it has. -/
def within (mask w : Word) : Prop := w &&& mask = w

theorem within_raise {w : Word} (c : Cause) (h : within causeMask w) : within causeMask (w ||| oneBit c.place) := by
  unfold within at *
  rw [BitVec.and_or_distrib_right, h]
  congr 1
  cases c <;> decide

/-! ### The elementary acts -/

/-- `u` with the fields that no invariant speaks of taken from `s`. The commands that wait are not among them: no act changes them. -/
def unseenFrom (s u : State) : State :=
  { u with
    free := s.free
    now := s.now
    pins := s.pins
    resetHeld := s.resetHeld
    resetPower := s.resetPower
    feed := s.feed
    geometryValid := s.geometryValid
    temp := s.temp
    counters := s.counters
    rotor1 := { s.rotor1 with drive := u.rotor1.drive }
    rotor2 := { s.rotor2 with drive := u.rotor2.drive }
    supply := { s.supply with level := u.supply.level }
    modeRefused := s.modeRefused }

/-- An act on one arm that leaves it in service or out of service, and the acts of the arbiter. -/
inductive ArmAct : State → State → Prop
  | recompute (s : State) (forced : Bool) (k : RecomputeClass) (a : ArmId) : ArmAct s (s.recompute forced k a)
  | grant (s : State) (a : ArmId) : s.arbiter.inFlight.length < s.arbiter.slots → ArmAct s (s.grant a)
  | elevate (s : State) (f : WaitEntry → WaitEntry) : (∀ e, (f e).arm = e.arm) →
      ArmAct s { s with arbiter := { s.arbiter with wait := s.arbiter.wait.map f } }
  | toStandby (s : State) (a : ArmId) : ArmAct s (s.toStandby a)
  | park (s : State) (a : ArmId) : ArmAct s (s.park a)
  | lift (s : State) (aperture : Nat) (t : Option Tag) (a : ArmId) : ArmAct s (s.liftInService aperture t a)
  | enter (s : State) (q : Record) (a : ArmId) : ArmAct s (s.enterArm q a)
  | release (s : State) (t : Tag) (a : ArmId) : ArmAct s (s.releaseArm t a)
  | newRelease (s : State) (a : ArmId) : ArmAct s (s.newRelease a)
  | complete (s : State) (a : ArmId) (q : FlowRequest) (granted timeout : Nat) : (s.arm a).flow = .inFlight q granted timeout →
      ArmAct s ((s.leaveFlow a).updArm a fun c => c.completed q.kind)
  | minor (s : State) (a : ArmId) (c : Arm) : c.state = (s.arm a).state → c.flow = (s.arm a).flow →
      ((s.arm a).monitor.bounded → c.monitor.bounded) → ArmAct s (s.setArm a c)

/-- An act that takes an arm out of service or brings it back, with what follows from the changed count (R132). -/
inductive CountAct : State → State → Prop
  | putOut (s : State) (a : ArmId) (cause : OutCause) : CountAct s (s.putOut a cause)
  | returnToStandby (s : State) (a : ArmId) : CountAct s (s.returnToStandby a)
  | returnForLift (s : State) (a : ArmId) : (s.arm a).state = .out → CountAct s (s.returnForLift a)

/-- An act on the transit queue. -/
inductive QueueAct : State → State → Prop
  /-- The records are changed; none gains a tag or a frame. -/
  | change (s : State) (f : Record → Record) :
      (∀ q ∈ s.queue, (f q).tag = q.tag ∧ ∀ n, (f q).frame = some n → ∃ x ∈ s.queue, x.frame = some n) →
      QueueAct s (s.mapQueue f)
  /-- A record with a free tag joins the queue, and TRANSIT_FULL follows (R44, R64). -/
  | append (s : State) (q : Record) : s.queue.length < maxRecords → (∀ x ∈ s.queue, x.tag ≠ q.tag) →
      (∀ n, q.frame = some n → ∃ e ∈ s.manifest.staged, e.frame = n) →
      QueueAct s (if (s.queue ++ [q]).length ≥ maxRecords
        then { s with queue := s.queue ++ [q] }.putHold .transitFull true else { s with queue := s.queue ++ [q] })
  | remove (s : State) (t : Tag) : QueueAct s (s.removeRecord t)

/-- An act that changes a condition of R170 together with its hold cause, and vent hold with the supply or a drive (R125, R126). -/
inductive HoldAct : State → State → Prop
  | latch (s : State) (b : Bool) : HoldAct s ({ s with latch := b }.putHold .trackFault b)
  | mode (s : State) (m : Mode) : HoldAct s { s with mode := m, holds := s.holds.forMode m }
  | level (s : State) (new : SupplyLevel) : HoldAct s
      ({ s with
        supply := { s.supply with level := new }
        arbiter := { s.arbiter with slots := slotsFor s.geometry new } }.deliverLevel s.supply.level new)
  /-- A drive that is not READY changes, to another state than READY. -/
  | spin (s : State) (r : RotorId) (x : Rotor) : (s.rotor r).drive ≠ .ready → x.drive ≠ .ready → HoldAct s (s.setRotor r x)
  | down (s : State) (r : RotorId) (x : Rotor) : x.drive ≠ .ready → HoldAct s ((s.setRotor r x).leaveReady r)
  | ready (s : State) (r : RotorId) (x : Rotor) : x.drive = .ready → HoldAct s
      (if (((s.setRotor r x).putHold (downCause r) false).raise .rotor).supply.level = .critical
        then ((s.setRotor r x).putHold (downCause r) false).raise .rotor
        else (armsOf r).foldl State.endHold (((s.setRotor r x).putHold (downCause r) false).raise .rotor))

/-- An elementary act of the part, where `w` says that the published frames are left alone. -/
inductive Act (w : Prop) : State → State → Prop
  | unseen {s t : State} : unseenFrom s t = s → Act w s t
  | arm {s t : State} : ArmAct s t → Act w s t
  | count {s t : State} : CountAct s t → Act w s t
  | queue {s t : State} : QueueAct s t → Act w s t
  | hold {s t : State} : HoldAct s t → Act w s t
  | geometry (s : State) (g : Geometry) : g.firstFailed = none →
      Act w s { s with geometry := g, arbiter := { s.arbiter with slots := slotsFor g s.supply.level } }
  | species (s : State) (v : Vector SpeciesRow 32) : (s.trimsBounded → { s with species := v }.trimsBounded) →
      Act w s { s with species := v }
  | manifest (s : State) (m : Manifest) : (s.manifest.legal → m.legal) → (s.manifest.ticketed → m.ticketed) →
      Act w s { s with manifest := m }
  | cfg (s : State) (x : CfgMem) : (s.manifest.legal → s.cfg.legal → x.legal) →
      (s.manifest.ticketed → s.cfg.ticketed → x.ticketed) → Act w s { s with cfg := x }
  | quality (s : State) (x : Quality) : (s.quality.legal → x.legal) → Act w s { s with quality := x }
  | registers (s : State) (c e r : Word) : (within causeMask s.cause → within causeMask c) →
      (within enableMask s.enable → within enableMask e) → (within resetCauseMask s.resetCause → within resetCauseMask r) →
      Act w s { s with cause := c, enable := e, resetCause := r }
  | ram (s : State) (m : Memory) : (s.ram.wf → m.wf) → (w → ∀ a, isPublished a → m.read a = s.ram.read a) →
      Act w s { s with ram := m }
  | eeprom (s : State) (m : Memory) : (s.eeprom.wf → m.wf) → Act w s { s with eeprom := m }
  | reset (s : State) (x : RawLevels) : Act w s (s.resetBlocks x)

end Sys2Proof.Machine
end

section
/-! PROOF. The invariants over the memories, the species table, the reader, the queue's identities and the registers: the acts on arms,
counts, hold causes and drives leave all of these alone. -/

namespace Sys2Proof.Machine

/-! ### What the acts on arms, counts and drives leave -/

/-- What identifies a record: its tag and the frame it holds. -/
def Record.identity (q : Record) : Tag × Option Nat := (q.tag, q.frame)

/-- From `s` to `t` the commands that wait, the memories, the tables, the reader, the ports and the records' identities stay, and CAUSE gains no bit that does
not exist. -/
structure DataKept (s t : State) : Prop where
  pending : t.pending = s.pending
  ram : t.ram = s.ram
  eeprom : t.eeprom = s.eeprom
  geometry : t.geometry = s.geometry
  species : t.species = s.species
  manifest : t.manifest = s.manifest
  cfg : t.cfg = s.cfg
  quality : t.quality = s.quality
  enable : t.enable = s.enable
  resetCause : t.resetCause = s.resetCause
  cause : within causeMask s.cause → within causeMask t.cause
  queue : t.queue.map Record.identity = s.queue.map Record.identity

theorem DataKept.refl (s : State) : DataKept s s := ⟨rfl, rfl, rfl, rfl, rfl, rfl, rfl, rfl, rfl, rfl, id, rfl⟩

theorem DataKept.trans {s t u : State} (h : DataKept s t) (k : DataKept t u) : DataKept s u where
  pending := k.pending.trans h.pending
  ram := k.ram.trans h.ram
  eeprom := k.eeprom.trans h.eeprom
  geometry := k.geometry.trans h.geometry
  species := k.species.trans h.species
  manifest := k.manifest.trans h.manifest
  cfg := k.cfg.trans h.cfg
  quality := k.quality.trans h.quality
  enable := k.enable.trans h.enable
  resetCause := k.resetCause.trans h.resetCause
  cause := k.cause ∘ h.cause
  queue := k.queue.trans h.queue

theorem DataKept.after {s t u : State} (k : DataKept t u) (h : DataKept s t) : DataKept s u := h.trans k

theorem FlowOnly.cfg {s t : State} (h : FlowOnly s t) : t.cfg = s.cfg := by have k := congrArg State.cfg h.1; exact k
theorem FlowOnly.quality {s t : State} (h : FlowOnly s t) : t.quality = s.quality := by
  have k := congrArg State.quality h.1; exact k
theorem FlowOnly.resetCause {s t : State} (h : FlowOnly s t) : t.resetCause = s.resetCause := by
  have k := congrArg State.resetCause h.1; exact k
theorem FlowOnly.latch {s t : State} (h : FlowOnly s t) : t.latch = s.latch := by have k := congrArg State.latch h.1; exact k

theorem identity_withoutTargets (l : List Record) :
    (l.map Record.withoutTargets).map Record.identity = l.map Record.identity := by
  rw [List.map_map]; rfl

theorem FlowOnly.identities {s t : State} (h : FlowOnly s t) : t.queue.map Record.identity = s.queue.map Record.identity := by
  have k := congrArg State.queue h.1
  rw [← identity_withoutTargets t.queue, ← identity_withoutTargets s.queue]
  exact congrArg _ k

theorem FlowOnly.queue_length {s t : State} (h : FlowOnly s t) : t.queue.length = s.queue.length := by
  have k := congrArg List.length h.identities
  rwa [List.length_map, List.length_map] at k

theorem DataKept.of_flowOnly {s t : State} (h : FlowOnly s t) : DataKept s t :=
  ⟨h.pending, h.2, h.eeprom, h.geometry, h.species, h.manifest, h.cfg, h.quality, h.enable, h.resetCause,
    fun hc => by rw [h.cause]; exact hc, h.identities⟩

theorem DataKept.raise (s : State) (c : Cause) : DataKept s (s.raise c) :=
  ⟨rfl, rfl, rfl, rfl, rfl, rfl, rfl, rfl, rfl, rfl, within_raise c, rfl⟩

theorem DataKept.putHold (s : State) (c : HoldCause) (b : Bool) : DataKept s (s.putHold c b) :=
  ⟨rfl, rfl, rfl, rfl, rfl, rfl, rfl, rfl, rfl, rfl, id, rfl⟩

theorem DataKept.setRotor (s : State) (r : RotorId) (x : Rotor) : DataKept s (s.setRotor r x) := by
  cases r <;> exact ⟨rfl, rfl, rfl, rfl, rfl, rfl, rfl, rfl, rfl, rfl, id, rfl⟩

theorem DataKept.mapQueue (s : State) {f : Record → Record} (h : ∀ q, (f q).identity = q.identity) : DataKept s (s.mapQueue f) :=
  ⟨rfl, rfl, rfl, rfl, rfl, rfl, rfl, rfl, rfl, rfl, id, by
    show (s.queue.map f).map Record.identity = _
    rw [List.map_map]
    exact List.map_congr_left fun q _ => h q⟩

theorem DataKept.ite {p : Prop} [Decidable p] {s t u : State} (h : DataKept s t) (k : DataKept s u) :
    DataKept s (if p then t else u) := by
  by_cases hp : p
  · rw [if_pos hp]; exact h
  · rw [if_neg hp]; exact k

/-! ### The acts on one arm, and the arbiter's -/

theorem FlowOnly.lateLift (s : State) (q : Record) (a : ArmId) : FlowOnly s (s.lateLift q a) := .trans (.vent ..) (.updArm ..)

theorem FlowOnly.enterArm (q : Record) (s : State) (a : ArmId) : FlowOnly s (s.enterArm q a) := by
  unfold State.enterArm
  split
  · exact .updArm ..
  · exact .refl s
  · exact .lateLift ..

theorem FlowOnly.releaseArm (t : Tag) (s : State) (a : ArmId) : FlowOnly s (s.releaseArm t a) := by
  unfold State.releaseArm
  split
  · exact .trans (.vent ..) (.updArm ..)
  · exact .refl s

theorem ArmAct.flowOnly {s t : State} (h : ArmAct s t) : FlowOnly s t := by
  cases h with
  | recompute forced k a => exact .recompute s forced k a
  | grant a _ => exact .grant s a
  | elevate f _ => exact ⟨rfl, rfl⟩
  | toStandby a => exact .toStandby s a
  | park a => exact .park s a
  | lift aperture t a => exact .liftInService s aperture t a
  | enter q a => exact .enterArm q s a
  | release t a => exact .releaseArm t s a
  | newRelease a => exact .newRelease s a
  | complete a q granted timeout _ => exact .trans (.leaveFlow s a) (.updArm ..)
  | minor a c _ _ _ => exact .setArm s a c

theorem DataKept.countChanged (s : State) (r : RotorId) (old : Nat) : DataKept s (s.countChanged r old) := by
  refine .trans (.mapQueue s fun q => ?_) (.trans (.ite (.refl _) (.trans (.putHold ..) (.raise ..))) (.of_flowOnly (.recomputeAll ..)))
  cases r <;> rfl

theorem CountAct.dataKept {s t : State} (h : CountAct s t) : DataKept s t := by
  cases h with
  | putOut a cause =>
    exact .ite (.of_flowOnly (.updArm ..)) (.trans (.of_flowOnly (.trans (.vent s a 0) (.updArm ..))) (.countChanged ..))
  | returnToStandby a =>
    exact .trans (.of_flowOnly (.trans (.updArm s a _) (.toStandby _ a))) (.countChanged ..)
  | returnForLift a _ => exact .trans (.of_flowOnly (.updArm s a _)) (.countChanged ..)

/-! ### The acts on hold causes and drives -/

theorem DataKept.flagStall (s : State) : DataKept s s.flagStall :=
  .mapQueue s fun q => by split <;> rfl

theorem DataKept.deliverLevel (s : State) (old new : SupplyLevel) : DataKept s (s.deliverLevel old new) :=
  .ite (.trans (.of_flowOnly (.foldl .beginHold _ s)) (.trans (.flagStall _) (.putHold ..)))
    (.ite (.trans (.of_flowOnly (.foldl .endHold _ s)) (.putHold ..)) (.refl s))

theorem DataKept.leaveReady (s : State) (r : RotorId) : DataKept s (s.leaveReady r) := by
  refine .trans (.putHold s _ true) (.trans (.mapQueue _ fun q => ?_) (.ite (.refl _) (.of_flowOnly (.foldl .beginHold _ _))))
  split <;> rfl

theorem HoldAct.dataKept {s t : State} (h : HoldAct s t) : DataKept s t := by
  cases h with
  | latch b => exact ⟨rfl, rfl, rfl, rfl, rfl, rfl, rfl, rfl, rfl, rfl, id, rfl⟩
  | mode m => exact ⟨rfl, rfl, rfl, rfl, rfl, rfl, rfl, rfl, rfl, rfl, id, rfl⟩
  | level new => exact .after (.deliverLevel _ s.supply.level new) ⟨rfl, rfl, rfl, rfl, rfl, rfl, rfl, rfl, rfl, rfl, id, rfl⟩
  | spin r x _ _ => exact .setRotor s r x
  | down r x _ => exact .trans (.setRotor s r x) (.leaveReady _ r)
  | ready r x _ =>
    have set := ((DataKept.setRotor s r x).trans (.putHold _ (downCause r) false)).trans (.raise _ .rotor)
    exact .ite set (set.trans (.of_flowOnly (.foldl .endHold _ _)))

/-- What an elementary act leaves of the data, but for the acts on the data themselves. -/
theorem DataKept.of_act {s t : State} (h : ArmAct s t ∨ CountAct s t ∨ HoldAct s t) : DataKept s t := by
  obtain h | h | h := h
  · exact .of_flowOnly h.flowOnly
  · exact h.dataKept
  · exact h.dataKept

/-- An act on the queue changes the queue, the hold cause TRANSIT_FULL, and the marks of a record that leaves. -/
theorem QueueAct.frame {s t : State} (h : QueueAct s t) : { t with queue := s.queue, holds := s.holds, feed := s.feed } = s := by
  cases h with
  | change f _ => rfl
  | append q _ _ _ => split <;> rfl
  | remove t =>
    unfold State.removeRecord
    dsimp only
    split
    · unfold State.putHold; rfl
    · rfl

end Sys2Proof.Machine
end

section
/-! PROOF. Every elementary act keeps the bounds of the reader, the transit queue, the registers and the frame references. -/

namespace Sys2Proof.Machine

/-- The bounds of the transit queue, in the identities of its records: at most six, no two of one tag, frames that are ticket frames
(R44, R64). -/
def queueLegal (l : List (Tag × Option Nat)) : Prop :=
  l.length ≤ 6 ∧ (l.map Prod.fst).Nodup ∧ ∀ x ∈ l, ∀ n, x.2 = some n → isTicketFrame n

/-- The registers hold only bits that they have (R190, R203, R204). -/
def State.bitsLegal (s : State) : Prop :=
  within causeMask s.cause ∧ within enableMask s.enable ∧ within resetCauseMask s.resetCause

/-- Every block is within the bounds that it keeps for itself. -/
structure State.Legal (s : State) : Prop where
  manifest : s.manifest.legal
  cfg : s.cfg.legal
  quality : s.quality.legal
  bits : s.bitsLegal
  queue : queueLegal (s.queue.map Record.identity)

theorem queueLegal_identities (l : List Record) :
    queueLegal (l.map Record.identity) ↔
      l.length ≤ 6 ∧ (l.map Record.tag).Nodup ∧ ∀ q ∈ l, ∀ n, q.frame = some n → isTicketFrame n := by
  unfold queueLegal
  have htags : (l.map Record.identity).map Prod.fst = l.map Record.tag := by rw [List.map_map]; rfl
  rw [List.length_map, htags]
  simp only [List.mem_map, forall_exists_index, and_imp, forall_apply_eq_imp_iff₂, Record.identity]

/-- The three invariants of the statement say that every block is within its bounds. -/
theorem legal_iff (s : State) : s.Legal ↔ s.readerBounded ∧ s.registersLegal ∧ s.framesAreTickets := by
  constructor
  · rintro ⟨⟨hlen, hcursor, hreload, hstaged⟩, ⟨haddr, hpage, htransfer, hsave⟩, ⟨hbuffer, hgap⟩, ⟨hcause, henable, hreset⟩, hqueue⟩
    obtain ⟨hsix, htags, hframes⟩ := (queueLegal_identities _).1 hqueue
    exact ⟨⟨hlen, hcursor, hreload, hsix, htags⟩, ⟨hcause, henable, hreset, haddr, hbuffer, hgap, hpage, htransfer⟩,
      hcursor, hstaged, hframes, hsave⟩
  · rintro ⟨⟨hlen, hcursor, hreload, hsix, htags⟩, ⟨hcause, henable, hreset, haddr, hbuffer, hgap, hpage, htransfer⟩,
      _, hstaged, hframes, hsave⟩
    exact ⟨⟨hlen, hcursor, hreload, hstaged⟩, ⟨haddr, hpage, htransfer, hsave⟩, ⟨hbuffer, hgap⟩, ⟨hcause, henable, hreset⟩,
      (queueLegal_identities _).2 ⟨hsix, htags, hframes⟩⟩

theorem State.Legal.of_dataKept {s t : State} (hs : s.Legal) (h : DataKept s t) : t.Legal where
  manifest := by rw [h.manifest]; exact hs.manifest
  cfg := by rw [h.cfg]; exact hs.cfg
  quality := by rw [h.quality]; exact hs.quality
  bits := by
    obtain ⟨hcause, henable, hreset⟩ := hs.bits
    exact ⟨h.cause hcause, by rw [h.enable]; exact henable, by rw [h.resetCause]; exact hreset⟩
  queue := by rw [h.queue]; exact hs.queue

/-- The acts on the queue keep its bounds: a record joins with a free tag and below the bound, and none gains a frame. -/
theorem QueueAct.legal {s t : State} (h : QueueAct s t) (hs : s.Legal) : queueLegal (t.queue.map Record.identity) := by
  obtain ⟨hsix, htags, hframes⟩ := (queueLegal_identities _).1 hs.queue
  rw [queueLegal_identities]
  cases h with
  | change f hf =>
    have hmap : (s.queue.map f).map Record.tag = s.queue.map Record.tag := by
      rw [List.map_map]
      exact List.map_congr_left fun q hq => (hf q hq).1
    refine ⟨by simpa using hsix, by rw [← hmap] at htags; exact htags, fun q hq n hn => ?_⟩
    obtain ⟨x, hx, rfl⟩ := List.mem_map.1 hq
    obtain ⟨y, hy, hyn⟩ := (hf x hx).2 n hn
    exact hframes y hy n hyn
  | append q hroom hfree hframe =>
    have appended : (s.queue ++ [q]).length ≤ 6 ∧ ((s.queue ++ [q]).map Record.tag).Nodup
        ∧ ∀ x ∈ s.queue ++ [q], ∀ n, x.frame = some n → isTicketFrame n := by
      refine ⟨?_, ?_, fun x hx n hn => ?_⟩
      · rw [List.length_append, List.length_singleton]
        exact hroom
      · rw [List.map_append, List.nodup_append]
        refine ⟨htags, List.nodup_singleton _, fun x hx y hy => ?_⟩
        obtain ⟨z, hz, rfl⟩ := List.mem_map.1 hx
        obtain rfl : y = q.tag := by simpa using hy
        exact hfree z hz
      · rcases List.mem_append.1 hx with hx | hx
        · exact hframes x hx n hn
        · obtain rfl := List.mem_singleton.1 hx
          obtain ⟨e, he, rfl⟩ := hframe n hn
          exact hs.manifest.2.2.2 e he
    split
    · exact appended
    · exact appended
  | remove tag =>
    have hqueue : (s.removeRecord tag).queue = s.queue.filter fun q => q.tag != tag := by
      unfold State.removeRecord; dsimp only; split <;> rfl
    rw [hqueue]
    have hsub : (s.queue.filter fun q => q.tag != tag).Sublist s.queue := List.filter_sublist
    exact ⟨Nat.le_trans hsub.length_le hsix, (hsub.map _).nodup htags, fun q hq => hframes q (hsub.subset hq)⟩

theorem legal_manifestReset : Manifest.reset.legal := ⟨by decide, by decide, by decide, fun e he => nomatch he⟩

theorem legal_cfgReset : CfgMem.reset.legal :=
  ⟨by decide, (fun p hp => nomatch hp), (fun y hy => nomatch hy), fun y hy => nomatch hy⟩

theorem legal_qualityReset : Quality.reset.legal := ⟨by decide, by decide⟩

theorem within_zero (mask : Word) : within mask 0 := BitVec.zero_and

theorem legal_reset (s : State) (x : RawLevels) (hs : s.Legal) : (s.resetBlocks x).Legal where
  manifest := legal_manifestReset
  cfg := legal_cfgReset
  quality := legal_qualityReset
  bits := ⟨within_zero _, within_zero _, hs.bits.2.2⟩
  queue := ⟨Nat.zero_le 6, List.nodup_nil, fun y hy => nomatch hy⟩

/-- Every elementary act keeps every block within its bounds. -/
theorem Act.keeps_legal {w : Prop} (s t : State) (h : Act w s t) (hs : s.Legal) : t.Legal := by
  cases h with
  | unseen k =>
    have hmanifest := congrArg State.manifest k
    have hcfg := congrArg State.cfg k
    have hquality := congrArg State.quality k
    have hcause := congrArg State.cause k
    have henable := congrArg State.enable k
    have hreset := congrArg State.resetCause k
    have hqueue := congrArg State.queue k
    refine ⟨?_, ?_, ?_, ⟨?_, ?_, ?_⟩, ?_⟩
    · exact hmanifest.symm ▸ hs.manifest
    · exact hcfg.symm ▸ hs.cfg
    · exact hquality.symm ▸ hs.quality
    · exact hcause.symm ▸ hs.bits.1
    · exact henable.symm ▸ hs.bits.2.1
    · exact hreset.symm ▸ hs.bits.2.2
    · exact hqueue.symm ▸ hs.queue
  | arm k => exact hs.of_dataKept (.of_act (.inl k))
  | count k => exact hs.of_dataKept (.of_act (.inr (.inl k)))
  | hold k => exact hs.of_dataKept (.of_act (.inr (.inr k)))
  | queue k =>
    have hmanifest := congrArg State.manifest k.frame
    have hcfg := congrArg State.cfg k.frame
    have hquality := congrArg State.quality k.frame
    have hcause := congrArg State.cause k.frame
    have henable := congrArg State.enable k.frame
    have hreset := congrArg State.resetCause k.frame
    refine ⟨?_, ?_, ?_, ⟨?_, ?_, ?_⟩, k.legal hs⟩
    · exact hmanifest.symm ▸ hs.manifest
    · exact hcfg.symm ▸ hs.cfg
    · exact hquality.symm ▸ hs.quality
    · exact hcause.symm ▸ hs.bits.1
    · exact henable.symm ▸ hs.bits.2.1
    · exact hreset.symm ▸ hs.bits.2.2
  | manifest m hm _ => exact ⟨hm hs.manifest, hs.cfg, hs.quality, hs.bits, hs.queue⟩
  | cfg x hx _ => exact ⟨hs.manifest, hx hs.manifest hs.cfg, hs.quality, hs.bits, hs.queue⟩
  | quality x hx => exact ⟨hs.manifest, hs.cfg, hx hs.quality, hs.bits, hs.queue⟩
  | registers c e r hc he hr =>
    exact ⟨hs.manifest, hs.cfg, hs.quality, ⟨hc hs.bits.1, he hs.bits.2.1, hr hs.bits.2.2⟩, hs.queue⟩
  | reset x => exact legal_reset s x hs
  | geometry g _ => exact ⟨hs.manifest, hs.cfg, hs.quality, hs.bits, hs.queue⟩
  | species v _ => exact ⟨hs.manifest, hs.cfg, hs.quality, hs.bits, hs.queue⟩
  | ram m _ _ => exact ⟨hs.manifest, hs.cfg, hs.quality, hs.bits, hs.queue⟩
  | eeprom m _ => exact ⟨hs.manifest, hs.cfg, hs.quality, hs.bits, hs.queue⟩

/-! ### The frame references alone -/

theorem framesAreTickets_iff (s : State) :
    s.framesAreTickets ↔ s.manifest.ticketed ∧ s.cfg.ticketed ∧ ∀ q ∈ s.queue, ∀ n, q.frame = some n → isTicketFrame n :=
  ⟨fun ⟨hcursor, hstaged, hqueue, hsave⟩ => ⟨⟨hcursor, hstaged⟩, hsave, hqueue⟩,
    fun ⟨⟨hcursor, hstaged⟩, hsave, hqueue⟩ => ⟨hcursor, hstaged, hqueue, hsave⟩⟩

theorem mem_identities {l : List Record} {P : Nat → Prop} :
    (∀ q ∈ l, ∀ n, q.frame = some n → P n) ↔ ∀ x ∈ l.map Record.identity, ∀ n, x.2 = some n → P n := by
  simp only [List.mem_map, forall_exists_index, and_imp, forall_apply_eq_imp_iff₂, Record.identity]

theorem DataKept.framesAreTickets {s t : State} (h : DataKept s t) (hs : s.framesAreTickets) : t.framesAreTickets := by
  rw [framesAreTickets_iff, mem_identities] at hs ⊢
  rw [h.manifest, h.cfg, h.queue]
  exact hs

/-- The acts on the queue give no record a frame but that of another record or of a staged ticket. -/
theorem QueueAct.frames {s t : State} (h : QueueAct s t) (hs : s.framesAreTickets) :
    ∀ q ∈ t.queue, ∀ n, q.frame = some n → isTicketFrame n := by
  obtain ⟨-, hstaged, hqueue, -⟩ := hs
  cases h with
  | change f hf =>
    intro q hq n hn
    obtain ⟨x, hx, rfl⟩ := List.mem_map.1 hq
    obtain ⟨y, hy, hyn⟩ := (hf x hx).2 n hn
    exact hqueue y hy n hyn
  | append q hroom hfree hframe =>
    have appended : ∀ x ∈ s.queue ++ [q], ∀ n, x.frame = some n → isTicketFrame n := by
      intro x hx n hn
      rcases List.mem_append.1 hx with hx | hx
      · exact hqueue x hx n hn
      · obtain rfl := List.mem_singleton.1 hx
        obtain ⟨e, he, rfl⟩ := hframe n hn
        exact hstaged e he
    split
    · exact appended
    · exact appended
  | remove tag =>
    have hremoved : (s.removeRecord tag).queue = s.queue.filter fun q => q.tag != tag := by
      unfold State.removeRecord; dsimp only; split <;> rfl
    rw [hremoved]
    exact fun q hq => hqueue q (List.mem_filter.1 hq).1

/-- Every elementary act keeps the frame references those of ticket frames. -/
theorem Act.keeps_framesAreTickets {w : Prop} (s t : State) (h : Act w s t) (hs : s.framesAreTickets) : t.framesAreTickets := by
  obtain ⟨hmanifest, hcfg, hqueue⟩ := (framesAreTickets_iff s).1 hs
  cases h with
  | unseen k =>
    have km := congrArg State.manifest k
    have kc := congrArg State.cfg k
    have kq := congrArg State.queue k
    exact (framesAreTickets_iff t).2 ⟨km.symm ▸ hmanifest, kc.symm ▸ hcfg, kq.symm ▸ hqueue⟩
  | arm k => exact (DataKept.of_act (.inl k)).framesAreTickets hs
  | count k => exact (DataKept.of_act (.inr (.inl k))).framesAreTickets hs
  | hold k => exact (DataKept.of_act (.inr (.inr k))).framesAreTickets hs
  | queue k =>
    have km := congrArg State.manifest k.frame
    have kc := congrArg State.cfg k.frame
    exact (framesAreTickets_iff t).2 ⟨km.symm ▸ hmanifest, kc.symm ▸ hcfg, k.frames hs⟩
  | manifest m _ hm => exact (framesAreTickets_iff _).2 ⟨hm hmanifest, hcfg, hqueue⟩
  | cfg x _ hx => exact (framesAreTickets_iff _).2 ⟨hmanifest, hx hmanifest hcfg, hqueue⟩
  | reset x =>
    exact ⟨Nat.zero_le _, (fun e he => nomatch he), (fun q hq => nomatch hq), fun y hy => nomatch hy⟩
  | quality x _ => exact hs
  | registers c e r _ _ _ => exact hs
  | geometry g _ => exact hs
  | species v _ => exact hs
  | ram m _ _ => exact hs
  | eeprom m _ => exact hs

end Sys2Proof.Machine
end

section
/-! PROOF. Runs of elementary acts, and the shared operations as such runs. -/

namespace Sys2Proof.Machine

/-! ### Runs -/

/-- A run of elementary acts, where `w` says that the published frames are left alone. -/
inductive Run (w : Prop) : State → State → Prop
  | refl (s : State) : Run w s s
  | tail {s t u : State} : Run w s t → Act w t u → Run w s u

theorem Run.trans {w : Prop} {s t u : State} (h : Run w s t) (k : Run w t u) : Run w s u := by
  induction k with
  | refl => exact h
  | tail _ act ih => exact ih.tail act

/-- What every elementary act keeps, every run of them keeps. -/
theorem Run.keeps {w : Prop} {P : State → Prop} (h : ∀ s t, Act w s t → P s → P t) {s t : State} (k : Run w s t) (hs : P s) :
    P t := by
  induction k with
  | refl => exact hs
  | tail _ act ih => exact h _ _ act ih

theorem Run.framesAreTickets {w : Prop} {s t : State} (k : Run w s t) (hs : s.framesAreTickets) : t.framesAreTickets :=
  k.keeps Act.keeps_framesAreTickets hs

theorem Run.foldl_mem {w : Prop} {α : Type} {f : State → α → State} (xs : List α) (s : State)
    (h : ∀ x ∈ xs, ∀ s, Run w s (f s x)) : Run w s (xs.foldl f s) := by
  induction xs generalizing s with
  | nil => exact .refl s
  | cons x xs ih => exact (h x (by simp) s).trans (ih _ fun y hy => h y (List.mem_cons_of_mem _ hy))

/-- From `s` to `t` there is a run of elementary acts, and one that leaves the published frames alone while the frames that the part
refers to are ticket frames. -/
structure Acts (s t : State) : Prop where
  run : ∀ w : Prop, (w → s.framesAreTickets) → Run w s t

theorem Acts.refl (s : State) : Acts s s := ⟨fun _ _ => .refl s⟩

theorem Acts.single {s t : State} (h : ∀ {w : Prop}, Act w s t) : Acts s t := ⟨fun _ _ => .tail (.refl s) h⟩

/-- After a run, another that may use what held before the first. -/
theorem Acts.bind {s t u : State} (h : Acts s t)
    (k : ∀ w : Prop, (w → s.framesAreTickets) → (w → t.framesAreTickets) → Run w t u) : Acts s u :=
  ⟨fun w hw => (h.run w hw).trans (k w hw fun hp => (h.run w hw).framesAreTickets (hw hp))⟩

theorem Acts.trans {s t u : State} (h : Acts s t) (k : Acts t u) : Acts s u := h.bind fun w _ ht => k.run w ht

/-- The run `h` and the run `k` after it, the later one first: its outcome is what the goal shows. -/
theorem Acts.after {s t u : State} (k : Acts t u) (h : Acts s t) : Acts s u := h.trans k

theorem Acts.foldl {α : Type} {f : State → α → State} (h : ∀ s x, Acts s (f s x)) (xs : List α) (s : State) :
    Acts s (xs.foldl f s) := by
  induction xs generalizing s with
  | nil => exact .refl s
  | cons x xs ih => exact (h s x).trans (ih _)

/-- The run without regard to the published frames. -/
theorem Acts.free {s t : State} (h : Acts s t) : Run False s t := h.run False False.elim

theorem Acts.unseen {s t : State} (h : unseenFrom s t = s) : Acts s t := .single (.unseen h)
theorem Acts.arm {s t : State} (h : ArmAct s t) : Acts s t := .single (.arm h)
theorem Acts.count {s t : State} (h : CountAct s t) : Acts s t := .single (.count h)
theorem Acts.queue {s t : State} (h : QueueAct s t) : Acts s t := .single (.queue h)
theorem Acts.hold {s t : State} (h : HoldAct s t) : Acts s t := .single (.hold h)

theorem Acts.ite {p : Prop} [Decidable p] {s t u : State} (h : p → Acts s t) (k : ¬ p → Acts s u) :
    Acts s (if p then t else u) := by
  by_cases hp : p
  · rw [if_pos hp]; exact h hp
  · rw [if_neg hp]; exact k hp

/-! ### Shared operations -/

theorem Act.raise {w : Prop} (s : State) (c : Cause) : Act w s (s.raise c) := .registers s _ _ _ (within_raise c) id id

theorem Acts.raise (s : State) (c : Cause) : Acts s (s.raise c) := .single (.raise s c)

/-- A write within a frame below the published ones. -/
theorem Act.writeFrame {w : Prop} (s : State) (f k : Nat) (bs : List Byte) (hk : k + bs.length ≤ 256) (hf : w → f ≤ 239) :
    Act w s (s.writeFrame f k bs) := by
  refine .ram s _ (Memory.wf_writeBytes _ bs) fun hw a ha => Memory.read_writeBytes_of_outside ?_
  have hle := hf hw
  simp only [isPublished, frameAddr] at ha ⊢
  omega

theorem Acts.writeFrame (s : State) (f k : Nat) (bs : List Byte) (hk : k + bs.length ≤ 256) (hf : s.framesAreTickets → f ≤ 239) :
    Acts s (s.writeFrame f k bs) := ⟨fun _ hw => .tail (.refl s) (.writeFrame s f k bs hk fun k => hf (hw k))⟩

theorem Acts.startPark (s : State) (r : RotorId) : Acts s (s.startPark r) := .unseen (by cases r <;> rfl)
theorem Acts.stopPark (s : State) (r : RotorId) : Acts s (s.stopPark r) := .unseen (by cases r <;> rfl)
theorem Acts.setMark (s : State) (c : Client) (t : Tag) (m : Option Mark) : Acts s (s.setMark c t m) := .unseen rfl
theorem Acts.counters (s : State) (k : Counters) : Acts s { s with counters := k } := .unseen rfl
theorem Acts.feed (s : State) (f : Feed) : Acts s { s with feed := f } := .unseen rfl
theorem Acts.reachTime (s : State) (n : Nat) : Acts s (s.reachTime n) := .unseen rfl

/-- A change of the records' fields that keeps tags and frames. -/
theorem Acts.mapQueue (s : State) {f : Record → Record} (h : ∀ q, (f q).tag = q.tag ∧ (f q).frame = q.frame) :
    Acts s (s.mapQueue f) :=
  .queue (.change s f fun q hq => ⟨(h q).1, fun n hn => ⟨q, hq, (h q).2.symm.trans hn⟩⟩)

theorem Acts.updRecord (s : State) (t : Tag) {f : Record → Record} (h : ∀ q, (f q).tag = q.tag ∧ (f q).frame = q.frame) :
    Acts s (s.updRecord t f) :=
  .mapQueue s fun q => by
    by_cases hq : (q.tag == t) = true
    · simp only [hq, if_true]; exact h q
    · simp only [hq]; exact ⟨rfl, rfl⟩

theorem updView_identity (q : Record) (r : RotorId) (f : RotorView → RotorView) :
    (q.updView r f).tag = q.tag ∧ (q.updView r f).frame = q.frame := by cases r <;> exact ⟨rfl, rfl⟩

theorem Acts.updView (s : State) (r : RotorId) (t : Tag) (f : RotorView → RotorView) : Acts s (s.updView r t f) :=
  .updRecord s t fun q => updView_identity q r f

/-! ### The Flow Arbiter and the Arm Controllers -/

theorem Acts.grantUpTo (n : Nat) (s : State) : Acts s (State.grantUpTo n s) := by
  induction n generalizing s with
  | zero => exact .refl _
  | succ n ih =>
    unfold State.grantUpTo
    by_cases hfree : s.arbiter.inFlight.length < s.arbiter.slots
    · rw [if_pos hfree]
      cases s.choose with
      | none => exact .refl _
      | some e => exact (Acts.arm (.grant s e.arm hfree)).trans (ih _)
    · rw [if_neg hfree]; exact .refl s

theorem Acts.arbitrate (s : State) : Acts s s.arbitrate := .grantUpTo _ s

theorem Acts.recomputeAll (s : State) (as : List ArmId) (forced : Bool) (k : RecomputeClass) :
    Acts s (s.recomputeAll as forced k) :=
  .foldl (fun s a => .arm (.recompute s forced k a)) as s

/-- A change of an arm's indications that leaves its state, its flow state and its monitor. -/
theorem Acts.updArm (s : State) (a : ArmId) {f : Arm → Arm}
    (h : ∀ c, (f c).state = c.state ∧ (f c).flow = c.flow ∧ (f c).monitor = c.monitor) : Acts s (s.updArm a f) := by
  obtain ⟨hstate, hflow, hmonitor⟩ := h (s.arm a)
  exact .arm (.minor s a _ hstate hflow fun hb => by rw [hmonitor]; exact hb)

theorem Acts.idleStandby (which : ArmState → Bool) (s : State) (a : ArmId) : Acts s (s.idleStandby which a) :=
  .ite (fun _ => .ite (fun _ => .count (.returnToStandby s a)) fun _ => .refl _)
    fun _ => .ite (fun _ => .arm (.toStandby s a)) fun _ => .refl _

theorem Acts.standbyRotor (s : State) (r : RotorId) (which : ArmState → Bool) : Acts s (s.standbyRotor r which) :=
  .trans (.foldl (.idleStandby which) _ s) (.startPark _ r)

theorem Acts.standbyAll (s : State) : Acts s s.standbyAll := .trans (.standbyRotor s .r1 _) (.standbyRotor _ .r2 _)

theorem Acts.askLift (aperture : Nat) (t : Option Tag) (s : State) (a : ArmId) : Acts s (s.askLift aperture t a) :=
  .ite (fun hout => .ite (fun _ => .trans (.count (.returnForLift s a hout)) (.arm (.lift _ aperture t a))) fun _ => .refl _)
    fun _ => .arm (.lift s aperture t a)

theorem Acts.askLifts (s : State) (r : RotorId) (aperture : Nat) (t : Option Tag) : Acts s (s.askLifts r aperture t) :=
  .foldl (.askLift aperture t) _ s

theorem Acts.teardownLift (s : State) (r : RotorId) : Acts s (s.teardownLift r) :=
  .trans (.stopPark s r) (.foldl (fun s a => .arm (.lift s _ none a)) _ _)

/-! ### The Manifest Reader -/

/-- The frame closed is below the published ones, where the run leaves those alone. -/
theorem Run.closeFrame {w : Prop} (s : State) (f : Nat) (tag : Word) (res : Result) (detail : Nat) (fields : List (Nat × List Byte))
    (hf : w → f ≤ 239) : Run w s (s.closeFrame f tag res detail fields) := by
  have count : ∀ u : State, Run w u ({ u with counters := s.counters.finish res }.raise (if res.rejects then .rejected else .closed)) := fun u =>
    have counted : Act w u { u with counters := s.counters.finish res } := .unseen rfl
    .tail (.tail (.refl u) counted) (.raise _ _)
  unfold State.closeFrame
  by_cases htaken : s.frameState f = 2
  · simp only [if_pos htaken]
    refine .trans (.tail (.tail (.refl s) (.writeFrame s f 128 _ ?_ hf)) (.writeFrame _ f 2 [res.frameState] ?_ hf)) (count _)
    · rw [length_outcomeSection]
    · exact Nat.le_of_ble_eq_true rfl
  · simp only [if_neg htaken]
    exact count s

theorem Acts.closeFrame (s : State) (f : Nat) (tag : Word) (res : Result) (detail : Nat) (fields : List (Nat × List Byte))
    (hf : s.framesAreTickets → f ≤ 239) : Acts s (s.closeFrame f tag res detail fields) :=
  ⟨fun _ hw => .closeFrame s f tag res detail fields fun k => hf (hw k)⟩

theorem Acts.requestScan (s : State) : Acts s s.requestScan :=
  .ite (fun _ => .refl _) fun _ => .ite (fun _ => .single (.manifest s _ id id)) fun _ => .single (.manifest s _ id id)

theorem Acts.endScan (s : State) (why : ScanEnd) : Acts s (s.endScan why) := .single (.manifest s _ id id)

/-- The head of the staged queue is exchanged for an entry of the same frame. -/
theorem Manifest.legal_head {m : Manifest} {e e' : StagedTicket} {rest : List StagedTicket} (h : m.staged = e :: rest)
    (hf : e'.frame = e.frame) (hm : m.legal) : Manifest.legal { m with staged := e' :: rest } := by
  obtain ⟨hlen, hcursor, hreload, hframes⟩ := hm
  rw [h] at hlen hframes
  refine ⟨hlen, hcursor, hreload, fun x hx => ?_⟩
  rcases List.mem_cons.1 hx with rfl | hx
  · rw [hf]; exact hframes e (by simp)
  · exact hframes x (List.mem_cons_of_mem _ hx)

theorem Manifest.ticketed_head {m : Manifest} {e e' : StagedTicket} {rest : List StagedTicket} (h : m.staged = e :: rest)
    (hf : e'.frame = e.frame) (hm : m.ticketed) : Manifest.ticketed { m with staged := e' :: rest } := by
  obtain ⟨hcursor, hframes⟩ := hm
  rw [h] at hframes
  refine ⟨hcursor, fun x hx => ?_⟩
  rcases List.mem_cons.1 hx with rfl | hx
  · rw [hf]; exact hframes e (by simp)
  · exact hframes x (List.mem_cons_of_mem _ hx)

theorem Acts.checkHead (s : State) : Acts s s.checkHead := by
  unfold State.checkHead
  split
  · rename_i e rest h
    exact .ite (fun _ => .single (.manifest s _ (Manifest.legal_head h rfl) (Manifest.ticketed_head h rfl))) fun _ => .refl _
  · exact .refl _

theorem Acts.bindHead (s : State) (b : Bool) : Acts s (s.bindHead b) := by
  unfold State.bindHead
  split
  · rename_i e rest h
    exact .single (.manifest s _ (Manifest.legal_head h rfl) (Manifest.ticketed_head h rfl))
  · exact .refl _

theorem Manifest.legal_tail {m : Manifest} (hm : m.legal) : Manifest.legal { m with staged := m.staged.tail } := by
  obtain ⟨hlen, hcursor, hreload, hframes⟩ := hm
  exact ⟨by simp only [List.length_tail]; omega, hcursor, hreload, fun e he => hframes e (List.mem_of_mem_tail he)⟩

theorem Manifest.ticketed_tail {m : Manifest} (hm : m.ticketed) : Manifest.ticketed { m with staged := m.staged.tail } :=
  ⟨hm.1, fun e he => hm.2 e (List.mem_of_mem_tail he)⟩

theorem Acts.departHead (s : State) : Acts s s.departHead :=
  .trans (.single (.manifest s _ Manifest.legal_tail Manifest.ticketed_tail)) (.trans (.requestScan _) (.checkHead _))

theorem Acts.moveCursor (s : State) {f : Nat} (hf : f ≤ 239) : Acts s (s.moveCursor f) := by
  unfold State.moveCursor
  dsimp only
  refine .trans (.writeFrame s f 3 [1] (by decide) fun _ => hf) (.trans
    (.ite (fun _ => .refl _) fun _ => .writeFrame _ s.manifest.cursor 3 [0] (by decide) fun h => h.1)
    (.single (.manifest _ _ ?_ fun h => ⟨hf, h.2⟩)))
  rintro ⟨hlen, _, hreload, hframes⟩
  exact ⟨hlen, hf, hreload, hframes⟩

theorem Acts.rejectAtScan (s : State) {f : Nat} (hf : f ≤ 239) (res : Result) (detail : Word) :
    Acts s (s.rejectAtScan f res detail) :=
  .trans (.writeFrame s f 2 [2] (by decide) fun _ => hf) (.trans (.closeFrame _ _ _ _ _ _ fun _ => hf) (.moveCursor _ hf))

theorem Acts.takeFrame (s : State) {f : Nat} (hf : isTicketFrame f) (hroom : s.manifest.staged.length < 4) (kind : TicketKind)
    (area : List Byte) : Acts s (s.takeFrame f kind area) := by
  unfold State.takeFrame
  dsimp only
  have staged : ∀ (l : List StagedTicket) (e : StagedTicket), e.frame = f → (∀ x ∈ l, isTicketFrame x.frame) →
      ∀ x ∈ l ++ [e], isTicketFrame x.frame := by
    intro l e he hl x hx
    rcases List.mem_append.1 hx with hx | hx
    · exact hl x hx
    · rw [List.mem_singleton.1 hx, he]; exact hf
  refine .trans (.writeFrame s f 2 [2] (by decide) fun _ => hf.2) (.trans (.trans (.single (.manifest _ _ ?_ ?_)) (.moveCursor _ hf.2))
    (.checkHead _))
  · rintro ⟨_, hcursor, hreload, hframes⟩
    exact ⟨by simp; omega, hcursor, hreload, staged _ _ rfl hframes⟩
  · exact fun ⟨hcursor, hframes⟩ => ⟨hcursor, staged _ _ rfl hframes⟩

theorem Acts.scanFrame (s : State) {f : Nat} (hf : isTicketFrame f) (hroom : s.manifest.staged.length < 4) :
    Acts s (s.scanFrame f) := by
  obtain ⟨why, -, h⟩ | ⟨res, detail, h⟩ | ⟨kind, area, h⟩ := scanFrame_cases s f
  · rw [h]; exact .endScan s why
  · rw [h]; exact .rejectAtScan s hf.2 res detail
  · rw [h]; exact .takeFrame s hf hroom kind area

theorem Acts.scanOnce (s : State) : Acts s s.scanOnce := by
  refine .ite (fun _ => .endScan s _) fun hroom => ?_
  dsimp only
  exact .ite (fun _ => .endScan s _) fun hpos => .ite (fun _ => .trans (.raise s _) (.endScan _ _))
    fun hlink => .scanFrame s ⟨by omega, by omega⟩ (by omega)

/-! ### Transit records, their closure and the teardown -/

/-- The record closed holds no published frame, where the run leaves those alone. -/
theorem Run.closeRecord {w : Prop} (s : State) (q : Record) (res : Result) (rep : ReportFields)
    (hq : w → ∀ n, q.frame = some n → isTicketFrame n) : Run w s (s.closeRecord q res rep) := by
  have removed : ∀ u : State, Run w u (u.removeRecord q.tag) := fun u => .tail (.refl u) (.queue (.remove u q.tag))
  unfold State.closeRecord
  dsimp only
  split
  · rename_i f hf
    exact .trans (.closeFrame _ _ _ _ _ _ fun k => (hq k f hf).2) (removed _)
  · exact removed s

theorem Acts.closeRecord (s : State) {q : Record} (hq : q ∈ s.queue) (res : Result) (rep : ReportFields) :
    Acts s (s.closeRecord q res rep) :=
  ⟨fun _ hw => .closeRecord s q res rep fun k => (hw k).2.2.1 q hq⟩

theorem Run.loseRecord {w : Prop} (s : State) (q : Record) (hq : w → ∀ n, q.frame = some n → isTicketFrame n) :
    Run w s (s.loseRecord q) := by
  have bind : Run w s (s.bindHead false) := by
    unfold State.bindHead
    split
    · rename_i e rest h
      exact .tail (.refl s) (.manifest s _ (Manifest.legal_head h rfl) (Manifest.ticketed_head h rfl))
    · exact .refl s
  unfold State.loseRecord
  split
  · split
    · exact bind.trans (.closeRecord _ _ _ _ fun _ n hn => nomatch hn)
    · exact .closeRecord _ _ _ _ hq
  · exact .closeRecord _ _ _ _ hq

theorem Acts.trackFault (s : State) (why : TrackReason) : Acts s (s.trackFault why) :=
  .trans (.bind (.trans (.feed s (s.feed.latched why)) (.trans (.hold (.latch _ true)) (.raise _ .track)))
    fun _ hs _ => .foldl_mem s.queue _ fun q hq u => .loseRecord u q fun k => (hs k).2.2.1 q hq)
    (.trans (.feed _ _) (.trans (.teardownLift _ .r1) (.trans (.teardownLift _ .r2) (.arbitrate _))))

end Sys2Proof.Machine
end

section
/-! PROOF. The marks, the tracker and the binding of records as runs of elementary acts. -/

namespace Sys2Proof.Machine

/-! ### What a client does with its mark, whatever arms the next one -/

/-- An arming that is a run of elementary acts. The tracker's own is one. -/
def Arming.acts (arm : Arming) : Prop := ∀ s c t p x, Acts s (arm s c t p x)

section
variable {arm : Arming} (h : arm.acts)
include h

theorem Acts.armFirst (s : State) (r : RotorId) (q : Record) : Acts s (s.armFirst arm r q) := by
  unfold State.armFirst
  split
  · exact h ..
  · exact h ..

theorem Acts.armNearest (s : State) (r : RotorId) (q : Record) : Acts s (s.armNearest arm r q) := by
  unfold State.armNearest
  split
  · exact h ..
  · split
    · exact h ..
    · exact .setMark ..

theorem Acts.armAfterEntry (s : State) (r : RotorId) (q : Record) : Acts s (s.armAfterEntry arm r q) := by
  unfold State.armAfterEntry
  split
  · exact h ..
  · exact h ..

theorem Acts.rearmBody (s : State) (r : RotorId) (t : Tag) : Acts s (s.rearmBody arm r t) := by
  unfold State.rearmBody
  split
  · exact .armNearest h ..
  · exact .refl s

theorem Acts.takeLift (s : State) (r : RotorId) (q : Record) : Acts s (s.takeLift arm r q) :=
  .trans (.stopPark s r) (.trans (.askLifts ..) (.trans (.updView ..) (.armFirst h ..)))

omit h in
theorem Acts.askLiftBehindStub (aperture : Nat) (t : Option Tag) (s : State) (a : ArmId) :
    Acts s (s.askLiftBehindStub aperture t a) := by
  unfold State.askLiftBehindStub
  split
  · exact .refl s
  · exact .refl s
  · exact .askLift ..

theorem Acts.liftBehindStub (s : State) (r : RotorId) (q : Record) : Acts s (s.liftBehindStub arm r q) :=
  .trans (.stopPark s r) (.trans (.foldl (.askLiftBehindStub _ _) _ _) (.trans (.updView ..) (.armFirst h ..)))

theorem Acts.onEntry (s : State) (r : RotorId) (q : Record) : Acts s (s.onEntry arm r q) := by
  refine .trans (.updRecord s q.tag fun x => ?_) (.trans (.foldl (fun s a => .arm (.enter s q a)) (armsOf r) _)
    (.trans (.recomputeAll ..) (.trans (.armAfterEntry h ..) (.arbitrate _))))
  exact updView_identity _ r _

theorem Acts.onRampEnd (s : State) (r : RotorId) (q : Record) : Acts s (s.onRampEnd arm r q) :=
  .trans (.updView s r q.tag _) (.trans (.recomputeAll ..) (.trans (.rearmBody h ..) (.arbitrate _)))

theorem Acts.onSection (s : State) (r : RotorId) (q : Record) (p : Pos) : Acts s (s.onSection arm r q p) :=
  .trans (.updView s r q.tag _) (.trans (.recomputeAll ..) (.trans (.rearmBody h ..) (.arbitrate _)))

theorem Acts.armTail (s : State) (r : RotorId) (q : Record) : Acts s (s.armTail arm r q) := by
  unfold State.armTail
  split
  · exact h ..
  · exact .refl s

omit h in
theorem Acts.jointLift (s : State) (r : RotorId) (a b : Record) : Acts s (s.jointLift r a b) :=
  .trans (.updView s r a.tag _) (.trans (.updView _ r b.tag _) (.trans (.askLifts ..) (.updView ..)))

omit h in
theorem Acts.ventRelease (s : State) (r : RotorId) (q : Record) : Acts s (s.ventRelease r q) :=
  .trans (.updView s r q.tag _) (.foldl (fun s a => .arm (.release s q.tag a)) (armsOf r) _)

theorem Acts.onRelease (s : State) (r : RotorId) (q : Record) : Acts s (s.onRelease arm r q) := by
  unfold State.onRelease
  split
  · exact .trans (.jointLift ..) (.trans (.armTail h ..) (.arbitrate _))
  · exact .trans (.ventRelease ..) (.trans (.armTail h ..) (.arbitrate _))

omit h in
theorem Acts.tailStandby (s : State) (a : ArmId) : Acts s (s.tailStandby a) :=
  .ite (fun _ => .arm (.toStandby s a)) fun _ => .refl s

theorem Acts.takeUpNext (s : State) (r : RotorId) (b : Record) : Acts s (s.takeUpNext arm r b) := by
  unfold State.takeUpNext
  split
  · exact .takeLift h ..
  · exact .takeLift h ..
  · exact .liftBehindStub h ..
  · exact .trans (.foldl .tailStandby _ s) (h ..)
  · exact .armFirst h ..

theorem Acts.onTail (s : State) (r : RotorId) (q : Record) : Acts s (s.onTail arm r q) := by
  unfold State.onTail
  dsimp only
  split
  · exact .trans (.updView s r q.tag _) (.trans (.takeUpNext h ..) (.arbitrate _))
  · exact .trans (.updView s r q.tag _) (.trans (.standbyRotor ..) (.arbitrate _))

theorem Acts.rotorMark (s : State) (r : RotorId) (q : Record) (m : Mark) : Acts s (s.rotorMark arm r q m) := by
  unfold State.rotorMark
  split
  · exact .trans (.takeLift h ..) (.arbitrate _)
  · exact .onEntry h ..
  · exact .onRampEnd h ..
  · exact .onSection h ..
  · exact .onRelease h ..
  · exact .onTail h ..
  · exact .refl s
  · exact .refl s

theorem Acts.transitMark (s : State) {q : Record} (hq : q ∈ s.queue) (m : Mark) : Acts s (s.transitMark arm q m) := by
  unfold State.transitMark
  split
  · exact .trans (.updRecord (f := fun x => { x with outfeed := .awaitReport }) s q.tag fun _ => ⟨rfl, rfl⟩) (h ..)
  · exact .closeRecord s hq _ _
  · exact .refl s

theorem Acts.fireMark (s : State) (c : Client) {q : Record} (hq : q ∈ s.queue) (m : Mark) : Acts s (s.fireMark arm c q m) :=
  .trans (.setMark s c q.tag none) (match c with
    | .rotor1 => .rotorMark h _ .r1 q m
    | .rotor2 => .rotorMark h _ .r2 q m
    | .transit => .transitMark h (s.setMark .transit q.tag none) hq m)

end

/-! ### The tracker's arming and the firing of marks -/

theorem acts_armMark (n : Nat) : (State.armMark n).acts := by
  induction n with
  | zero => exact fun s _ _ _ _ => .setMark s ..
  | succ n ih =>
    intro s c t p x
    unfold State.armMark
    split
    · split
      · rename_i q hq
        exact .fireMark ih s c (List.mem_of_find?_eq_some hq) _
      · exact .setMark ..
    · exact .setMark ..

theorem acts_arming : State.arming.acts := acts_armMark markFuel

theorem Acts.arming (s : State) (c : Client) (t : Tag) (p : MarkPurpose) (x : Pos) : Acts s (State.arming s c t p x) :=
  acts_arming s c t p x

/-- A due mark is one of a record in the queue. -/
theorem mem_of_dueMark {s : State} {c : Client} {q : Record} {m : Mark} (h : s.dueMark = some (c, q, m)) : q ∈ s.queue := by
  have of : ∀ d, (c, q, m) ∈ s.dueMarksOf d → q ∈ s.queue := by
    intro d hd
    obtain ⟨x, hx, hsome⟩ := List.mem_filterMap.1 hd
    split at hsome
    · split at hsome
      · cases hsome; exact hx
      · exact nomatch hsome
    · exact nomatch hsome
  unfold State.dueMark at h
  rw [Option.or_eq_some_iff, Option.or_eq_some_iff] at h
  obtain (h | ⟨-, h⟩) | ⟨-, h⟩ := h
  · exact of _ (List.mem_of_head? h)
  · exact of _ (List.mem_of_head? h)
  · exact of _ (List.mem_of_head? h)

theorem Acts.fireMarks (n : Nat) (s : State) : Acts s (State.fireMarks n s) := by
  induction n generalizing s with
  | zero => exact .refl s
  | succ n ih =>
    unfold State.fireMarks
    split
    · rename_i hdue
      exact .trans (.fireMark acts_arming s _ (mem_of_dueMark hdue) _) (ih _)
    · exact .refl s

/-! ### The head event (R44 to R50, R58) -/

theorem freeTag_free {s : State} {t : Tag} (h : s.freeTag = some t) : ∀ x ∈ s.queue, x.tag ≠ t := by
  have hfree := List.find?_some h
  intro x hx heq
  rw [Bool.not_eq_true', List.any_eq_false] at hfree
  exact hfree x hx (beq_iff_eq.2 heq)

/-- The classing of a new record leaves its tag and its frame (R50). -/
theorem classed_identity (s : State) (q : Record) : (s.classed q).tag = q.tag ∧ (s.classed q).frame = q.frame := by
  unfold State.classed
  dsimp only
  split
  · exact ⟨rfl, rfl⟩
  · exact ⟨rfl, rfl⟩
  · split
    · exact ⟨rfl, rfl⟩
    · split
      · split <;> exact ⟨rfl, rfl⟩
      · exact ⟨rfl, rfl⟩

/-- A new record has the tag given and at most the frame of a staged ticket (R44, R45, R48). -/
theorem boundRecord_identity (s : State) (t : Tag) (head : Pos) :
    (s.boundRecord t head).tag = t ∧ ∀ n, (s.boundRecord t head).frame = some n → ∃ e ∈ s.manifest.staged, e.frame = n := by
  unfold State.boundRecord
  dsimp only
  split
  · rename_i e rest h
    split
    · split <;> exact ⟨rfl, fun n hn => ⟨e, by rw [h]; exact List.mem_cons_self, Option.some.inj hn⟩⟩
    · exact ⟨rfl, fun n hn => nomatch hn⟩
  · exact ⟨rfl, fun n hn => nomatch hn⟩

theorem Acts.armIfCurrent (s : State) (r : RotorId) (q : Record) : Acts s (s.armIfCurrent r q) := by
  unfold State.armIfCurrent
  split
  · exact .ite (fun _ => .arming ..) fun _ => .refl s
  · exact .refl s

theorem bindHead_queue (s : State) (b : Bool) : (s.bindHead b).queue = s.queue := by
  have k := congrArg State.queue (bindHead_fields s b); exact k

/-- Marking the head as bound leaves every staged ticket its frame. -/
theorem bindHead_frames (s : State) (b : Bool) :
    (s.bindHead b).manifest.staged.map StagedTicket.frame = s.manifest.staged.map StagedTicket.frame := by
  unfold State.bindHead
  split
  · rename_i h; simp [h]
  · rfl

theorem mem_frames {l l' : List StagedTicket} (h : l.map StagedTicket.frame = l'.map StagedTicket.frame) {n : Nat}
    (hn : ∃ e ∈ l', e.frame = n) : ∃ e ∈ l, e.frame = n :=
  List.mem_map.1 (h ▸ List.mem_map.2 hn)

/-- A classed record joins the queue with a free tag, and each rotor at which it is current arms its lift mark (R44, R66). -/
theorem Acts.appendRecord (s : State) (q : Record) (hroom : s.queue.length < maxRecords) (hfree : ∀ x ∈ s.queue, x.tag ≠ q.tag)
    (hframe : ∀ n, q.frame = some n → ∃ e ∈ s.manifest.staged, e.frame = n) :
    Acts s (((if (s.queue ++ [q]).length ≥ maxRecords
      then { s with queue := s.queue ++ [q], temp := s.temp.hold q }.putHold .transitFull true
      else { s with queue := s.queue ++ [q], temp := s.temp.hold q }).armIfCurrent .r1 q).armIfCurrent .r2 q) :=
  .trans (.unseen (t := { s with temp := s.temp.hold q }) rfl) (.trans
    (.queue (.append { s with temp := s.temp.hold q } q hroom hfree hframe))
    (.trans (.armIfCurrent _ .r1 q) (.armIfCurrent _ .r2 q)))

theorem Acts.createRecord (s : State) (t : Tag) (head : Pos) (hroom : s.queue.length < maxRecords)
    (hfree : ∀ x ∈ s.queue, x.tag ≠ t) : Acts s (s.createRecord t head) := by
  obtain ⟨hbtag, hbframe⟩ := boundRecord_identity s t head
  obtain ⟨htag, hframe⟩ := classed_identity s (s.boundRecord t head)
  have append : ∀ u : State, u.queue = s.queue →
      u.manifest.staged.map StagedTicket.frame = s.manifest.staged.map StagedTicket.frame → Acts u _ :=
    fun u hqueue hstaged => .appendRecord u (s.classed (s.boundRecord t head)) (by rw [hqueue]; exact hroom)
      (by rw [hqueue, htag, hbtag]; exact hfree) fun n hn => mem_frames hstaged (hbframe n (hframe ▸ hn))
  unfold State.createRecord
  by_cases hlog : s.headIsLog = true
  · simp only [if_pos hlog]
    exact .trans (.bindHead s true) (append _ (bindHead_queue s true) (bindHead_frames s true))
  · simp only [if_neg hlog]
    exact append s rfl rfl

end Sys2Proof.Machine
end

section
/-! PROOF. The head and tail events, the steps of the feed and the tickets as runs of elementary acts. -/

namespace Sys2Proof.Machine

/-! ### The head and tail events (chapter 3) -/

theorem Acts.headScan (s : State) : Acts s s.headScan := .ite (fun _ => .requestScan s) fun _ => .refl s

theorem Acts.headEvent (s : State) (head : Pos) : Acts s (s.headEvent head) := by
  have works : Acts s (if s.queue.length < maxRecords then
      match s.freeTag with
      | some t => (s.createRecord t head).headScan
      | none => s.headScan
    else (s.trackFault .queueFull).headScan) := by
    refine .ite (fun hroom => ?_) fun _ => .trans (.trackFault ..) (.headScan _)
    cases hfree : s.freeTag with
    | none => exact .headScan s
    | some t => exact .trans (.createRecord s t head hroom (freeTag_free hfree)) (.headScan _)
  unfold State.headEvent
  split
  · exact works
  · exact works
  · exact .after (.headScan _) (.counters s _)
  · exact .after (.headScan _) (.counters s _)

/-- A record takes the place of the one of its tag, with no frame that no record holds. -/
theorem Acts.putRecord (s : State) (q : Record) (h : ∀ n, q.frame = some n → ∃ x ∈ s.queue, x.frame = some n) :
    Acts s (s.putRecord q) := by
  refine .queue (.change s _ fun x hx => ?_)
  by_cases hxq : (x.tag == q.tag) = true
  · simp only [hxq, if_true]
    exact ⟨(beq_iff_eq.1 hxq).symm, h⟩
  · simp only [hxq]
    exact ⟨rfl, fun n hn => ⟨x, hx, hn⟩⟩

theorem Acts.confirmLog (s : State) (q : Record) (h : ∀ n, q.frame = some n → ∃ x ∈ s.queue, x.frame = some n) :
    Acts s (s.confirmLog q) := by
  have put : Acts s (s.putRecord { q with lengthMismatch := q.lengthMismatch || lengthOff s.geometry q }) := .putRecord s _ h
  unfold State.confirmLog
  dsimp only
  by_cases hoff : lengthOff s.geometry q = true
  · rw [if_pos hoff]
    exact .trans put (.trans (.counters _ { s.counters with mismatches := _ }) (.departHead _))
  · rw [if_neg hoff]
    exact .trans put (.departHead _)

theorem Acts.classify (s : State) (q : Record) (h : ∀ n, q.frame = some n → ∃ x ∈ s.queue, x.frame = some n) :
    Acts s (s.classify q) := by
  refine .ite (fun _ => ?_) fun _ => ?_
  · refine .trans (.ite (fun _ => .bindHead s false) fun _ => .refl s) (.trans (.counters _ _) (.putRecord _ q.demote ?_))
    exact fun n hn => nomatch hn
  · split
    · exact .confirmLog s q h
    · exact .after (.raise _ _) (.after (.putRecord _ q h) (.counters s _))
    · exact .putRecord s q h

theorem Acts.reliftForStub (t : Tag) (s : State) (a : ArmId) : Acts s (s.reliftForStub t a) :=
  .ite (fun _ => .refl s) fun _ => .arm (.lift s _ _ a)

theorem Acts.handOver (s : State) (r : RotorId) (q : Record) : Acts s (s.handOver r q) := by
  unfold State.handOver
  split
  · exact .trans (.foldl (.reliftForStub q.tag) _ s) (.ite (fun _ => .armFirst acts_arming ..) fun _ => .refl _)
  · split
    · exact .arming ..
    · exact .refl s
  · split
    · exact .arming ..
    · exact .refl s
  · exact .armNearest acts_arming ..
  · exact .armNearest acts_arming ..
  · exact .refl s

theorem Acts.handOverBoth (s : State) (t : Tag) : Acts s (s.handOverBoth t) := by
  unfold State.handOverBoth
  split
  · exact .trans (.handOver ..) (.trans (.handOver ..) (.arbitrate _))
  · exact .refl s

theorem Acts.tailEvent (s : State) (tail : Pos) : Acts s (s.tailEvent tail) := by
  unfold State.tailEvent
  cases hlast : s.queue.getLast? with
  | none => exact .refl s
  | some q =>
    exact .after (.arming ..) (.after (.handOverBoth _ q.tag)
      (.classify s _ fun n hn => ⟨q, List.mem_of_getLast? hlast, hn⟩))

/-! ### Steps of the feed (chapter 1) -/

theorem Acts.infeedBlocked (s : State) (edge : Pos) : Acts s (s.infeedBlocked edge) := by
  unfold State.infeedBlocked
  dsimp only
  split
  · exact .feed s _
  · exact .after (.headEvent _ edge) (.feed s _)

theorem Acts.infeedClear (s : State) (edge : Pos) : Acts s (s.infeedClear edge) := by
  unfold State.infeedClear
  dsimp only
  cases s.feed.blockage with
  | none => exact .feed s _
  | some b =>
    by_cases hworked : b.worked = true
    · simp only [if_pos hworked]
      exact .after (.tailEvent _ edge) (.feed s _)
    · simp only [if_neg hworked]
      exact .feed s _

theorem Acts.sampleInfeed (s : State) : Acts s s.sampleInfeed := by
  unfold State.sampleInfeed
  dsimp only
  split
  · exact .after (.infeedBlocked _ _) (.feed s _)
  · exact .after (.infeedClear _ _) (.feed s _)
  · exact .feed s _

theorem Acts.checkOverlong (s : State) : Acts s s.checkOverlong := .ite (fun _ => .trackFault ..) fun _ => .refl s

theorem Acts.checkOutfeed (s : State) (edge : Pos) : Acts s (s.checkOutfeed edge) := by
  unfold State.checkOutfeed
  split
  · exact .refl s
  · exact .ite (fun _ => .refl s) fun _ => .trackFault ..

theorem Acts.sampleOutfeed (s : State) : Acts s s.sampleOutfeed := by
  unfold State.sampleOutfeed
  dsimp only
  split
  · exact .after (.ite (fun _ => .checkOutfeed _ _) fun _ => .refl _) (.feed s _)
  · exact .feed s _

theorem Acts.newPeakStep (s : State) : Acts s s.newPeakStep :=
  .trans (.feed s { s.feed with peak := s.feed.position })
    (.trans (.sampleInfeed _) (.trans (.checkOverlong _) (.trans (.sampleOutfeed _) (.fireMarks ..))))

theorem Acts.forwardStep (s : State) : Acts s s.forwardStep :=
  .trans (.feed s { s.feed with position := s.feed.position + 1 }) (.ite (fun _ => .newPeakStep _) fun _ => .refl _)

theorem Acts.reverseBeyond (s : State) : Acts s s.reverseBeyond :=
  .trans (.feed s s.feed.rebase) (.ite (fun _ => .refl _) fun _ => .trackFault ..)

theorem Acts.reverseStep (s : State) : Acts s s.reverseStep :=
  .trans (.feed s { s.feed with position := s.feed.position - 1 })
    (.ite (fun _ => .ite (fun _ => .reverseBeyond _) fun _ => .refl _) fun _ => .feed _ _)

theorem Acts.forwardEdge (s : State) : Acts s s.forwardEdge :=
  .ite (fun _ => .feed s _) fun _ => .trans (.feed s { s.feed with edges := 0 }) (.forwardStep _)

theorem Acts.reverseEdge (s : State) : Acts s s.reverseEdge :=
  .ite (fun _ => .trans (.feed s { s.feed with edges := _ }) (.reverseStep _)) fun _ => .feed s _

theorem Acts.flagStall (s : State) : Acts s s.flagStall :=
  .mapQueue s fun q => by split <;> exact ⟨rfl, rfl⟩

theorem Acts.beginStandstill (s : State) : Acts s s.beginStandstill :=
  .trans (.feed s { s.feed with motion := .standstill, stall := none })
    (.trans (.flagStall _) (.trans (.recomputeAll ..) (.arbitrate _)))

theorem Acts.endStandstill (s : State) : Acts s s.endStandstill :=
  .trans (.feed s { s.feed with motion := .moving }) (.trans (.recomputeAll ..) (.arbitrate _))

theorem Acts.countMotion (s : State) : Acts s s.countMotion :=
  .ite (fun _ => .trans (.ite (fun _ => .endStandstill s) fun _ => .refl s) (.feed _ _)) fun _ => .refl s

theorem Acts.takeEdge (s : State) (edge : Edge) : Acts s (s.takeEdge edge) :=
  match edge with
  | .forward => .trans (.countMotion s) (.forwardEdge _)
  | .reverse => .trans (.countMotion s) (.reverseEdge _)
  | .noDirection => .refl s

/-! ### Rows of the species table (R91) -/

/-- A row's trim cells lie within its limit, and are zero in row 0 (R91). -/
def TrimsOk (k : Nat) (x : SpeciesRow) : Prop :=
  withinTrim x.trimLimit x.trimFrozen = true ∧ withinTrim x.trimLimit x.trimThawed = true
    ∧ (k = 0 → x.trimFrozen = 0 ∧ x.trimThawed = 0)

theorem trimsBounded_iff (s : State) : s.trimsBounded ↔ ∀ k, k < 32 → TrimsOk k (s.row k) := by
  constructor
  · rintro ⟨hcells, hfrozen, hthawed⟩ k hk
    exact ⟨(hcells k hk).1, (hcells k hk).2, fun h0 => by rw [h0]; exact ⟨hfrozen, hthawed⟩⟩
  · intro h
    have h0 := (h 0 (by omega)).2.2 rfl
    exact ⟨fun k hk => ⟨(h k hk).1, (h k hk).2.1⟩, h0.1, h0.2⟩

/-- A row that keeps its cells within its limit, if the table did, is written. -/
theorem Acts.setRow (s : State) (k : Nat) (x : SpeciesRow) (h : s.trimsBounded → k < 32 → TrimsOk k x) :
    Acts s (s.setRow k x) := by
  by_cases hk : k < 32
  · have heq : s.setRow k x = { s with species := s.species.set k x } := by rw [State.setRow, dif_pos hk]
    rw [heq]
    refine .single (.species s _ fun hs => ?_)
    rw [← heq, trimsBounded_iff]
    intro n hn
    rw [State.row_setRow]
    by_cases hkn : k = n ∧ k < 32
    · rw [if_pos hkn, ← hkn.1]; exact h hs hk
    · rw [if_neg hkn]; exact (trimsBounded_iff s).1 hs n hn
  · rw [State.setRow, dif_neg hk]; exact .refl s

theorem withinTrim_clampTrim (limit : Nat) (v : Int) : withinTrim limit (clampTrim limit v) = true := by
  unfold withinTrim clampTrim
  rw [decide_eq_true_iff]
  omega

theorem withinTrim_zero (limit : Nat) : withinTrim limit 0 = true := by
  unfold withinTrim
  rw [decide_eq_true_iff]
  omega

theorem TrimsOk.of_zero {k : Nat} {x : SpeciesRow} (hf : x.trimFrozen = 0) (ht : x.trimThawed = 0) : TrimsOk k x := by
  refine ⟨?_, ?_, fun _ => ⟨hf, ht⟩⟩
  · rw [hf]; exact withinTrim_zero _
  · rw [ht]; exact withinTrim_zero _

/-- A row that passes the checks of R92 has its cells within its limit. -/
theorem TrimsOk.of_rowCheck {k : Nat} {x : SpeciesRow} (h : rowCheck k x = none) : TrimsOk k x := by
  unfold rowCheck at h
  split_ifs at h with _ _ _ _ hwithin hzero
  rw [Bool.not_eq_true', Bool.not_eq_false, Bool.and_eq_true] at hwithin
  refine ⟨hwithin.1, hwithin.2, fun h0 => ?_⟩
  by_contra hne
  exact hzero ⟨h0, hne⟩

/-- A cell under a ticket's handling: within the new limit if the ticket's is, and 0 where live and ticket cell are (R93). -/
theorem withinTrim_handledTrim (handling : Word) {limit : Nat} (live : Int) {ticket : Int} (h : withinTrim limit ticket = true) :
    withinTrim limit (handledTrim handling limit live ticket) = true := by
  unfold handledTrim
  split_ifs
  · exact withinTrim_zero limit
  · exact h
  · exact withinTrim_clampTrim limit live

theorem handledTrim_zero (handling : Word) (limit : Nat) : handledTrim handling limit 0 0 = 0 := by
  unfold handledTrim clampTrim
  split_ifs
  · rfl
  · rfl
  · omega

theorem TrimsOk.speciesWrite {k : Nat} {live ticket : SpeciesRow} (handling : Word) (hlive : TrimsOk k live)
    (hticket : TrimsOk k ticket) : TrimsOk k (speciesWrite k handling live ticket) := by
  obtain ⟨hfrozen, hthawed, hzero⟩ := hticket
  refine ⟨withinTrim_handledTrim handling _ hfrozen, withinTrim_handledTrim handling _ hthawed, fun h0 => ?_⟩
  obtain ⟨hf, ht⟩ := hzero h0
  obtain ⟨hlf, hlt⟩ := hlive.2.2 h0
  constructor
  · show handledTrim _ _ live.trimFrozen ticket.trimFrozen = 0
    rw [hf, hlf, handledTrim_zero]
  · show handledTrim _ _ live.trimThawed ticket.trimThawed = 0
    rw [ht, hlt, handledTrim_zero]

/-! ### Tickets at the head (R31) -/

/-- The ticket closed is of a frame below the published ones, where the run leaves those alone. -/
theorem Run.finishHead {w : Prop} (s : State) (e : StagedTicket) (res : Result) (detail : Nat) (fields : List (Nat × List Byte))
    (hs : w → s.framesAreTickets) (he : w → isTicketFrame e.frame) : Run w s (s.finishHead e res detail fields) :=
  have closed : Run w s (s.closeFrame e.frame e.tag res detail fields) := .closeFrame _ _ _ _ _ _ fun k => (he k).2
  closed.trans ((Acts.departHead _).run w fun k => closed.framesAreTickets (hs k))

theorem Acts.finishHead (s : State) {e : StagedTicket} (he : e ∈ s.manifest.staged) (res : Result) (detail : Nat)
    (fields : List (Nat × List Byte)) : Acts s (s.finishHead e res detail fields) :=
  ⟨fun _ hw => .finishHead s e res detail fields hw fun k => (hw k).2.1 e he⟩

/-- The ticket closed was staged before the run. -/
theorem Acts.thenFinish {s t : State} (h : Acts s t) {e : StagedTicket} (he : e ∈ s.manifest.staged) (res : Result) (detail : Nat)
    (fields : List (Nat × List Byte)) : Acts s (t.finishHead e res detail fields) :=
  h.bind fun _ hs ht => .finishHead t e res detail fields ht fun k => (hs k).2.1 e he

theorem rowCheck_index {k : Nat} {x : SpeciesRow} (h : rowCheck k x = none) : k < 32 := by
  unfold rowCheck at h
  split_ifs at h
  omega

/-- A SPECIES ticket, whose row is rewritten in the species image. -/
theorem run_takeSpecies (s : State) (e : StagedTicket) : Run False s (s.takeSpecies e) := by
  unfold State.takeSpecies
  dsimp only
  split
  · exact .finishHead _ _ _ _ _ False.elim False.elim
  · rename_i hcheck
    refine .trans (.tail (Acts.setRow s _ _ fun hs hk => ?_).free (.ram _ _ (Memory.wf_writeBytes _ _) False.elim))
      (.finishHead _ _ _ _ _ False.elim False.elim)
    exact .speciesWrite _ ((trimsBounded_iff s).1 hs _ hk) (.of_rowCheck hcheck)

/-- What passes the checks of R183 with action SET_ROW lies within the row's limit. -/
theorem TrimsOk.of_trimCheck {s : State} {action k : Nat} {frozen thawed : Int} (h : s.trimCheck action k frozen thawed = none)
    (ha : action = 1) : TrimsOk k ((s.row k).withTrims frozen thawed) := by
  unfold State.trimCheck at h
  split_ifs at h with _ _ hwithin hzero
  have hin : withinTrim (s.row k).trimLimit frozen = true ∧ withinTrim (s.row k).trimLimit thawed = true := by
    by_contra hne; exact hwithin ⟨ha, hne⟩
  refine ⟨hin.1, hin.2, fun h0 => ?_⟩
  by_contra hne
  exact hzero ⟨ha, h0, hne⟩

theorem Acts.clearTrims (s : State) : Acts s s.clearTrims :=
  .foldl (fun s k => .setRow s k _ fun _ _ => .of_zero rfl rfl) (List.range 32) s

theorem Acts.takeTrim (s : State) {e : StagedTicket} (he : e ∈ s.manifest.staged) : Acts s (s.takeTrim e) := by
  unfold State.takeTrim
  dsimp only
  split
  · exact .finishHead s he _ _ _
  · rename_i hcheck
    exact .ite (fun hset => .thenFinish (.setRow s _ _ fun _ _ => .of_trimCheck hcheck hset) he _ _ _)
      fun _ => .thenFinish (.clearTrims s) he _ _ _

theorem Acts.returnArm (s : State) (a : ArmId) : Acts s (s.returnArm a) :=
  .ite (fun _ => .refl s) fun _ => .ite
    (fun _ => .trans (.count (.returnToStandby s a)) (.trans (.startPark ..) (.arbitrate _)))
    fun _ => .updArm s a (f := fun c => { c with returnPending := true }) fun _ => ⟨rfl, rfl, rfl⟩

theorem Acts.armAction (s : State) (a : ArmId) (action : Nat) : Acts s (s.armAction a action) :=
  .ite (fun _ => .trans (.count (.putOut s a _)) (.arbitrate _)) fun _ => .returnArm s a

theorem Acts.takeArm (s : State) {e : StagedTicket} (he : e ∈ s.manifest.staged) : Acts s (s.takeArm e) := by
  unfold State.takeArm
  dsimp only
  split
  · exact .finishHead s he _ _ _
  · split
    · exact .finishHead s he _ _ _
    · exact .thenFinish (.armAction s _ _) he _ _ _

theorem Acts.elevateAged (s : State) : Acts s s.elevateAged :=
  .arm (.elevate s _ fun e => by split <;> rfl)

/-- A geometry that passes its checks is put in force (R196). -/
theorem Acts.installGeometry (s : State) {g : Geometry} (hg : g.firstFailed = none) : Acts s (s.installGeometry g) :=
  .trans (.unseen (t := { s with
      geometryValid := true
      feed := { s.feed with edges := if g.encoderResolution = s.geometry.encoderResolution then s.feed.edges else 0 }
      temp := { s.temp with heldLogs := min s.temp.heldLogs g.tempHoldLimit } }) rfl)
    (.trans (.single (.geometry _ g hg)) (.trans (.elevateAged _)
      (.trans (.foldl (fun s a => .arm (.newRelease s a)) allArms _) (.arbitrate _))))

theorem Acts.takeGeometry (s : State) {e : StagedTicket} (he : e ∈ s.manifest.staged) : Acts s (s.takeGeometry e) := by
  refine .ite (fun _ => .finishHead s he _ _ _) fun _ => ?_
  dsimp only
  split
  · exact .finishHead s he _ _ _
  · rename_i hg
    exact .thenFinish (.installGeometry s hg) he _ _ _

/-- A page of a save is begun: the address and the transfer stay, the page is one of the image (R191, R197). -/
theorem Acts.beginPage (s : State) {x y : Save} {k : Nat} (hy : s.cfg.save = some y) (hf : x.frame = y.frame) (hk : s.cfg.legal → k ≤ 34) :
    Acts s (s.beginPage x k) := by
  have frame : ∀ z : Save, (s.beginPage x k).cfg.save = some z → z.frame = y.frame := by
    intro z hz
    have hz : _ = z := Option.some.inj hz
    rw [← hf, ← hz]; dsimp only; split <;> rfl
  refine .single (.cfg s _ (fun _ hs => ?_) fun _ hs z hz => ?_)
  · obtain ⟨haddr, _, htransfer, hframe⟩ := id hs
    refine ⟨haddr, fun p hp => ?_, htransfer, fun z hz => ?_⟩
    · cases hp; exact hk hs
    · rw [frame z hz]; exact hframe y hy
  · rw [frame z hz]; exact hs y hy

theorem Acts.startSave (s : State) : Acts s s.startSave := by
  unfold State.startSave
  split
  · rename_i x hx
    exact .ite (fun _ => .beginPage s hx rfl fun _ => by omega) fun _ => .refl s
  · exact .refl s

theorem Acts.takeSave (s : State) {e : StagedTicket} (he : e ∈ s.manifest.staged) : Acts s (s.takeSave e) := by
  unfold State.takeSave
  split
  · exact .finishHead s he _ _ _
  · refine .after (.startSave _) (.after (.departHead _) (.single (.cfg s _ (fun hm hs => ?_) fun hm _ => ?_)))
    · obtain ⟨haddr, _, htransfer, _⟩ := hs
      refine ⟨haddr, ?_, htransfer, ?_⟩
      · rintro p ⟨⟩
      · rintro z ⟨⟩
        exact hm.2.2.2 e he
    · rintro z ⟨⟩
      exact hm.2 e he

/-- The take-up of any ticket but a SPECIES one. -/
theorem Acts.takeUp (s : State) (h : ∀ e rest, s.manifest.staged = e :: rest → e.kind ≠ .species) : Acts s s.takeUp := by
  unfold State.takeUp
  split
  · exact .refl s
  · rename_i e rest hstaged
    have he : e ∈ s.manifest.staged := by rw [hstaged]; exact List.mem_cons_self
    have hkind := h e rest hstaged
    cases hk : e.kind with
    | log => exact .checkHead s
    | sync => exact .finishHead s he _ _ _
    | species => exact absurd hk hkind
    | trim => exact .takeTrim s he
    | arm => exact .takeArm s he
    | geometry => exact .takeGeometry s he
    | save => exact .takeSave s he

/-- The take-up of any ticket, without regard to the published frames. -/
theorem run_takeUp (s : State) : Run False s s.takeUp := by
  by_cases h : ∀ e rest, s.manifest.staged = e :: rest → e.kind ≠ .species
  · exact (Acts.takeUp s h).free
  · push Not at h
    obtain ⟨e, rest, hstaged, hkind⟩ := h
    unfold State.takeUp
    rw [hstaged]
    dsimp only
    rw [hkind]
    exact run_takeSpecies s e

end Sys2Proof.Machine
end

section
/-! PROOF. Every command is a run of elementary acts. -/

namespace Sys2Proof.Machine

/-! ### The commands of the arms and of the arbiter's timers -/

theorem Acts.settledReport (s : State) (a : ArmId) : Acts s (s.settledReport a) := by
  unfold State.settledReport
  split
  · rename_i q granted timeout hflow
    refine .after (.arbitrate _) (.after ?_ (.arm (.complete s a q granted timeout hflow)))
    exact .ite (fun _ => .after (.startPark ..) (.arm (.toStandby _ a))) fun _ => .refl _
  · exact .refl s

theorem Acts.moveExpired (s : State) (a : ArmId) : Acts s (s.moveExpired a) := by
  unfold State.moveExpired
  split
  · exact .after (.arbitrate _) (.after (.raise _ _) (.after (.count (.putOut _ a _)) (.reachTime s _)))
  · exact .refl s

theorem Acts.judgeElevation (s : State) (a : ArmId) : Acts s (s.judgeElevation a) :=
  .arm (.elevate s _ fun e => by split <;> rfl)

theorem Acts.elevate (s : State) (a : ArmId) : Acts s (s.elevate a) := by
  unfold State.elevate
  split
  · exact .after (.arbitrate _) (.after (.judgeElevation _ a) (.reachTime s _))
  · exact .refl s

theorem Acts.protectionExpired (s : State) (r : RotorId) : Acts s (s.protectionExpired r) := by
  unfold State.protectionExpired
  split
  · exact .after (.arbitrate _) (.unseen (by cases r <;> rfl))
  · exact .refl s

theorem Acts.parkExpired (s : State) (r : RotorId) : Acts s (s.parkExpired r) := by
  unfold State.parkExpired
  split
  · exact .after (.foldl (fun s a => .arm (.park s a)) _ _) (.after (.stopPark _ r) (.reachTime s _))
  · exact .refl s

theorem Acts.presenceLost (s : State) (a : ArmId) : Acts s (s.presenceLost a) := by
  have absent : Acts s (s.updArm a fun c => { c with present := false }) := .updArm s a fun _ => ⟨rfl, rfl, rfl⟩
  have fault : Acts s (((s.updArm a fun c => { c with present := false }).putOut a .presenceLost).raise .arm).arbitrate :=
    .after (.arbitrate _) (.after (.raise _ _) (.after (.count (.putOut _ a _)) absent))
  refine .ite (fun _ => ?_) fun _ => .refl s
  dsimp only
  split
  · exact .after (.arbitrate _) (.after (.count (.putOut _ a _)) absent)
  · exact fault
  · exact fault
  · exact fault

theorem Acts.presenceBack (s : State) (a : ArmId) : Acts s (s.presenceBack a) := by
  have present : Acts s (s.updArm a fun c => { c with present := true }) := .updArm s a fun _ => ⟨rfl, rfl, rfl⟩
  refine .ite (fun _ => .refl s) fun _ => .after ?_ present
  exact .ite (fun _ => .after (.raise _ _) (.updArm (f := fun c => { c with inserted := true }) _ a fun _ => ⟨rfl, rfl, rfl⟩))
    fun _ => .refl _

/-! ### The configuration memory -/

theorem portWord_idem (w : Word) : portWord (portWord w) = portWord w := by
  unfold portWord
  rw [BitVec.and_assoc, BitVec.and_self]

theorem portWord_withFlag {w : Word} (b : Bool) (h : portWord w = w) : portWord (withFlag w b) = withFlag w b := by
  unfold portWord at *
  cases b with
  | true =>
    show (w ||| 0x8000#16) &&& 0x9FFC#16 = w ||| 0x8000#16
    rw [BitVec.and_or_distrib_right, h]
    rfl
  | false =>
    show (w &&& 0x7FFF#16) &&& 0x9FFC#16 = w &&& 0x7FFF#16
    rw [BitVec.and_assoc, BitVec.and_comm 0x7FFF#16, ← BitVec.and_assoc, h]

theorem portAddress_le (w : Word) : portAddress w ≤ 0x1FFC := by
  unfold portAddress
  rw [BitVec.toNat_and]
  exact Nat.and_le_right

theorem Acts.endTransfer (s : State) (x : Transfer) (lo hi : Word) (fault : Bool) : Acts s (s.endTransfer x lo hi fault) := by
  refine .after (.startSave _) (.single (.cfg s _ (fun _ hs => ?_) fun _ hs => hs))
  obtain ⟨haddr, hpage, _, hframe⟩ := hs
  exact ⟨portWord_withFlag _ haddr, hpage, (fun y hy => nomatch hy), hframe⟩

theorem Acts.sendAll (s : State) (worn : List (Nat × Byte)) (cs : List MemoryCommand) : Acts s (s.sendAll worn cs) :=
  .single (.eeprom s _ fun h => sendAll_wf (s := s) worn cs h)

theorem Acts.interruptWrite (s : State) (address : Nat) (new : List Byte) : Acts s (s.interruptWrite address new) :=
  .after (.unseen (s := { s with eeprom := _ }) rfl) (.single (.eeprom s _ (Memory.wf_writeBytes _ _)))

theorem Acts.transferAnswered (s : State) : Acts s s.transferAnswered := by
  unfold State.transferAnswered
  split
  · exact .after (.endTransfer ..) (.sendAll s _ _)
  · exact .refl s

theorem Acts.transferExpired (s : State) : Acts s s.transferExpired := by
  unfold State.transferExpired
  split
  · exact .after (.endTransfer ..) (.after (.ite (fun _ => .interruptWrite ..) fun _ => .refl _) (.reachTime s _))
  · exact .refl s

theorem Acts.closeSave (s : State) {x : Save} (hx : s.cfg.save = some x) (res : Result) (detail : Nat)
    (fields : List (Nat × List Byte)) : Acts s (s.closeSave x res detail fields) := by
  refine .after (.raise _ _) (.after (.single (.cfg _ _ (fun _ hs => ?_) fun _ _ y hy => nomatch hy))
    (.closeFrame s x.frame x.tag res detail fields fun h => (h.2.2.2 x hx).2))
  obtain ⟨haddr, _, htransfer, _⟩ := hs
  exact ⟨haddr, (fun p hp => nomatch hp), htransfer, fun y hy => nomatch hy⟩

theorem Acts.nextPage (s : State) {x : Save} {p : SavePage} (hx : s.cfg.save = some x) (hp : x.page = some p) :
    Acts s (s.nextPage x p.index) := by
  refine .ite (fun _ => .closeSave s hx _ _ _) fun _ => .ite (fun _ => .beginPage s hx rfl fun _ => by omega) fun hlast => ?_
  refine .beginPage s hx rfl fun hs => ?_
  have hle := hs.2.1 p (by rw [hx]; exact hp)
  omega

theorem Acts.pageAnswered (s : State) (worn : List (Nat × Byte)) : Acts s (s.pageAnswered worn) := by
  unfold State.pageAnswered
  split
  · rename_i x hx
    split
    · rename_i p hp
      refine .after (.ite (fun _ => .nextPage _ ?_ hp) fun _ => .closeSave _ ?_ _ _ _) (.sendAll s worn p.commands)
      · exact hx
      · exact hx
    · exact .refl s
  · exact .refl s

theorem Acts.pageExpired (s : State) : Acts s s.pageExpired := by
  unfold State.pageExpired
  split
  · rename_i x hx
    split
    · refine .after (.closeSave _ ?_ _ _ _) (.after (.interruptWrite ..) (.reachTime s _))
      exact hx
    · exact .refl s
  · exact .refl s

/-! ### The preload (R193, R194) -/

/-- The preload is GOOD only with a stored geometry that passes its checks. -/
theorem storedGeometry_of_good {s : State} (h : s.preloadResult.1 = .good) : s.storedGeometry.firstFailed = none := by
  unfold State.preloadResult at h
  dsimp only at h
  split_ifs at h
  cases hf : s.storedGeometry.firstFailed with
  | none => rfl
  | some k => rw [hf] at h; exact nomatch h

theorem TrimsOk.installedRow (k : Nat) (x : SpeciesRow) : TrimsOk k (installedRow k x) := by
  unfold Machine.installedRow
  by_cases hk : k = 0
  · subst hk
    rw [if_pos rfl]
    by_cases hok : (rowCheck 0 x).isNone = true
    · rw [if_pos hok]
      have hx := TrimsOk.of_rowCheck (Option.isNone_iff_eq_none.1 hok)
      exact hx
    · rw [if_neg hok]; exact .of_zero rfl rfl
  · rw [if_neg hk]
    by_cases hok : (rowCheck k x).isNone = true
    · rw [if_pos hok]; exact .of_rowCheck (Option.isNone_iff_eq_none.1 hok)
    · rw [if_neg hok]; exact .of_zero rfl rfl

theorem Acts.installRows (s : State) : Acts s s.installRows :=
  .foldl (fun u k => .setRow u k (installedRow k (s.storedRow k)) fun _ _ => .installedRow k _) (List.range 32) s

/-- The rows of the reset have no trim (R110). -/
theorem trims_speciesReset (s : State) : { s with species := speciesReset }.trimsBounded := by
  rw [trimsBounded_iff]
  intro k hk
  have hrow : ({ s with species := speciesReset } : State).row k = if 0 = k then .guard else .empty := by
    unfold State.row
    rw [dif_pos hk]
    show (speciesReset)[k] = _
    unfold speciesReset
    rw [Vector.getElem_set]
    split
    · rfl
    · exact Vector.getElem_replicate ..
  rw [hrow]
  by_cases h0 : 0 = k
  · rw [if_pos h0]; exact .of_zero rfl rfl
  · rw [if_neg h0]; exact .of_zero rfl rfl

theorem firstFailed_default : Geometry.default.firstFailed = none := by decide

theorem Acts.installTables (s : State) (result : Preload) (h : result = .good → s.storedGeometry.firstFailed = none) :
    Acts s (s.installTables result) := by
  refine .ite (fun hgood => .after (.installRows _) (.installGeometry s (h hgood))) fun _ => ?_
  exact .after (.single (.species { s with geometry := .default, geometryValid := false, arbiter := _ } _
    fun _ => trims_speciesReset _)) (.after (.single (.geometry { s with geometryValid := false } _ firstFailed_default))
    (.unseen rfl))

theorem Acts.startScanTimer (s : State) : Acts s s.startScanTimer := .single (.manifest s _ id id)

theorem Acts.endPreload (s : State) (result : Preload) (detail : Nat)
    (h : result = .good → s.storedGeometry.firstFailed = none) : Acts s (s.endPreload result detail) :=
  .after (.startScanTimer _) (.after (.requestScan _) (.after (.raise _ _) (.after (.installTables _ result h)
    (.single (.cfg s { s.cfg with preload := result, preloadDetail := detail } (fun _ hs => hs) fun _ hs => hs)))))

theorem Acts.preloadUnanswered (s : State) : Acts s s.preloadUnanswered :=
  .ite (fun _ => .after (.endPreload _ _ _ fun h => nomatch h) (.reachTime s _)) fun _ => .refl s

theorem Acts.preloadRead (s : State) : Acts s s.preloadRead :=
  .ite (fun _ => .endPreload s _ _ storedGeometry_of_good) fun _ => .refl s

/-! ### The feed, the reader, modes and the host's writes -/

theorem Acts.setFeedRun (s : State) (b : Bool) : Acts s (s.setFeedRun b) := .unseen rfl

theorem Acts.feedRunLost (s : State) : Acts s s.feedRunLost := by
  unfold State.feedRunLost
  dsimp only
  split
  · exact .after (.beginStandstill _) (.unseen rfl)
  · exact .unseen rfl

theorem Acts.stallExpired (s : State) : Acts s s.stallExpired := by
  unfold State.stallExpired
  split
  · exact .after (.beginStandstill _) (.reachTime s _)
  · exact .refl s

theorem Acts.scanTimerExpired (s : State) : Acts s s.scanTimerExpired := by
  unfold State.scanTimerExpired
  split
  · exact .after (.requestScan _) (.after (.single (.manifest (s.reachTime _) _ id id)) (.reachTime s _))
  · exact .refl s

theorem Acts.scanStep (s : State) : Acts s s.scanStep := .ite (fun _ => .scanOnce s) fun _ => .refl s

theorem reloadOf_bounds (w : Word) : 1 ≤ reloadOf w ∧ reloadOf w ≤ 255 := by
  have hbyte := (lowByte w).isLt
  unfold reloadOf
  omega

theorem Acts.writeReload (s : State) (w : Word) : Acts s (s.writeReload w) := by
  have set : Acts s { s with manifest := { s.manifest with scanReload := reloadOf w } } :=
    .single (.manifest s _ (fun ⟨hlen, hcursor, _, hframes⟩ => ⟨hlen, hcursor, reloadOf_bounds w, hframes⟩) id)
  unfold State.writeReload
  dsimp only
  split
  · exact .after (.startScanTimer _) set
  · exact set

/-- The host's write into the manifest RAM, which may change the published frames. -/
theorem run_storeWord (s : State) (address w : Word) : Run False s (s.storeWord address w) :=
  .tail (.refl s) (.ram s _ (Memory.wf_writeBytes _ _) False.elim)

theorem Acts.enterMode (s : State) (m : Mode) : Acts s (s.enterMode m) := by
  have enter : Acts s (s.withMode m) :=
    .after (.unseen rfl) (.hold (.mode s m))
  have standby : Acts s (if s.mode = .hold then (s.withMode m).standbyAll.rebase else (s.withMode m).standbyAll).arbitrate :=
    .after (.arbitrate _) (.ite (fun _ => .after (.feed _ _) (.trans enter (.standbyAll _)))
      fun _ => .trans enter (.standbyAll _))
  cases m with
  | run => exact enter
  | hold => exact enter
  | config => exact standby
  | service => exact standby

theorem Acts.requestMode (s : State) (m : Mode) : Acts s (s.requestMode m) :=
  .ite (fun _ => .unseen rfl) fun _ => .ite (fun _ => .enterMode s m) fun _ => .after (.raise _ _) (.unseen rfl)

theorem Acts.trackClear (s : State) : Acts s s.trackClear :=
  .ite (fun _ => .after (.arbitrate _) (.after (.standbyAll _) (.hold (.latch s false)))) fun _ => .refl s

theorem within_and {mask w : Word} (v : Word) (h : within mask w) : within mask (w &&& v) := by
  unfold within at *
  rw [BitVec.and_assoc, BitVec.and_comm v, ← BitVec.and_assoc, h]

theorem Acts.clearCauses (s : State) (w : Word) : Acts s (s.clearCauses w) :=
  .single (.registers s _ _ _ (within_and _) id id)

theorem Acts.writeEnable (s : State) (w : Word) : Acts s (s.writeEnable w) :=
  .single (.registers s _ _ _ id (fun _ => by unfold within; rw [BitVec.and_assoc, BitVec.and_self]) id)

theorem Acts.clearResetFlags (s : State) (w : Word) : Acts s (s.clearResetFlags w) :=
  .single (.registers s _ _ _ id id (within_and _))

theorem Acts.writePort (s : State) (w : Word) : Acts s (s.writePort w) := by
  refine .ite (fun _ => .refl s) fun _ => .single (.cfg s _ (fun _ hs => ?_) fun _ hs => hs)
  obtain ⟨_, hpage, _, hframe⟩ := hs
  refine ⟨portWord_idem w, hpage, fun y hy => ?_, hframe⟩
  cases hy
  exact portAddress_le w

/-! ### Resets (R190) -/

theorem Acts.abandonWrites (s : State) : Acts s s.abandonWrites := by
  have transfer : ∀ u : State, Acts u (match u.cfg.transfer with
      | some x => if x.write then u.interruptWrite x.address x.bytes else u
      | none => u) := by
    intro u
    split
    · exact .ite (fun _ => .interruptWrite ..) fun _ => .refl u
    · exact .refl u
  unfold State.abandonWrites
  cases s.cfg.save.bind Save.page with
  | none => exact transfer s
  | some p => exact .after (transfer _) (.interruptWrite s _ _)

theorem within_resetFlags (k : ResetKind) {w : Word} (h : within resetCauseMask w) : within resetCauseMask (resetFlags w k) := by
  unfold within at *
  cases k with
  | power =>
    show oneBit 0 &&& resetCauseMask = oneBit 0
    decide
  | pin =>
    show (w ||| _) &&& _ = _
    rw [BitVec.and_or_distrib_right, h]; rfl
  | soft =>
    show (w ||| _) &&& _ = _
    rw [BitVec.and_or_distrib_right, h]; rfl

theorem Acts.startReset (s : State) (k : ResetKind) : Acts s (s.startReset k) :=
  .after (.single (.registers { s.abandonWrites.resetBlocks s.abandonWrites.pins.levels with resetHeld := some k } _ _ _ id id
    (within_resetFlags k))) (.after (.unseen rfl) (.after (.single (.reset _ s.abandonWrites.pins.levels)) (.abandonWrites s)))

/-- A POWER reset, after which the manifest RAM is undefined. -/
theorem run_powerUp (s : State) : Run False s s.powerUp :=
  have emptied : Run False s { s.startReset .power with ram := [] } :=
    .tail (Acts.startReset s .power).free (.ram _ [] (fun _ => Memory.wf_nil) False.elim)
  .tail emptied (.unseen rfl)

theorem Acts.endReset (s : State) (x : RawLevels) : Acts s (s.endReset x) :=
  .ite (fun _ => .after (.unseen (s := s.writeAnchor.resetBlocks x) rfl) (.after (.single (.reset _ x))
    (.ite (fun _ => .writeFrame s 0 0 _ (by decide) fun _ => Nat.zero_le _) fun _ => .refl s))) fun _ => .refl s

theorem Acts.writeControl (s : State) (w : Word) : Acts s (s.writeControl w) := by
  have mode : Acts s (s.controlMode w) := by
    unfold State.controlMode
    split
    · exact .requestMode s _
    · exact .refl s
  refine .ite (fun _ => .startReset s .soft) fun _ => ?_
  exact .after (.ite (fun _ => .trackClear _) fun _ => .refl _)
    (.after (.ite (fun _ => .requestScan _) fun _ => .refl _) mode)

theorem Acts.writeRegister (s : State) (offset w : Word) : Acts s (s.writeRegister offset w) :=
  .ite (fun _ => .writeControl s w) fun _ => .ite (fun _ => .clearCauses s w) fun _ =>
    .ite (fun _ => .writeEnable s w) fun _ => .ite (fun _ => .writeReload s w) fun _ =>
    .ite (fun _ => .clearResetFlags s w) fun _ => .ite (fun _ => .writePort s w) fun _ =>
    .ite (fun _ => .single (.cfg s { s.cfg with dataLo := w } (fun _ hs => hs) fun _ hs => hs)) fun _ =>
    .ite (fun _ => .single (.cfg s { s.cfg with dataHi := w } (fun _ hs => hs) fun _ hs => hs)) fun _ => .refl s

/-! ### The impact monitors (chapter 8) -/

/-- A monitor of an arm changes within its bound. -/
theorem Acts.monitor (s : State) (a : ArmId) (m : Monitor) (h : (s.arm a).monitor.bounded → m.bounded) :
    Acts s (s.updArm a fun c => { c with monitor := m }) :=
  .arm (.minor s a { s.arm a with monitor := m } rfl rfl h)

theorem Acts.setRelief (s : State) (a : ArmId) : Acts s (s.setRelief a) := by
  have relief : Acts s (s.updArm a fun c => { c with relief := true }) := .updArm s a fun _ => ⟨rfl, rfl, rfl⟩
  unfold State.setRelief
  dsimp only
  split
  · exact .after (.arbitrate _) (.after (.arm (.recompute ..)) (.after (.updView ..) relief))
  · exact .after (.arbitrate _) (.after (.arm (.recompute ..)) relief)

theorem Monitor.bounded_count {m : Monitor} {p : MonitorParams} (hp : m.params = some p) (now : Nat) (h : m.bounded) :
    (m.count p now).bounded := by
  intro x hx
  have hxp : p = x := Option.some.inj (hp.symm.trans hx)
  have hle := h p hp
  subst hxp
  show (if m.counter < p.maxDepth then m.counter + 1 else m.counter) ≤ p.maxDepth
  split <;> omega

theorem Monitor.bounded_decayed {m : Monitor} (p : MonitorParams) (now : Nat) (h : m.bounded) : (m.decayed p now).bounded :=
  fun x hx => Nat.le_trans (Nat.sub_le _ _) (h x hx)

theorem Acts.impactPulse (s : State) (a : ArmId) : Acts s (s.impactPulse a) := by
  refine .ite (fun _ => ?_) fun _ => .refl s
  split
  · rename_i p hp
    exact .after (.ite (fun _ => .setRelief _ a) fun _ => .refl _)
      (.monitor s a ((s.arm a).monitor.count p s.now) (Monitor.bounded_count hp s.now))
  · exact .refl s

theorem Acts.burstClosed (s : State) (a : ArmId) : Acts s (s.burstClosed a) := by
  unfold State.burstClosed
  split
  · exact .after (.monitor (s.reachTime _) a { ((s.reachTime _).arm a).monitor with burst := none } id) (.reachTime s _)
  · exact .refl s

theorem Acts.clearRelief (s : State) (a : ArmId) : Acts s (s.clearRelief a) :=
  .after (.arbitrate _) (.after (.arm (.recompute ..))
    (.updArm s a (f := fun c => { c with relief := false }) fun _ => ⟨rfl, rfl, rfl⟩))

theorem Acts.decayExpired (s : State) (a : ArmId) : Acts s (s.decayExpired a) := by
  unfold State.decayExpired
  split
  · rename_i t p _ hp
    exact .after (.ite (fun _ => .clearRelief _ a) fun _ => .refl _) (.after
      (.monitor (s.reachTime t) a (((s.reachTime t).arm a).monitor.decayed p (s.reachTime t).now) (Monitor.bounded_decayed p _))
      (.reachTime s t))
  · exact .refl s

/-! ### The quality port (chapter 10) -/

theorem Acts.hunt (s : State) : Acts s s.hunt :=
  .single (.quality s _ fun _ => ⟨Nat.zero_le _, by constructor <;> intro h <;> simp at h⟩)

theorem Acts.discard (s : State) (why : Discard) : Acts s (s.discard why) :=
  .after (.raise _ _) (.after
    (.single (.quality { s with counters := { s.counters with discarded := s.counters.discarded + 1 } } _ id)) (.counters s _))

theorem TrimsOk.setTrim {k : Nat} {x : SpeciesRow} (hx : TrimsOk k x) (hk : k ≠ 0) (c : TempClass) (v : Int) :
    TrimsOk k (x.setTrim c (clampTrim x.trimLimit v)) := by
  cases c with
  | frozen => exact ⟨withinTrim_clampTrim _ v, hx.2.1, fun h0 => absurd h0 hk⟩
  | thawed => exact ⟨hx.1, withinTrim_clampTrim _ v, fun h0 => absurd h0 hk⟩

theorem rowUsed_of_notSuppressed {q : Record} {live : SpeciesRow} (h : suppression q live = .notSuppressed) : q.rowUsed ≠ 0 := by
  unfold suppression at h
  split_ifs at h <;> assumption

theorem Acts.learn (s : State) (q : Record) (residual : Nat) (gouge : Bool) : Acts s (s.learn q residual gouge).1 := by
  unfold State.learn
  split
  · rename_i c hwhy _
    exact .setRow s _ _ fun hs hk => .setTrim ((trimsBounded_iff s).1 hs _ hk) (rowUsed_of_notSuppressed hwhy) c _
  · exact .refl s

theorem queue_learn (s : State) (q : Record) (residual : Nat) (gouge : Bool) : (s.learn q residual gouge).1.queue = s.queue := by
  unfold State.learn
  split
  · exact State.queue_setRow ..
  · rfl

theorem Acts.closeByReport (s : State) {q : Record} (hq : q ∈ s.queue) (residual : Nat) (gouge fault : Bool) :
    Acts s (s.closeByReport q residual gouge fault) := by
  refine .ite (fun _ => .closeRecord s hq _ _) fun _ => ?_
  cases q.kind with
  | log => exact .after (.closeRecord _ (by rw [queue_learn]; exact hq) _ _) (.learn s q residual gouge)
  | orphan => exact .closeRecord s hq _ _
  | stub => exact .closeRecord s hq _ _

theorem Acts.takeReport (s : State) (residual : Nat) (gouge fault : Bool) : Acts s (s.takeReport residual gouge fault) := by
  unfold State.takeReport
  split
  · rename_i q hq
    refine .after (.closeByReport _ ?_ _ _ _) (.single (.quality s _ id))
    exact List.mem_of_find?_eq_some hq
  · exact .after (.discard ..) (.single (.quality s _ id))

theorem Acts.judgeReport (s : State) (marker residual flags check : Byte) : Acts s (s.judgeReport marker residual flags check) :=
  .ite (fun _ => .discard ..) fun _ => .ite (fun _ => .discard ..) fun _ => .takeReport ..

theorem Acts.appendByte (s : State) (b : Byte) : Acts s (s.appendByte b) := by
  unfold State.appendByte
  split
  · exact .after (.judgeReport ..) (.hunt s)
  · rename_i hnot
    refine .single (.quality s _ fun hs => ⟨?_, ?_⟩)
    · have hle := hs.1
      show (s.quality.buffer ++ [b]).length ≤ 3
      rw [List.length_append, List.length_singleton]
      by_contra hlong
      have hthree : s.quality.buffer.length = 3 := by omega
      obtain ⟨x, y, z, hxyz⟩ := List.length_eq_three.1 hthree
      exact hnot x y z hxyz
    · simp

theorem Acts.takeByte (s : State) (b : Byte) (framingError : Bool) : Acts s (s.takeByte b framingError) := by
  unfold State.takeByte
  split
  · exact .ite (fun _ => .single (.quality s _ fun _ => ⟨by simp, by simp⟩)) fun _ => .refl s
  · exact .ite (fun _ => .after (.discard ..) (.hunt s)) fun _ => .appendByte s b

theorem Acts.gapExpired (s : State) : Acts s s.gapExpired := by
  unfold State.gapExpired
  split
  · exact .after (.discard ..) (.after (.hunt _) (.reachTime s _))
  · exact .refl s

/-! ### The sensors and the drives (chapter 9) -/

theorem Acts.sampleTemperature (s : State) (microAmp : Nat) : Acts s (s.sampleTemperature microAmp) := .unseen rfl

theorem Acts.changeLevel (s : State) (new : SupplyLevel) : Acts s (s.changeLevel new) :=
  .after (.arbitrate _) (.after (.raise _ _) (.hold (.level s new)))

theorem Acts.sampleSupply (s : State) (microAmp : Nat) : Acts s (s.sampleSupply microAmp) := by
  by_cases h : s.judgedLevel microAmp = s.supply.level
  · rw [sampleSupply_of_levelKept h]
    exact .unseen rfl
  · rw [sampleSupply_of_levelChanged h]
    exact .after (.changeLevel ..) (.unseen rfl)

theorem Acts.setAtSpeed (s : State) (r : RotorId) (b : Bool) : Acts s (s.setAtSpeed r b) := by cases r <;> exact .unseen rfl

theorem drive_setAtSpeed (s : State) (r u : RotorId) (b : Bool) : ((s.setAtSpeed r b).rotor u) = s.rotor u := by
  cases r <;> cases u <;> rfl

/-- A rotor that keeps its drive changes its timers and its at-speed input. -/
theorem Acts.updRotor (s : State) (r : RotorId) {f : Rotor → Rotor} (h : ∀ x, (f x).drive = x.drive) :
    Acts s (s.updRotor r f) := by
  refine .unseen ?_
  cases r with
  | r1 =>
    show unseenFrom s { s with rotor1 := f s.rotor1 } = s
    unfold unseenFrom
    rw [h]
  | r2 =>
    show unseenFrom s { s with rotor2 := f s.rotor2 } = s
    unfold unseenFrom
    rw [h]

theorem Acts.speedReached (s : State) (r : RotorId) : Acts s (s.speedReached r) := by
  unfold State.speedReached
  dsimp only
  split
  · rename_i hdown
    exact .after (.hold (.spin _ r _ (by rw [hdown]; decide) (fun h => nomatch h))) (.setAtSpeed s r true)
  · exact .after (.updRotor _ r fun _ => rfl) (.setAtSpeed s r true)
  · exact .after (.updRotor _ r fun _ => rfl) (.setAtSpeed s r true)

theorem Acts.speedLost (s : State) (r : RotorId) : Acts s (s.speedLost r) := by
  unfold State.speedLost
  dsimp only
  split
  · rename_i h
    exact .after (.hold (.spin _ r _ (by rw [drive_setAtSpeed, h]; decide) (fun h => nomatch h))) (.setAtSpeed s r false)
  · rename_i h
    exact .after (.raise _ _) (.after (.hold (.spin _ r _ (by rw [drive_setAtSpeed, h]; decide) (fun h => nomatch h)))
      (.setAtSpeed s r false))
  · exact .after (.arbitrate _) (.after (.raise _ _) (.after (.hold (.down _ r _ (fun h => nomatch h))) (.setAtSpeed s r false)))

theorem Acts.settleExpired (s : State) (r : RotorId) : Acts s (s.settleExpired r) := by
  unfold State.settleExpired
  split
  · exact .after (.arbitrate _) (.after (.hold (.ready _ r { (s.reachTime _).rotor r with drive := .ready, settle := none } rfl))
      (.reachTime s _))
  · exact .refl s

/-! ### Publication, and every command -/

/-- What is published, without regard to the published frames. -/
theorem run_publish (old new : State) : Run False new (publish old new) := by
  obtain ⟨m, hpublished, _⟩ := publish_ram old new
  rw [hpublished]
  refine .tail (.refl new) (.ram new m (fun hwf => ?_) False.elim)
  have h := publish_wf (old := old) hwf
  rw [hpublished] at h
  exact h

/-- A command answers the published form of what a run of elementary acts gives, or, where a part that runs is then as before or publishes
no more, just what the run gives. -/
inductive ActsTo (s : State) : Host.Outcome State Fault Refusal → Prop
  | published {u : State} : Acts s u → ActsTo s (.next (publish s u))
  | bare {u : State} : Acts s u → (s.resetHeld = none → u = s ∨ u.publishes = false) → ActsTo s (.next u)

theorem ActsTo.run {s : State} {o : Host.Outcome State Fault Refusal} (h : ActsTo s o) {t : State} (ht : o = .next t) :
    Run False s t := by
  cases h with
  | published k =>
    cases ht
    exact k.free.trans (run_publish s _)
  | bare k _ =>
    cases ht
    exact k.free

/-- A command that acts on a running part is the run of its act, and of what is published. -/
theorem ActsTo.act {s : State} {f : State → State} (h : Acts s (f s)) : ActsTo s (act s f) := by
  unfold Machine.act
  split
  · exact .bare (.refl s) fun _ => .inl rfl
  · exact .published h

theorem ActsTo.actOrPin {s : State} {pin f : State → State} (hpin : Acts s (pin s)) (h : Acts s (f s)) :
    ActsTo s (actOrPin s pin f) := by
  unfold Machine.actOrPin
  split
  · rename_i hheld
    exact .bare hpin fun k => by rw [k] at hheld; exact nomatch hheld
  · exact .published h

/-- The commands that may change the published frames by more than publication: those that write the manifest RAM, and the take-up of a
SPECIES ticket, whose row the Setpoint Unit writes itself. -/
def touchesImage (c : Instr) (s : State) : Prop :=
  (∃ address w, c = .manifestRamWrite address w) ∨ c = .powerReset
    ∨ c = .ticketTakeUp ∧ ∃ e rest, s.manifest.staged = e :: rest ∧ e.kind = .species

/-- Every other command is a run of elementary acts. -/
theorem actsTo_exec (c : Instr) (s : State) (hc : ¬ touchesImage c s) : ActsTo s (exec c s) := by
  cases c with
  | encoderEdge edge infeed outfeed =>
    exact ActsTo.act (s := s) (f := fun s => (s.seeEyes infeed outfeed).takeEdge edge)
      (.after (.takeEdge (s.seeEyes infeed outfeed) edge) (.unseen rfl))
  | feedRunInactive =>
    exact .actOrPin (pin := fun s => s.setFeedRun false) (f := State.feedRunLost) (.setFeedRun s false) (.feedRunLost s)
  | feedRunActive =>
    exact .actOrPin (pin := fun s => s.setFeedRun true) (f := fun s => s.setFeedRun true) (.setFeedRun s true) (.setFeedRun s true)
  | stallWindowExpiry => exact ActsTo.act (s := s) (f := State.stallExpired) (.stallExpired s)
  | scanTimerExpiry => exact ActsTo.act (s := s) (f := State.scanTimerExpired) (.scanTimerExpired s)
  | scanStep => exact ActsTo.act (s := s) (f := State.scanStep) (.scanStep s)
  | ticketTakeUp => exact ActsTo.act (s := s) (f := State.takeUp) (.takeUp s fun e rest hstaged hkind =>
      hc (.inr (.inr ⟨rfl, e, rest, hstaged, hkind⟩)))
  | temperatureSample microAmp =>
    exact ActsTo.act (s := s) (f := fun s => s.sampleTemperature microAmp)
      (.sampleTemperature s microAmp)
  | supplySample microAmp => exact ActsTo.act (s := s) (f := fun s => s.sampleSupply microAmp) (.sampleSupply s microAmp)
  | atSpeedActive r =>
    exact ActsTo.act (s := s) (f := fun s => if (s.rotor r).atSpeed then s else s.speedReached r)
      (.ite (fun _ => .refl s) fun _ => .speedReached s r)
  | atSpeedInactive r =>
    exact ActsTo.act (s := s) (f := fun s => if (s.rotor r).atSpeed then s.speedLost r else s)
      (.ite (fun _ => .speedLost s r) fun _ => .refl s)
  | settleTimerExpiry r => exact ActsTo.act (s := s) (f := fun s => s.settleExpired r) (.settleExpired s r)
  | moveComplete a => exact ActsTo.act (s := s) (f := fun s => s.settledReport a) (.settledReport s a)
  | moveTimeout a => exact ActsTo.act (s := s) (f := fun s => s.moveExpired a) (.moveExpired s a)
  | fairnessElevation a => exact ActsTo.act (s := s) (f := fun s => s.elevate a) (.elevate s a)
  | protectionTimerExpiry r => exact ActsTo.act (s := s) (f := fun s => s.protectionExpired r) (.protectionExpired s r)
  | parkTimerExpiry r => exact ActsTo.act (s := s) (f := fun s => s.parkExpired r) (.parkExpired s r)
  | presenceLoss a => exact ActsTo.act (s := s) (f := fun s => s.presenceLost a) (.presenceLost s a)
  | presenceRestored a => exact ActsTo.act (s := s) (f := fun s => s.presenceBack a) (.presenceBack s a)
  | impactPulse a => exact ActsTo.act (s := s) (f := fun s => s.impactPulse a) (.impactPulse s a)
  | burstWindowClose a => exact ActsTo.act (s := s) (f := fun s => s.burstClosed a) (.burstClosed s a)
  | decayExpiry a => exact ActsTo.act (s := s) (f := fun s => s.decayExpired a) (.decayExpired s a)
  | qualityByte b framingError =>
    exact ActsTo.act (s := s) (f := fun s => s.takeByte b framingError)
      (.takeByte s b framingError)
  | gapTimerExpiry => exact ActsTo.act (s := s) (f := State.gapExpired) (.gapExpired s)
  | modeRequestConfig => exact ActsTo.act (s := s) (f := fun s => s.requestMode .config) (.requestMode s .config)
  | modeRequestRun => exact ActsTo.act (s := s) (f := fun s => s.requestMode .run) (.requestMode s .run)
  | modeRequestHold => exact ActsTo.act (s := s) (f := fun s => s.requestMode .hold) (.requestMode s .hold)
  | modeRequestService => exact ActsTo.act (s := s) (f := fun s => s.requestMode .service) (.requestMode s .service)
  | scan => exact ActsTo.act (s := s) (f := State.requestScan) (.requestScan s)
  | trackClear => exact ActsTo.act (s := s) (f := State.trackClear) (.trackClear s)
  | softReset => exact ActsTo.act (s := s) (f := State.softReset) (.startReset s .soft)
  | causeWrite w => exact ActsTo.act (s := s) (f := fun s => s.clearCauses w) (.clearCauses s w)
  | enableWrite w => exact ActsTo.act (s := s) (f := fun s => s.writeEnable w) (.writeEnable s w)
  | scanReloadWrite w => exact ActsTo.act (s := s) (f := fun s => s.writeReload w) (.writeReload s w)
  | resetCauseWrite w => exact ActsTo.act (s := s) (f := fun s => s.clearResetFlags w) (.clearResetFlags s w)
  | cfgAddrWrite w => exact ActsTo.act (s := s) (f := fun s => s.writePort w) (.writePort s w)
  | registerWrite offset w => exact ActsTo.act (s := s) (f := fun s => s.writeRegister offset w) (.writeRegister s offset w)
  | accessTransferDone => exact ActsTo.act (s := s) (f := State.transferAnswered) (.transferAnswered s)
  | accessTransferTimeout => exact ActsTo.act (s := s) (f := State.transferExpired) (.transferExpired s)
  | savePageDone worn => exact ActsTo.act (s := s) (f := fun s => s.pageAnswered worn) (.pageAnswered s worn)
  | savePageTimeout => exact ActsTo.act (s := s) (f := State.pageExpired) (.pageExpired s)
  | preloadNoResponse => exact ActsTo.act (s := s) (f := State.preloadUnanswered) (.preloadUnanswered s)
  | preloadEnd => exact ActsTo.act (s := s) (f := State.preloadRead) (.preloadRead s)
  | powerReset => exact absurd (.inr (.inl rfl)) hc
  | pinReset => exact .bare (.startReset s .pin) fun _ => .inr (Bool.and_false _)
  | resetEnd infeed outfeed atSpeed1 atSpeed2 =>
    exact .bare (.endReset s _) fun hrun => .inl (if_neg (by rw [hrun]; nofun))
  | manifestRamWrite address w => exact absurd (.inl ⟨address, w, rfl⟩) hc

/-- Every command is a run of elementary acts, without regard to the published frames. -/
theorem run_exec (c : Instr) {s t : State} (h : exec c s = .next t) : Run False s t := by
  by_cases hc : touchesImage c s
  · obtain ⟨address, w, rfl⟩ | rfl | ⟨rfl, -⟩ := hc
    · cases h; exact run_storeWord s address w
    · cases h; exact run_powerUp s
    · have h : act s State.takeUp = .next t := h
      unfold act at h
      split at h
      · cases h; exact .refl s
      · cases h; exact (run_takeUp s).trans (run_publish s _)
  · exact (actsTo_exec c s hc).run h

/-- What every elementary act keeps, and does not ask which commands wait, every step keeps. -/
theorem step_keeps {P : State → Prop} (h : ∀ s t, Act False s t → P s → P t) {s t : State} (hs : P s) (ht : step s = .next t)
    (hpending : ∀ u queue, P u → P { u with pending := queue } := by exact fun _ _ k => k) : P t := by
  unfold Machine.step at ht
  split at ht
  · rename_i c rest _
    exact (run_exec _ ht).keeps h (hpending s rest hs)
  · obtain rfl : s.idle = t := by injection ht
    unfold State.idle
    cases s.dueCommand with
    | none => exact h _ _ (.unseen rfl) hs
    | some c => exact hpending s [c] hs

/-- No elementary act touches the commands that wait. -/
theorem Act.pending {w : Prop} {s t : State} (h : Act w s t) : t.pending = s.pending := by
  cases h with
  | unseen k => have kept := congrArg State.pending k; exact kept
  | arm k => exact (DataKept.of_act (.inl k)).pending
  | count k => exact (DataKept.of_act (.inr (.inl k))).pending
  | hold k => exact (DataKept.of_act (.inr (.inr k))).pending
  | queue k => have kept := congrArg State.pending k.frame; exact kept
  | geometry | species | manifest | cfg | quality | registers | ram | eeprom | reset => rfl

/-- Every command answers a next state (log 28). -/
theorem exec_answers (c : Instr) (s : State) : ∃ t, exec c s = .next t := by
  by_cases hc : touchesImage c s
  · obtain ⟨address, w, rfl⟩ | rfl | ⟨rfl, -⟩ := hc
    · exact ⟨_, rfl⟩
    · exact ⟨_, rfl⟩
    · show ∃ t, act s State.takeUp = .next t
      unfold act
      split <;> exact ⟨_, rfl⟩
  · generalize hanswer : exec c s = o
    have h := actsTo_exec c s hc
    rw [hanswer] at h
    cases h with
    | published _ => exact ⟨_, rfl⟩
    | bare _ _ => exact ⟨_, rfl⟩

end Sys2Proof.Machine
end

section
/-! PROOF. The invariants over the two memories and over the species table (R91), for every step. -/

namespace Sys2Proof.Machine

theorem QueueAct.memories {s t : State} (h : QueueAct s t) : t.ram = s.ram ∧ t.eeprom = s.eeprom := by
  have hram := congrArg State.ram h.frame
  have heeprom := congrArg State.eeprom h.frame
  exact ⟨hram, heeprom⟩

theorem State.memoriesCanonical.of_eq {s t : State} (hs : s.memoriesCanonical) (h : t.ram = s.ram ∧ t.eeprom = s.eeprom) :
    t.memoriesCanonical := by
  unfold State.memoriesCanonical
  rw [h.1, h.2]
  exact hs

/-- Only three acts touch a memory, and each keeps its canonical form. -/
theorem Act.keeps_memoriesCanonical {w : Prop} (s t : State) (h : Act w s t) (hs : s.memoriesCanonical) : t.memoriesCanonical := by
  have data : ArmAct s t ∨ CountAct s t ∨ HoldAct s t → t.memoriesCanonical := fun k =>
    hs.of_eq ⟨(DataKept.of_act k).ram, (DataKept.of_act k).eeprom⟩
  cases h with
  | unseen k =>
    have hram := congrArg State.ram k
    have heeprom := congrArg State.eeprom k
    exact hs.of_eq ⟨hram, heeprom⟩
  | arm k => exact data (.inl k)
  | count k => exact data (.inr (.inl k))
  | hold k => exact data (.inr (.inr k))
  | queue k => exact hs.of_eq k.memories
  | ram m hm _ => exact ⟨hm hs.1, hs.2⟩
  | eeprom m hm => exact ⟨hs.1, hm hs.2⟩
  | geometry g _ => exact hs
  | species v _ => exact hs
  | manifest m _ _ => exact hs
  | cfg x _ _ => exact hs
  | quality x _ => exact hs
  | registers c e r _ _ _ => exact hs
  | reset x => exact hs

/-- Settles O54: an elementary act leaves both memories, or writes bytes into one, which keeps its form. -/
theorem everyStepKeepsTheMemoriesCanonical : Obligations.EveryStepKeepsTheMemoriesCanonical :=
  fun _ _ hs ht => step_keeps Act.keeps_memoriesCanonical hs ht

theorem State.trimsBounded.of_species {s t : State} (hs : s.trimsBounded) (h : t.species = s.species) : t.trimsBounded := by
  have hrow : ∀ k, t.row k = s.row k := fun k => by unfold State.row; rw [h]
  rw [trimsBounded_iff] at *
  intro k hk
  rw [hrow]
  exact hs k hk

/-- Rows are written only with cells within their limits; a reset installs rows without trim (R91). -/
theorem Act.keeps_trimsBounded {w : Prop} (s t : State) (h : Act w s t) (hs : s.trimsBounded) : t.trimsBounded := by
  have data : ArmAct s t ∨ CountAct s t ∨ HoldAct s t → t.trimsBounded := fun k => hs.of_species (DataKept.of_act k).species
  cases h with
  | unseen k =>
    have hspecies := congrArg State.species k
    exact hs.of_species hspecies
  | arm k => exact data (.inl k)
  | count k => exact data (.inr (.inl k))
  | hold k => exact data (.inr (.inr k))
  | queue k =>
    have hspecies := congrArg State.species k.frame
    exact hs.of_species hspecies
  | species v hv => exact hv hs
  | ram m _ _ => exact hs
  | eeprom m _ => exact hs
  | geometry g _ => exact hs
  | manifest m _ _ => exact hs
  | cfg x _ _ => exact hs
  | quality x _ => exact hs
  | registers c e r _ _ _ => exact hs
  | reset x => exact (trims_speciesReset s).of_species rfl

end Sys2Proof.Machine
end

section
/-! PROOF. What an act on one arm leaves of the other arms and of the arbiter's lists. -/

namespace Sys2Proof.Machine

/-! ### Acts on one arm -/

/-- The entries of an arm in the wait list. -/
def State.waitOf (s : State) (a : ArmId) : List WaitEntry := s.arbiter.wait.filter fun e => e.arm == a

/-- From `s` to `t` one arm has been acted on: every other arm and its entries stay, and no move but that of the arm leaves the set of
moves in flight. -/
structure OneArm (a : ArmId) (s t : State) : Prop where
  others : ∀ b, b ≠ a → t.arm b = s.arm b
  waits : ∀ b, b ≠ a → t.waitOf b = s.waitOf b
  moves : t.arbiter.inFlight = s.arbiter.inFlight ∨ t.arbiter.inFlight = s.arbiter.inFlight.filter fun b => b != a

theorem OneArm.refl (a : ArmId) (s : State) : OneArm a s s := ⟨fun _ _ => rfl, fun _ _ => rfl, .inl rfl⟩

theorem OneArm.trans {a : ArmId} {s t u : State} (h : OneArm a s t) (k : OneArm a t u) : OneArm a s u where
  others b hb := (k.others b hb).trans (h.others b hb)
  waits b hb := (k.waits b hb).trans (h.waits b hb)
  moves := by
    obtain ht | ht := h.moves <;> obtain hu | hu := k.moves
    · exact .inl (hu.trans ht)
    · exact .inr (by rw [hu, ht])
    · exact .inr (hu.trans ht)
    · exact .inr (by rw [hu, ht, List.filter_filter]; simp only [Bool.and_self])

theorem OneArm.after {a : ArmId} {s t u : State} (k : OneArm a t u) (h : OneArm a s t) : OneArm a s u := h.trans k

theorem OneArm.ite {a : ArmId} {p : Prop} [Decidable p] {s t u : State} (h : OneArm a s t) (k : OneArm a s u) :
    OneArm a s (if p then t else u) := by
  by_cases hp : p
  · rw [if_pos hp]; exact h
  · rw [if_neg hp]; exact k

/-- An act that leaves arms and arbiter alone. -/
theorem OneArm.of_eq {a : ArmId} {s t : State} (harms : t.arms = s.arms) (harbiter : t.arbiter = s.arbiter) : OneArm a s t :=
  ⟨fun b _ => State.arm_congr harms b, fun b _ => by unfold State.waitOf; rw [harbiter], .inl (by rw [harbiter])⟩

theorem OneArm.setArm (s : State) (a : ArmId) (c : Arm) : OneArm a s (s.setArm a c) :=
  ⟨fun b hb => by rw [State.arm_setArm, if_neg (Ne.symm hb)], fun _ _ => rfl, .inl rfl⟩

theorem OneArm.updArm (s : State) (a : ArmId) (f : Arm → Arm) : OneArm a s (s.updArm a f) := .setArm s a _

theorem OneArm.updView (a : ArmId) (s : State) (r : RotorId) (t : Tag) (f : RotorView → RotorView) :
    OneArm a s (s.updView r t f) := .of_eq rfl rfl

theorem OneArm.leaveFlow (s : State) (a : ArmId) : OneArm a s (s.leaveFlow a) where
  others _ _ := rfl
  waits b hb := by
    show (s.arbiter.wait.filter fun e => e.arm != a).filter (fun e => e.arm == b) = _
    rw [List.filter_filter]
    refine List.filter_congr fun e _ => ?_
    by_cases he : e.arm = b
    · simp [he, hb]
    · simp [he]
  moves := .inr rfl

theorem OneArm.vent (s : State) (a : ArmId) (p : Nat) : OneArm a s (s.vent a p) := .trans (.leaveFlow s a) (.updArm ..)

theorem OneArm.enterRequest (s : State) (a : ArmId) (q : FlowRequest) : OneArm a s (s.enterRequest a q) := by
  refine ⟨fun b hb => by exact (State.arm_setArm ..).trans (if_neg (Ne.symm hb)), fun b hb => ?_, .inl rfl⟩
  show (s.arbiter.wait ++ [WaitEntry.mk a s.now false]).filter (fun e => e.arm == b) = _
  rw [List.filter_append, List.filter_singleton, beq_eq_false_iff_ne.2 (Ne.symm hb)]
  exact List.append_nil _

/-- A list of entries changed in the entries of one arm only holds the same entries of any other. -/
theorem filter_map_arm {l : List WaitEntry} {f : WaitEntry → WaitEntry} (harm : ∀ e, (f e).arm = e.arm) {b : ArmId}
    (h : ∀ e, e.arm = b → f e = e) : (l.map f).filter (fun e => e.arm == b) = l.filter fun e => e.arm == b := by
  rw [List.filter_map]
  have hcomp : ((fun e : WaitEntry => e.arm == b) ∘ f) = fun e => e.arm == b := by
    funext e
    show ((f e).arm == b) = _
    rw [harm]
  rw [hcomp]
  refine (List.map_congr_left fun e he => ?_).trans (List.map_id _)
  exact h e (beq_iff_eq.1 (List.mem_filter.1 he).2)

theorem OneArm.judgeElevation (s : State) (a : ArmId) : OneArm a s (s.judgeElevation a) where
  others _ _ := rfl
  waits b hb := filter_map_arm (fun e => by split <;> rfl) fun e he => if_neg fun k => hb (he.symm.trans k.1)
  moves := .inl rfl

theorem OneArm.replaceRequest (s : State) (a : ArmId) (old new : FlowRequest) : OneArm a s (s.replaceRequest a old new) :=
  .trans (.updArm ..) (.ite (.refl a _) (.judgeElevation _ a))

/-! ### The arm itself -/

theorem arms_vent (s : State) (a : ArmId) (p : Nat) : (s.vent a p).arms = s.arms.set a
    { s.arm a with
      flow := .idle
      commanded := min (s.arm a).commanded p
      valve := .vent (min (s.arm a).commanded p)
      vents := satSucc (s.arm a).vents } := rfl

theorem arms_enterRequest (s : State) (a : ArmId) (q : FlowRequest) :
    (s.enterRequest a q).arms = s.arms.set a { s.arm a with flow := .waiting q } := rfl

theorem arms_replaceRequest (s : State) (a : ArmId) (old new : FlowRequest) :
    (s.replaceRequest a old new).arms = s.arms.set a { s.arm a with flow := .waiting new } := by
  unfold State.replaceRequest
  dsimp only
  split <;> rfl

/-- The context of an arm in a state whose arms are those of another with one replaced. -/
theorem arm_of_set {s t : State} {a : ArmId} {c : Arm} (h : t.arms = s.arms.set a c) (b : ArmId) :
    t.arm b = if a = b then c else s.arm b := by
  unfold State.arm
  rw [h]
  exact Arms.get_set s.arms a b c

theorem arm_self_of_set {s t : State} {a : ArmId} {c : Arm} (h : t.arms = s.arms.set a c) : t.arm a = c := by
  rw [arm_of_set h, if_pos rfl]

/-! ### The Setpoint Unit -/

theorem OneArm.actOnTarget (s : State) (a : ArmId) (v : Nat) (cls : FlowClass) : OneArm a s (s.actOnTarget a v cls) := by
  refine .ite (.refl a s) (.ite (.refl a s) ?_)
  split
  · exact .ite (.enterRequest ..) (.vent ..)
  · exact .ite (.replaceRequest ..) (.vent ..)
  · exact .ite (.setArm ..) (.vent ..)
  · exact .refl a s

theorem OneArm.deliver (s : State) (a : ArmId) (q : Record) (deadBand v : Nat) (forced : Bool) (cls : FlowClass) :
    OneArm a s (s.deliver a q deadBand v forced cls) :=
  .ite (.refl a s) (.trans (.updArm ..) (.trans (.updView ..) (.actOnTarget ..)))

theorem OneArm.recompute (s : State) (forced : Bool) (k : RecomputeClass) (a : ArmId) : OneArm a s (s.recompute forced k a) := by
  refine .ite ?_ (.refl a s)
  split
  · split
    · exact .deliver ..
    · exact .refl a s
  · exact .refl a s

/-! ### The Arm Controllers -/

theorem OneArm.toStandby (s : State) (a : ArmId) : OneArm a s (s.toStandby a) := by
  unfold State.toStandby
  split
  · exact .refl a s
  · exact .refl a s
  · exact .trans (.vent ..) (.updArm ..)

theorem OneArm.park (s : State) (a : ArmId) : OneArm a s (s.park a) := .ite (.updArm ..) (.refl a s)

theorem OneArm.newLift (s : State) (a : ArmId) (aperture : Nat) (wake : Bool) : OneArm a s (s.newLift a aperture wake) :=
  .ite (.updArm ..) (.enterRequest ..)

theorem OneArm.startLift (s : State) (a : ArmId) (aperture : Nat) (t : Option Tag) (wake : Bool) :
    OneArm a s ((s.updArm a fun c => c.startLift aperture t).newLift a aperture wake) :=
  .trans (.updArm s a _) (.newLift ..)

theorem OneArm.relift (s : State) (aperture : Nat) (t : Option Tag) (a : ArmId) : OneArm a s (s.relift aperture t a) := by
  unfold State.relift
  split
  · exact .updArm ..
  · exact .ite (.updArm ..) (.updArm ..)
  · exact .updArm ..
  · exact .startLift ..

theorem OneArm.liftEngaged (s : State) (aperture : Nat) (t : Option Tag) (a : ArmId) : OneArm a s (s.liftEngaged aperture t a) := by
  unfold State.liftEngaged
  split
  · exact .trans (.updArm s a _) (.replaceRequest ..)
  · exact .trans (.leaveFlow s a) (.startLift ..)
  · exact .startLift ..
  · exact .startLift ..

theorem OneArm.liftInService (s : State) (aperture : Nat) (t : Option Tag) (a : ArmId) :
    OneArm a s (s.liftInService aperture t a) := by
  unfold State.liftInService
  split
  · exact .refl a s
  · exact .startLift ..
  · exact .startLift ..
  · exact .startLift ..
  · exact .startLift ..
  · exact .liftEngaged ..
  · exact .relift ..
  · exact .ite (.updArm ..) (.startLift ..)

theorem OneArm.enterArm (q : Record) (s : State) (a : ArmId) : OneArm a s (s.enterArm q a) := by
  unfold State.enterArm
  split
  · exact .updArm ..
  · exact .refl a s
  · exact .trans (.vent ..) (.updArm ..)

theorem OneArm.releaseArm (t : Tag) (s : State) (a : ArmId) : OneArm a s (s.releaseArm t a) :=
  .ite (.trans (.vent ..) (.updArm ..)) (.refl a s)

theorem OneArm.newRelease (s : State) (a : ArmId) : OneArm a s (s.newRelease a) :=
  .ite (.trans (.vent ..) (.updArm ..)) (.refl a s)

theorem OneArm.beginHold (s : State) (a : ArmId) : OneArm a s (s.beginHold a) := by
  unfold State.beginHold
  split
  · exact .refl a s
  · exact .refl a s
  · exact .trans (.vent ..) (.updArm ..)

theorem OneArm.endHold (s : State) (a : ArmId) : OneArm a s (s.endHold a) := by
  unfold State.endHold
  split
  · exact .enterRequest ..
  · exact .recompute ..

theorem arbiter_startProtection (s : State) (r : RotorId) : (s.startProtection r).arbiter = s.arbiter := by
  unfold State.startProtection
  split
  · rfl
  · cases r <;> rfl

theorem arms_startProtection (s : State) (r : RotorId) : (s.startProtection r).arms = s.arms := by
  unfold State.startProtection
  split
  · rfl
  · cases r <;> rfl

/-- What a grant to a waiting arm leaves of the arbiter and of the arm (R116, R144). -/
theorem grant_of_waiting {s : State} {a : ArmId} {q : FlowRequest} (h : (s.arm a).flow = .waiting q) :
    (s.grant a).arbiter = { s.arbiter with
        wait := s.arbiter.wait.filter fun e => e.arm != a
        inFlight := s.arbiter.inFlight ++ [a] }
      ∧ (s.grant a).arms = s.arms.set a ((s.arm a).granted q s.now (moveTimeout s.geometry q)) := by
  unfold State.grant
  rw [h]
  dsimp only
  split
  · rw [arbiter_startProtection, arms_startProtection]
    exact ⟨rfl, rfl⟩
  · exact ⟨rfl, rfl⟩

theorem grant_of_not_waiting {s : State} {a : ArmId} (h : (s.arm a).flow.isWaiting = false) : s.grant a = s := by
  unfold State.grant
  split
  · rename_i q hq
    rw [hq] at h
    exact nomatch h
  · rfl

/-- A grant leaves the other arms. -/
theorem grant_others (s : State) (a b : ArmId) (hb : b ≠ a) : (s.grant a).arm b = s.arm b := by
  cases hflow : (s.arm a).flow with
  | waiting q =>
    unfold State.arm
    rw [(grant_of_waiting hflow).2, Arms.get_set, if_neg (Ne.symm hb)]
  | idle => rw [grant_of_not_waiting (by rw [hflow]; rfl)]
  | inFlight q g w => rw [grant_of_not_waiting (by rw [hflow]; rfl)]
  | deferred v w => rw [grant_of_not_waiting (by rw [hflow]; rfl)]

end Sys2Proof.Machine
end

section
/-! PROOF. The slots (R137, R195): the geometry stays consistent, the slot count is that of the level, and no act but a grant adds a
move in flight, and a grant only below the slot count. -/

namespace Sys2Proof.Machine

/-! ### What the checks of R195 give -/

theorem inRange_of_firstFailed {g : Geometry} (h : g.firstFailed = none) : ∀ f ∈ g.rangedFields, f.ok = true := by
  have hrange : g.firstOutOfRange = none := by
    unfold Geometry.firstFailed at h
    split_ifs at h with hout
    exact Option.isNone_iff_eq_none.1 (by simpa using hout)
  unfold Geometry.firstOutOfRange at hrange
  rw [Option.map_eq_none_iff, List.findIdx?_eq_none_iff] at hrange
  intro f hf
  simpa using hrange f hf

theorem slots_of_firstFailed {g : Geometry} (h : g.firstFailed = none) : g.slotsNormal ≤ 4 ∧ g.slotsLow ≤ 4 := by
  have hrange := inRange_of_firstFailed h
  have hnormal := hrange ⟨g.slotsNormal, 1, 4⟩ (by simp [Geometry.rangedFields, Geometry.rangedFieldsB])
  have hlow := hrange ⟨g.slotsLow, 1, 4⟩ (by simp [Geometry.rangedFields, Geometry.rangedFieldsB])
  simp only [RangedField.ok, decide_eq_true_eq] at hnormal hlow
  omega

theorem slotsFor_le {g : Geometry} (h : g.firstFailed = none) (level : SupplyLevel) : slotsFor g level ≤ 4 := by
  obtain ⟨hnormal, hlow⟩ := slots_of_firstFailed h
  cases level with
  | normal => exact hnormal
  | low => exact hlow
  | critical => exact Nat.zero_le 4

/-! ### Moves in flight -/

/-- No move has been added to those in flight. -/
def NoNewMove (s t : State) : Prop := t.arbiter.inFlight.length ≤ s.arbiter.inFlight.length

theorem NoNewMove.trans {s t u : State} (h : NoNewMove s t) (k : NoNewMove t u) : NoNewMove s u := Nat.le_trans k h

theorem NoNewMove.foldl {α : Type} {f : State → α → State} (h : ∀ s x, NoNewMove s (f s x)) (xs : List α) (s : State) :
    NoNewMove s (xs.foldl f s) := by
  induction xs generalizing s with
  | nil => exact Nat.le_refl _
  | cons x xs ih => exact (h s x).trans (ih _)

theorem OneArm.noNewMove {a : ArmId} {s t : State} (h : OneArm a s t) : NoNewMove s t := by
  unfold NoNewMove
  obtain hm | hm := h.moves
  · rw [hm]
  · rw [hm]; exact List.length_filter_le _ _

theorem NoNewMove.of_arbiter {s t : State} (h : t.arbiter = s.arbiter) : NoNewMove s t := by
  unfold NoNewMove; rw [h]

theorem NoNewMove.ite {p : Prop} [Decidable p] {s t u : State} (h : NoNewMove s t) (k : NoNewMove s u) :
    NoNewMove s (if p then t else u) := by
  by_cases hp : p
  · rw [if_pos hp]; exact h
  · rw [if_neg hp]; exact k

theorem NoNewMove.recomputeAll (s : State) (as : List ArmId) (forced : Bool) (k : RecomputeClass) :
    NoNewMove s (s.recomputeAll as forced k) :=
  .foldl (fun s a => (OneArm.recompute s forced k a).noNewMove) as s

theorem NoNewMove.countChanged (s : State) (r : RotorId) (old : Nat) : NoNewMove s (s.countChanged r old) :=
  .trans (t := (s.mapQueue fun q => q.updView r (RotorView.lowerMinActive (s.activeCount r))).judgeUsability r old)
    (.ite (.of_arbiter rfl) (.of_arbiter rfl)) (.recomputeAll ..)

theorem CountAct.noNewMove {s t : State} (h : CountAct s t) : NoNewMove s t := by
  cases h with
  | putOut a cause =>
    exact .ite (OneArm.updArm s a _).noNewMove (.trans (OneArm.trans (.vent s a 0) (.updArm _ a _)).noNewMove (.countChanged ..))
  | returnToStandby a => exact .trans (OneArm.trans (.updArm s a _) (.toStandby _ a)).noNewMove (.countChanged ..)
  | returnForLift a _ => exact .trans (OneArm.updArm s a _).noNewMove (.countChanged ..)

theorem NoNewMove.deliverLevel (s : State) (old new : SupplyLevel) : NoNewMove s (s.deliverLevel old new) :=
  .ite (.trans (.foldl (fun s a => (OneArm.beginHold s a).noNewMove) _ s) (.of_arbiter rfl))
    (.ite (.trans (.foldl (fun s a => (OneArm.endHold s a).noNewMove) _ s) (.of_arbiter rfl)) (.of_arbiter rfl))

theorem arbiter_setRotor (s : State) (r : RotorId) (x : Rotor) : (s.setRotor r x).arbiter = s.arbiter := by
  cases r <;> rfl

theorem HoldAct.noNewMove {s t : State} (h : HoldAct s t) : NoNewMove s t := by
  cases h with
  | latch b => exact .of_arbiter rfl
  | mode m => exact .of_arbiter rfl
  | level new => exact .trans (t := { s with supply := _, arbiter := _ }) (Nat.le_refl _) (.deliverLevel _ s.supply.level new)
  | spin r x _ _ => exact .of_arbiter (arbiter_setRotor s r x)
  | down r x _ =>
    exact .trans (t := ((s.setRotor r x).putHold (downCause r) true).flagRotorDown r) (.of_arbiter (arbiter_setRotor s r x))
      (.ite (.of_arbiter rfl) (.foldl (fun s a => (OneArm.beginHold s a).noNewMove) _ _))
  | ready r x _ =>
    have set : NoNewMove s (((s.setRotor r x).putHold (downCause r) false).raise .rotor) :=
      .of_arbiter (arbiter_setRotor s r x)
    exact .ite set (set.trans (.foldl (fun s a => (OneArm.endHold s a).noNewMove) _ _))

/-- An act of one arm adds no move; a grant adds one, below the slot count. -/
theorem ArmAct.moves {s t : State} (h : ArmAct s t) :
    t.arbiter.inFlight.length ≤ s.arbiter.inFlight.length ∨ t.arbiter.inFlight.length ≤ s.arbiter.slots := by
  cases h with
  | recompute forced k a => exact .inl (OneArm.recompute s forced k a).noNewMove
  | grant a hfree =>
    by_cases hwaits : (s.arm a).flow.isWaiting = true
    · cases hflow : (s.arm a).flow with
      | waiting q =>
        rw [(grant_of_waiting hflow).1]
        exact .inr (by simpa using hfree)
      | idle => rw [hflow] at hwaits; exact nomatch hwaits
      | inFlight q g w => rw [hflow] at hwaits; exact nomatch hwaits
      | deferred v w => rw [hflow] at hwaits; exact nomatch hwaits
    · rw [grant_of_not_waiting (by simpa using hwaits)]
      exact .inl (Nat.le_refl _)
  | elevate f _ => exact .inl (Nat.le_refl _)
  | toStandby a => exact .inl (OneArm.toStandby s a).noNewMove
  | park a => exact .inl (OneArm.park s a).noNewMove
  | lift aperture t a => exact .inl (OneArm.liftInService s aperture t a).noNewMove
  | enter q a => exact .inl (OneArm.enterArm q s a).noNewMove
  | release t a => exact .inl (OneArm.releaseArm t s a).noNewMove
  | newRelease a => exact .inl (OneArm.newRelease s a).noNewMove
  | complete a q granted timeout _ => exact .inl (OneArm.trans (.leaveFlow s a) (.updArm ..)).noNewMove
  | minor a c _ _ _ => exact .inl (OneArm.setArm s a c).noNewMove

/-! ### The slot count -/

/-- The slot count is that of the level under the geometry in force. -/
def State.slotsFit (s : State) : Prop := s.arbiter.slots = slotsFor s.geometry s.supply.level

theorem State.slotsFollowSupply.of_kept {s t : State} (hs : s.slotsFollowSupply) (hgeometry : t.geometry = s.geometry)
    (hslots : t.arbiter.slots = s.arbiter.slots) (hlevel : t.supply.level = s.supply.level)
    (hmoves : t.arbiter.inFlight.length ≤ s.arbiter.inFlight.length ∨ t.arbiter.inFlight.length ≤ s.arbiter.slots) :
    t.slotsFollowSupply := by
  obtain ⟨hgood, hfit, hfour⟩ := hs
  have hle := slotsFor_le hgood s.supply.level
  refine ⟨?_, ?_, by omega⟩
  · unfold State.geometryConsistent; rw [hgeometry]; exact hgood
  · rw [hslots, hgeometry, hlevel]; exact hfit

/-- An act on counts keeps the slot count and the level. -/
theorem CountAct.slots {s t : State} (h : CountAct s t) : t.arbiter.slots = s.arbiter.slots ∧ t.supply.level = s.supply.level := by
  have worked : ∀ {u : State}, Worked s u → u.arbiter.slots = s.arbiter.slots ∧ u.supply.level = s.supply.level := fun k =>
    ⟨(Steady.of_worked k).slots, by rw [(Steady.of_worked k).supply]⟩
  cases h with
  | putOut a cause =>
    refine worked ?_
    unfold State.putOut
    dsimp only
    split
    · exact .updArm ..
    · exact .trans (.of_flowOnly (.trans (.vent s a 0) (.updArm ..))) (.countChanged ..)
  | returnToStandby a => exact worked (.returnToStandby s a)
  | returnForLift a _ => exact worked (.returnForLift s a)

/-- The delivery of a level changes neither the slot count nor the level (R165). -/
theorem slots_deliverLevel (s : State) (old new : SupplyLevel) : (s.deliverLevel old new).arbiter.slots = s.arbiter.slots := by
  unfold State.deliverLevel
  split
  · exact (FlowOnly.foldl .beginHold _ s).slots
  · split
    · exact (FlowOnly.foldl .endHold _ s).slots
    · rfl

theorem HoldAct.slotsFit {s t : State} (h : HoldAct s t) (hs : s.slotsFit) : t.slotsFit := by
  have hgeometry := h.dataKept.geometry
  unfold State.slotsFit at *
  rw [hgeometry]
  cases h with
  | latch b => exact hs
  | mode m => exact hs
  | level new => rw [slots_deliverLevel, supply_deliverLevel]
  | spin r x _ _ => cases r <;> exact hs
  | down r x _ =>
    have set {u t : State} (k : FlowOnly u t) (ha : u.arbiter = s.arbiter) (hsu : u.supply = s.supply) :
        t.arbiter.slots = slotsFor s.geometry t.supply.level := by
      rw [k.slots, k.supply, ha, hsu]; exact hs
    have hsupply : (s.setRotor r x).supply = s.supply := by cases r <;> rfl
    unfold State.leaveReady
    dsimp only
    split
    · exact set (.refl _) (arbiter_setRotor s r x) hsupply
    · exact set (.foldl .beginHold _ _) (arbiter_setRotor s r x) hsupply
  | ready r x _ =>
    have set {u t : State} (k : FlowOnly u t) (ha : u.arbiter = s.arbiter) (hsu : u.supply = s.supply) :
        t.arbiter.slots = slotsFor s.geometry t.supply.level := by
      rw [k.slots, k.supply, ha, hsu]; exact hs
    have hsupply : (s.setRotor r x).supply = s.supply := by cases r <;> rfl
    split
    · exact set (.refl _) (arbiter_setRotor s r x) hsupply
    · exact set (.foldl .endHold _ _) (arbiter_setRotor s r x) hsupply

/-- Every elementary act keeps the slots within the supply. -/
theorem Act.keeps_slotsFollowSupply {w : Prop} (s t : State) (h : Act w s t) (hs : s.slotsFollowSupply) : t.slotsFollowSupply := by
  have none {u : State} (hgeometry : u.geometry = s.geometry) (harbiter : u.arbiter = s.arbiter)
      (hlevel : u.supply.level = s.supply.level) : u.slotsFollowSupply :=
    hs.of_kept hgeometry (by rw [harbiter]) hlevel (.inl (by rw [harbiter]))
  cases h with
  | unseen k =>
    have hgeometry := congrArg State.geometry k
    have harbiter := congrArg State.arbiter k
    have hlevel := congrArg (fun u => u.supply.level) k
    exact none hgeometry harbiter hlevel
  | arm k => exact hs.of_kept k.flowOnly.geometry k.flowOnly.slots (by rw [k.flowOnly.supply]) k.moves
  | count k => exact hs.of_kept k.dataKept.geometry k.slots.1 k.slots.2 (.inl k.noNewMove)
  | queue k =>
    have hgeometry := congrArg State.geometry k.frame
    have harbiter := congrArg State.arbiter k.frame
    have hsupply := congrArg State.supply k.frame
    exact none hgeometry harbiter (by rw [hsupply])
  | hold k =>
    obtain ⟨hgood, hfit, hfour⟩ := hs
    refine ⟨?_, k.slotsFit hfit, Nat.le_trans k.noNewMove hfour⟩
    unfold State.geometryConsistent
    rw [k.dataKept.geometry]
    exact hgood
  | geometry g hg => exact ⟨hg, rfl, hs.2.2⟩
  | reset x => exact ⟨firstFailed_default, rfl, Nat.zero_le 4⟩
  | species v _ => exact hs
  | ram m _ _ => exact hs
  | eeprom m _ => exact hs
  | manifest m _ _ => exact hs
  | cfg x _ _ => exact hs
  | quality x _ => exact hs
  | registers c e r _ _ _ => exact hs

/-- Settles O57: a grant is made only below the slot count, which a consistent geometry holds to four; no other act adds a move, and
the slot count is set anew with the geometry and with the level. -/
theorem everyStepKeepsTheSlotsWithinTheSupply : Obligations.EveryStepKeepsTheSlotsWithinTheSupply :=
  fun _ _ hs ht => step_keeps Act.keeps_slotsFollowSupply hs ht

end Sys2Proof.Machine
end

section
/-! PROOF. What requests, moves and targets leave of an arm, and the invariant over the impact counters (R152). -/

namespace Sys2Proof.Machine

/-! ### What requests leave of an arm -/

/-- An arm without what a request, move or target changes: its commanded pressure, its target, its flow state, its vents, its valve and
the settled input. -/
def Arm.standing (c : Arm) : Arm :=
  { c with commanded := 0, target := 0, flow := .idle, vents := 0, valve := .deEnergized, settled := false }

/-- From `s` to `t` every arm keeps the rest. -/
structure StandingKept (s t : State) : Prop where
  arm : ∀ a, (t.arm a).standing = (s.arm a).standing

theorem StandingKept.refl (s : State) : StandingKept s s := ⟨fun _ => rfl⟩

theorem StandingKept.trans {s t u : State} (h : StandingKept s t) (k : StandingKept t u) : StandingKept s u :=
  ⟨fun a => (k.arm a).trans (h.arm a)⟩

theorem StandingKept.after {s t u : State} (k : StandingKept t u) (h : StandingKept s t) : StandingKept s u := h.trans k

theorem StandingKept.foldl {α : Type} {f : State → α → State} (h : ∀ s x, StandingKept s (f s x)) (xs : List α) (s : State) :
    StandingKept s (xs.foldl f s) := by
  induction xs generalizing s with
  | nil => exact .refl s
  | cons x xs ih => exact (h s x).trans (ih _)

theorem StandingKept.ite {p : Prop} [Decidable p] {s t u : State} (h : StandingKept s t) (k : StandingKept s u) :
    StandingKept s (if p then t else u) := by
  by_cases hp : p
  · rw [if_pos hp]; exact h
  · rw [if_neg hp]; exact k

theorem StandingKept.of_arms {s t : State} (h : t.arms = s.arms) : StandingKept s t :=
  ⟨fun a => by rw [State.arm_congr h]⟩

theorem StandingKept.of_set {s t : State} {a : ArmId} {c : Arm} (h : t.arms = s.arms.set a c)
    (hc : c.standing = (s.arm a).standing) : StandingKept s t := by
  refine ⟨fun b => ?_⟩
  rw [arm_of_set h]
  by_cases hb : a = b
  · subst hb; rw [if_pos rfl]; exact hc
  · rw [if_neg hb]

theorem StandingKept.setArm (s : State) (a : ArmId) (c : Arm) (h : c.standing = (s.arm a).standing) :
    StandingKept s (s.setArm a c) := .of_set rfl h

theorem StandingKept.updArm (s : State) (a : ArmId) {f : Arm → Arm} (h : ∀ c, (f c).standing = c.standing) :
    StandingKept s (s.updArm a f) := .setArm s a _ (h _)

theorem StandingKept.state {s t : State} (h : StandingKept s t) (a : ArmId) : (t.arm a).state = (s.arm a).state := by
  have k := congrArg Arm.state (h.arm a); exact k

theorem StandingKept.monitor {s t : State} (h : StandingKept s t) (a : ArmId) : (t.arm a).monitor = (s.arm a).monitor := by
  have k := congrArg Arm.monitor (h.arm a); exact k

theorem StandingKept.tag {s t : State} (h : StandingKept s t) (a : ArmId) : (t.arm a).tag = (s.arm a).tag := by
  have k := congrArg Arm.tag (h.arm a); exact k

theorem StandingKept.activeCount {s t : State} (h : StandingKept s t) (r : RotorId) : t.activeCount r = s.activeCount r := by
  unfold State.activeCount
  congr 1
  exact List.filter_congr fun a _ => by rw [h.state]

theorem StandingKept.leaveFlow (s : State) (a : ArmId) : StandingKept s (s.leaveFlow a) := .of_arms rfl

theorem StandingKept.updView (s : State) (r : RotorId) (t : Tag) (f : RotorView → RotorView) :
    StandingKept s (s.updView r t f) := .of_arms rfl

theorem StandingKept.vent (s : State) (a : ArmId) (p : Nat) : StandingKept s (s.vent a p) :=
  .after (.updArm _ a fun _ => rfl) (.leaveFlow s a)

theorem StandingKept.enterRequest (s : State) (a : ArmId) (q : FlowRequest) : StandingKept s (s.enterRequest a q) :=
  .of_set (arms_enterRequest s a q) rfl

theorem StandingKept.replaceRequest (s : State) (a : ArmId) (old new : FlowRequest) :
    StandingKept s (s.replaceRequest a old new) :=
  .after (.ite (.refl _) (.of_arms rfl)) (.updArm s a fun _ => rfl)

theorem StandingKept.actOnTarget (s : State) (a : ArmId) (v : Nat) (cls : FlowClass) : StandingKept s (s.actOnTarget a v cls) := by
  refine .ite (.refl s) (.ite (.refl s) ?_)
  split
  · exact .ite (.enterRequest ..) (.vent ..)
  · exact .ite (.replaceRequest ..) (.vent ..)
  · exact .ite (.setArm s a _ rfl) (.vent ..)
  · exact .refl s

theorem StandingKept.recompute (s : State) (forced : Bool) (k : RecomputeClass) (a : ArmId) :
    StandingKept s (s.recompute forced k a) := by
  refine .ite ?_ (.refl s)
  split
  · split
    · exact .ite (.refl s) (.after (.actOnTarget ..) (.after (.updView ..) (.updArm s a fun _ => rfl)))
    · exact .refl s
  · exact .refl s

theorem StandingKept.recomputeAll (s : State) (as : List ArmId) (forced : Bool) (k : RecomputeClass) :
    StandingKept s (s.recomputeAll as forced k) := .foldl (fun s a => .recompute s forced k a) as s

theorem standing_granted (c : Arm) (q : FlowRequest) (now timeout : Nat) : (c.granted q now timeout).standing = c.standing := by
  unfold Arm.granted
  split <;> rfl

theorem StandingKept.grant (s : State) (a : ArmId) : StandingKept s (s.grant a) := by
  cases hflow : (s.arm a).flow with
  | waiting q => exact .of_set (grant_of_waiting hflow).2 (standing_granted _ _ _ _)
  | idle => rw [grant_of_not_waiting (by rw [hflow]; rfl)]; exact .refl s
  | inFlight q g w => rw [grant_of_not_waiting (by rw [hflow]; rfl)]; exact .refl s
  | deferred v w => rw [grant_of_not_waiting (by rw [hflow]; rfl)]; exact .refl s

theorem StandingKept.arbitrate (s : State) : StandingKept s s.arbitrate := by
  have upTo : ∀ (n : Nat) (s : State), StandingKept s (State.grantUpTo n s) := by
    intro n
    induction n with
    | zero => exact fun s => .refl s
    | succ n ih =>
      intro s
      unfold State.grantUpTo
      refine .ite ?_ (.refl s)
      split
      · exact .trans (.grant ..) (ih _)
      · exact .refl s
  exact upTo _ s

theorem StandingKept.beginHold (s : State) (a : ArmId) : StandingKept s (s.beginHold a) := by
  unfold State.beginHold
  split
  · exact .refl s
  · exact .refl s
  · exact .after (.updArm _ a fun _ => rfl) (.vent ..)

theorem StandingKept.endHold (s : State) (a : ArmId) : StandingKept s (s.endHold a) := by
  unfold State.endHold
  split
  · exact .enterRequest ..
  · exact .recompute ..

/-! ### Monitors -/

/-- From `s` to `t` every monitor within its bound stays within its bound. -/
structure MonitorsKept (s t : State) : Prop where
  arm : ∀ a, (s.arm a).monitor.bounded → (t.arm a).monitor.bounded

theorem MonitorsKept.refl (s : State) : MonitorsKept s s := ⟨fun _ h => h⟩

theorem MonitorsKept.trans {s t u : State} (h : MonitorsKept s t) (k : MonitorsKept t u) : MonitorsKept s u :=
  ⟨fun a hs => k.arm a (h.arm a hs)⟩

theorem MonitorsKept.after {s t u : State} (k : MonitorsKept t u) (h : MonitorsKept s t) : MonitorsKept s u := h.trans k

theorem MonitorsKept.foldl {α : Type} {f : State → α → State} (h : ∀ s x, MonitorsKept s (f s x)) (xs : List α) (s : State) :
    MonitorsKept s (xs.foldl f s) := by
  induction xs generalizing s with
  | nil => exact .refl s
  | cons x xs ih => exact (h s x).trans (ih _)

theorem MonitorsKept.ite {p : Prop} [Decidable p] {s t u : State} (h : MonitorsKept s t) (k : MonitorsKept s u) :
    MonitorsKept s (if p then t else u) := by
  by_cases hp : p
  · rw [if_pos hp]; exact h
  · rw [if_neg hp]; exact k

theorem MonitorsKept.of_standing {s t : State} (h : StandingKept s t) : MonitorsKept s t :=
  ⟨fun a hs => by rw [h.monitor]; exact hs⟩

theorem MonitorsKept.of_arms {s t : State} (h : t.arms = s.arms) : MonitorsKept s t := .of_standing (.of_arms h)

theorem MonitorsKept.setArm (s : State) (a : ArmId) (c : Arm) (h : (s.arm a).monitor.bounded → c.monitor.bounded) :
    MonitorsKept s (s.setArm a c) := by
  refine ⟨fun b hb => ?_⟩
  rw [State.arm_setArm]
  by_cases hab : a = b
  · subst hab; rw [if_pos rfl]; exact h hb
  · rw [if_neg hab]; exact hb

theorem MonitorsKept.updArm (s : State) (a : ArmId) {f : Arm → Arm} (h : ∀ c, c.monitor.bounded → (f c).monitor.bounded) :
    MonitorsKept s (s.updArm a f) := .setArm s a _ (h _)

/-- An arm that leaves ENGAGED keeps the count and the depth it counts for (R159). -/
theorem Monitor.bounded_leave {c : Arm} (h : c.monitor.bounded) : c.leave.monitor.bounded := by
  unfold Arm.leave
  split
  · exact h
  · exact h

theorem Monitor.bounded_startLift {c : Arm} (aperture : Nat) (t : Option Tag) (h : c.monitor.bounded) :
    (c.startLift aperture t).monitor.bounded := bounded_leave h

theorem Monitor.bounded_engage (c : Arm) (q : Record) : (c.engage q).monitor.bounded := fun _ _ => Nat.zero_le _

theorem MonitorsKept.toStandby (s : State) (a : ArmId) : MonitorsKept s (s.toStandby a) := by
  unfold State.toStandby
  split
  · exact .refl s
  · exact .refl s
  · exact .after (.updArm _ a fun _ => Monitor.bounded_leave) (.of_standing (.vent ..))

theorem MonitorsKept.newLift (s : State) (a : ArmId) (aperture : Nat) (wake : Bool) : MonitorsKept s (s.newLift a aperture wake) :=
  .ite (.updArm s a fun _ h => h) (.of_standing (.enterRequest ..))

theorem MonitorsKept.startLift (s : State) (a : ArmId) (aperture : Nat) (t : Option Tag) (wake : Bool) :
    MonitorsKept s ((s.updArm a fun c => c.startLift aperture t).newLift a aperture wake) :=
  .after (.newLift ..) (.updArm s a fun _ => Monitor.bounded_startLift aperture t)

theorem MonitorsKept.relift (s : State) (aperture : Nat) (t : Option Tag) (a : ArmId) : MonitorsKept s (s.relift aperture t a) := by
  unfold State.relift
  split
  · exact .updArm s a fun _ h => h
  · exact .ite (.updArm s a fun _ h => h) (.updArm s a fun _ h => h)
  · exact .updArm s a fun _ h => h
  · exact .startLift ..

theorem MonitorsKept.liftEngaged (s : State) (aperture : Nat) (t : Option Tag) (a : ArmId) :
    MonitorsKept s (s.liftEngaged aperture t a) := by
  unfold State.liftEngaged
  split
  · exact .after (.of_standing (.replaceRequest ..)) (.updArm s a fun _ => Monitor.bounded_startLift aperture t)
  · exact .trans (.of_standing (.leaveFlow s a)) (.startLift ..)
  · exact .startLift ..
  · exact .startLift ..

theorem MonitorsKept.liftInService (s : State) (aperture : Nat) (t : Option Tag) (a : ArmId) :
    MonitorsKept s (s.liftInService aperture t a) := by
  unfold State.liftInService
  split
  · exact .refl s
  · exact .startLift ..
  · exact .startLift ..
  · exact .startLift ..
  · exact .startLift ..
  · exact .liftEngaged ..
  · exact .relift ..
  · exact .ite (.updArm s a fun _ h => h) (.startLift ..)

theorem MonitorsKept.enterArm (q : Record) (s : State) (a : ArmId) : MonitorsKept s (s.enterArm q a) := by
  unfold State.enterArm
  split
  · exact .updArm s a fun c _ => Monitor.bounded_engage c q
  · exact .refl s
  · exact .after (.updArm _ a fun _ => Monitor.bounded_leave) (.of_standing (.vent ..))

theorem MonitorsKept.releaseArm (t : Tag) (s : State) (a : ArmId) : MonitorsKept s (s.releaseArm t a) :=
  .ite (.after (.updArm _ a fun _ => Monitor.bounded_leave) (.of_standing (.vent ..))) (.refl s)

theorem Monitor.bounded_completed {c : Arm} (kind : MoveKind) (h : c.monitor.bounded) : (c.completed kind).monitor.bounded := by
  cases kind <;> exact h

theorem ArmAct.monitorsKept {s t : State} (h : ArmAct s t) : MonitorsKept s t := by
  cases h with
  | recompute forced k a => exact .of_standing (.recompute s forced k a)
  | grant a _ => exact .of_standing (.grant s a)
  | elevate f _ => exact .of_arms rfl
  | toStandby a => exact .toStandby s a
  | park a => exact .ite (.updArm s a fun _ h => h) (.refl s)
  | lift aperture t a => exact .liftInService s aperture t a
  | enter q a => exact .enterArm q s a
  | release t a => exact .releaseArm t s a
  | newRelease a => exact .ite (.after (.updArm _ a fun _ h => h) (.of_standing (.vent ..))) (.refl s)
  | complete a q granted timeout _ =>
    exact .after (.updArm _ a fun _ => Monitor.bounded_completed q.kind) (.of_standing (.leaveFlow s a))
  | minor a c _ _ hmonitor => exact .setArm s a c hmonitor

theorem MonitorsKept.countChanged (s : State) (r : RotorId) (old : Nat) : MonitorsKept s (s.countChanged r old) := by
  have judged : ∀ u : State, MonitorsKept u (u.judgeUsability r old) := fun u => .ite (.refl u) (.of_arms rfl)
  exact .trans (t := s.mapQueue fun q => q.updView r (RotorView.lowerMinActive (s.activeCount r))) (.of_arms rfl)
    (.trans (judged _) (.of_standing (.recomputeAll ..)))

theorem CountAct.monitorsKept {s t : State} (h : CountAct s t) : MonitorsKept s t := by
  cases h with
  | putOut a cause =>
    exact .ite (.updArm s a fun _ h => h) (.after (.countChanged ..)
      (.after (.updArm _ a fun _ => Monitor.bounded_leave) (.of_standing (.vent s a 0))))
  | returnToStandby a => exact .after (.countChanged ..) (.after (.toStandby ..) (.updArm s a fun _ h => h))
  | returnForLift a _ => exact .after (.countChanged ..) (.updArm s a fun _ h => h)

theorem StandingKept.deliverLevel (s : State) (old new : SupplyLevel) : StandingKept s (s.deliverLevel old new) :=
  .ite (.trans (.foldl .beginHold _ s) (.of_arms rfl)) (.ite (.trans (.foldl .endHold _ s) (.of_arms rfl)) (.refl s))

theorem arms_setRotor (s : State) (r : RotorId) (x : Rotor) : (s.setRotor r x).arms = s.arms := by cases r <;> rfl

theorem StandingKept.leaveReady (s : State) (r : RotorId) : StandingKept s (s.leaveReady r) :=
  .trans (t := (s.putHold (downCause r) true).flagRotorDown r) (.of_arms rfl) (.ite (.refl _) (.foldl .beginHold _ _))

/-- An act on hold causes and drives leaves of every arm all but what requests change. -/
theorem HoldAct.standingKept {s t : State} (h : HoldAct s t) : StandingKept s t := by
  cases h with
  | latch b => exact .of_arms rfl
  | mode m => exact .of_arms rfl
  | level new => exact .after (.deliverLevel _ s.supply.level new) (.of_arms rfl)
  | spin r x _ _ => exact .of_arms (arms_setRotor s r x)
  | down r x _ => exact .after (.leaveReady _ r) (.of_arms (arms_setRotor s r x))
  | ready r x _ =>
    have set : StandingKept s (((s.setRotor r x).putHold (downCause r) false).raise .rotor) := .of_arms (arms_setRotor s r x)
    exact .ite set (set.trans (.foldl .endHold _ _))

/-- Every elementary act keeps the impact counters within their depths. -/
theorem Act.keeps_impactBounded {w : Prop} (s t : State) (h : Act w s t) (hs : s.impactBounded) : t.impactBounded := by
  have kept : MonitorsKept s t → t.impactBounded := fun k a => k.arm a (hs a)
  cases h with
  | unseen k =>
    have harms := congrArg State.arms k
    exact kept (.of_arms harms)
  | arm k => exact kept k.monitorsKept
  | count k => exact kept k.monitorsKept
  | hold k => exact kept (.of_standing k.standingKept)
  | queue k =>
    have harms := congrArg State.arms k.frame
    exact kept (.of_arms harms)
  | reset x =>
    intro a p hp
    cases a <;> exact nomatch hp
  | geometry g _ => exact hs
  | species v _ => exact hs
  | ram m _ _ => exact hs
  | eeprom m _ => exact hs
  | manifest m _ _ => exact hs
  | cfg x _ _ => exact hs
  | quality x _ => exact hs
  | registers c e r _ _ _ => exact hs

/-- Settles O58: a monitor counts only below its depth, a new record's monitor starts at 0, and rows are written only with cells within
their limits. -/
theorem everyStepKeepsImpactCountersAndTrimCellsBounded : Obligations.EveryStepKeepsImpactCountersAndTrimCellsBounded :=
  ⟨fun _ _ hs ht => step_keeps Act.keeps_impactBounded hs ht, fun _ _ hs ht => step_keeps Act.keeps_trimsBounded hs ht⟩

end Sys2Proof.Machine
end

section
/-! PROOF. The bounds of the reader, the transit queue, the registers and the frame references, for every step. -/

namespace Sys2Proof.Machine

/-- Settles O59: each block keeps its own bounds, and a frame enters a record or the save only from a staged ticket, whose frame a scan
step has found to be one of the ticket frames. -/
theorem everyStepKeepsTheReaderAndTheRegistersLegal : Obligations.EveryStepKeepsTheReaderAndTheRegistersLegal := by
  intro s t hs ht
  rw [← legal_iff] at *
  exact step_keeps Act.keeps_legal hs ht fun _ _ k => ⟨k.manifest, k.cfg, k.quality, k.bits, k.queue⟩

end Sys2Proof.Machine
end

section
/-! PROOF. The hold causes (R170): no act but those of a changed count takes an arm out of service or back, an arm OUT gains no request,
and each condition changes together with its hold cause. -/

namespace Sys2Proof.Machine

/-! ### Arms out of service -/

/-- From `s` to `t`, where no arm OUT has a request or move, no arm goes out of service or comes back, and none OUT gains one. -/
structure OutKept (s t : State) : Prop where
  out : s.outIsIdle → ∀ a, (t.arm a).state = .out ↔ (s.arm a).state = .out
  idle : s.outIsIdle → t.outIsIdle

theorem OutKept.refl (s : State) : OutKept s s := ⟨fun _ _ => Iff.rfl, id⟩

theorem OutKept.trans {s t u : State} (h : OutKept s t) (k : OutKept t u) : OutKept s u :=
  ⟨fun hs a => (k.out (h.idle hs) a).trans (h.out hs a), fun hs => k.idle (h.idle hs)⟩

theorem OutKept.after {s t u : State} (k : OutKept t u) (h : OutKept s t) : OutKept s u := h.trans k

theorem OutKept.foldl {α : Type} {f : State → α → State} (h : ∀ s x, OutKept s (f s x)) (xs : List α) (s : State) :
    OutKept s (xs.foldl f s) := by
  induction xs generalizing s with
  | nil => exact .refl s
  | cons x xs ih => exact (h s x).trans (ih _)

theorem OutKept.ite {p : Prop} [Decidable p] {s t u : State} (h : p → OutKept s t) (k : ¬ p → OutKept s u) :
    OutKept s (if p then t else u) := by
  by_cases hp : p
  · rw [if_pos hp]; exact h hp
  · rw [if_neg hp]; exact k hp

theorem OutKept.of_arms {s t : State} (h : t.arms = s.arms) : OutKept s t where
  out _ a := by rw [State.arm_congr h]
  idle hs a := by rw [State.arm_congr h]; exact hs a

/-- An act on an arm in service that leaves it in service. -/
theorem OutKept.of_inService {s t : State} {a : ArmId} (one : ∀ b, b ≠ a → t.arm b = s.arm b) (hs : (s.arm a).state ≠ .out)
    (ht : (t.arm a).state ≠ .out) : OutKept s t where
  out _ b := by
    by_cases hb : b = a
    · subst hb; exact iff_of_false ht hs
    · rw [one b hb]
  idle hout b hb := by
    by_cases hba : b = a
    · subst hba; exact absurd hb ht
    · rw [one b hba] at hb ⊢; exact hout b hb

theorem OutKept.updArm (s : State) (a : ArmId) {f : Arm → Arm} (hs : (s.arm a).state ≠ .out) (ht : (f (s.arm a)).state ≠ .out) :
    OutKept s (s.updArm a f) :=
  .of_inService (OneArm.updArm s a f).others hs (by rw [State.arm_updArm_self]; exact ht)

/-- An act on an arm in service that keeps its state. -/
theorem OutKept.of_standing {s t : State} {a : ArmId} (one : OneArm a s t) (hs : (s.arm a).state ≠ .out) (k : StandingKept s t) :
    OutKept s t := .of_inService one.others hs (by rw [k.state]; exact hs)

theorem OutKept.vent (s : State) (a : ArmId) (p : Nat) (hs : (s.arm a).state ≠ .out) : OutKept s (s.vent a p) :=
  .of_standing (.vent ..) hs (.vent ..)

theorem OutKept.ventThen (s : State) (a : ArmId) (p : Nat) {f : Arm → Arm} (hs : (s.arm a).state ≠ .out)
    (hf : ∀ c, c.state ≠ .out → (f c).state ≠ .out) : OutKept s ((s.vent a p).updArm a f) :=
  have hv : ((s.vent a p).arm a).state ≠ .out := by rw [(StandingKept.vent s a p).state]; exact hs
  .after (.updArm _ a hv (hf _ hv)) (.vent s a p hs)

theorem OutKept.recompute (s : State) (forced : Bool) (k : RecomputeClass) (a : ArmId) : OutKept s (s.recompute forced k a) := by
  by_cases h : (s.arm a).state = .engaged
  · exact .of_standing (.recompute ..) (by rw [h]; decide) (.recompute ..)
  · unfold State.recompute
    rw [if_neg h]
    exact .refl s

theorem OutKept.recomputeAll (s : State) (as : List ArmId) (forced : Bool) (k : RecomputeClass) :
    OutKept s (s.recomputeAll as forced k) := .foldl (fun s a => .recompute s forced k a) as s

/-- An arm with a request or move is in service. -/
theorem State.outIsIdle.inService {s : State} (h : s.outIsIdle) {a : ArmId} (hf : (s.arm a).flow ≠ .idle) :
    (s.arm a).state ≠ .out := fun k => hf (h a k)

/-- An act that acts on an arm with a request or move only. -/
theorem OutKept.of_flow {s t : State} {a : ArmId} (hf : (s.arm a).flow ≠ .idle) (k : (s.arm a).state ≠ .out → OutKept s t) :
    OutKept s t :=
  ⟨fun hs => (k (hs.inService hf)).out hs, fun hs => (k (hs.inService hf)).idle hs⟩

theorem OutKept.grant (s : State) (a : ArmId) : OutKept s (s.grant a) := by
  cases hflow : (s.arm a).flow with
  | waiting q =>
    refine .of_flow (a := a) (by rw [hflow]; nofun) fun hs => .of_inService (grant_others s a) hs ?_
    rw [(StandingKept.grant s a).state]
    exact hs
  | idle => rw [grant_of_not_waiting (by rw [hflow]; rfl)]; exact .refl s
  | inFlight q g w => rw [grant_of_not_waiting (by rw [hflow]; rfl)]; exact .refl s
  | deferred v w => rw [grant_of_not_waiting (by rw [hflow]; rfl)]; exact .refl s

theorem state_leave (c : Arm) : c.leave.state = c.state := by
  unfold Arm.leave
  split <;> rfl

theorem OutKept.toStandby (s : State) (a : ArmId) : OutKept s (s.toStandby a) := by
  unfold State.toStandby
  split
  · exact .refl s
  · exact .refl s
  · rename_i hout
    exact .ventThen s a _ hout fun _ _ => by nofun

theorem OutKept.startLift (s : State) (a : ArmId) (aperture : Nat) (t : Option Tag) (wake : Bool) (hs : (s.arm a).state ≠ .out) :
    OutKept s ((s.updArm a fun c => c.startLift aperture t).newLift a aperture wake) := by
  refine .after (.ite (fun _ => .updArm _ a ?_ ?_) fun _ => .of_standing (.enterRequest ..) ?_ (.enterRequest ..))
    (.updArm s a hs (by nofun))
  all_goals rw [State.arm_updArm_self]; nofun

theorem OutKept.relift (s : State) (aperture : Nat) (t : Option Tag) (a : ArmId) (hs : (s.arm a).state ≠ .out) :
    OutKept s (s.relift aperture t a) := by
  unfold State.relift
  split
  · exact .updArm s a hs hs
  · exact .ite (fun _ => .updArm s a hs hs) fun _ => .updArm s a hs hs
  · exact .updArm s a hs hs
  · exact .startLift s a aperture t false hs

theorem OutKept.liftEngaged (s : State) (aperture : Nat) (t : Option Tag) (a : ArmId) (hs : (s.arm a).state ≠ .out) :
    OutKept s (s.liftEngaged aperture t a) := by
  unfold State.liftEngaged
  split
  · refine .after (.of_standing (.replaceRequest ..) ?_ (.replaceRequest ..)) (.updArm s a hs (by nofun))
    rw [State.arm_updArm_self]
    nofun
  · exact .after (.startLift _ a aperture t false hs) (.of_arms (s := s) (t := s.leaveFlow a) rfl)
  · exact .startLift s a aperture t false hs
  · exact .startLift s a aperture t false hs

theorem OutKept.liftInService (s : State) (aperture : Nat) (t : Option Tag) (a : ArmId) :
    OutKept s (s.liftInService aperture t a) := by
  by_cases hs : (s.arm a).state = .out
  · unfold State.liftInService
    rw [hs]
    exact .refl s
  · unfold State.liftInService
    split
    · exact .refl s
    · exact .startLift s a aperture t true hs
    · exact .startLift s a aperture t false hs
    · exact .startLift s a aperture t false hs
    · exact .startLift s a aperture t false hs
    · exact .liftEngaged s aperture t a hs
    · exact .relift s aperture t a hs
    · exact .ite (fun _ => .updArm s a hs hs) fun _ => .startLift s a aperture t false hs

theorem OutKept.enterArm (q : Record) (s : State) (a : ArmId) : OutKept s (s.enterArm q a) := by
  unfold State.enterArm
  split
  · rename_i h
    exact .updArm s a (by rw [h]; decide) (by nofun)
  · exact .refl s
  · rename_i hout
    exact .ventThen s a 0 hout fun _ _ => by nofun

theorem OutKept.releaseArm (t : Tag) (s : State) (a : ArmId) : OutKept s (s.releaseArm t a) :=
  .ite (fun h => .ventThen s a _ (by rw [h.1]; decide) fun _ _ => by nofun) fun _ => .refl s

theorem OutKept.beginHold (s : State) (a : ArmId) : OutKept s (s.beginHold a) := by
  unfold State.beginHold
  split
  · exact .refl s
  · exact .refl s
  · rename_i hout
    exact .ventThen s a 0 hout fun _ hc => hc

theorem OutKept.endHold (s : State) (a : ArmId) : OutKept s (s.endHold a) := by
  unfold State.endHold
  split
  · rename_i hflow
    exact .of_flow (a := a) (by rw [hflow]; nofun) fun hs => .of_standing (.enterRequest ..) hs (.enterRequest ..)
  · exact .recompute ..

theorem ArmAct.outKept {s t : State} (h : ArmAct s t) : OutKept s t := by
  cases h with
  | recompute forced k a => exact .recompute s forced k a
  | grant a _ => exact .grant s a
  | elevate f _ => exact .of_arms rfl
  | toStandby a => exact .toStandby s a
  | park a => exact .ite (fun h => .updArm s a (by rw [h]; decide) (by nofun)) fun _ => .refl s
  | lift aperture t a => exact .liftInService s aperture t a
  | enter q a => exact .enterArm q s a
  | release t a => exact .releaseArm t s a
  | newRelease a => exact .ite (fun h => .ventThen s a _ (by rw [h]; decide) fun _ hc => hc) fun _ => .refl s
  | complete a q granted timeout hflow =>
    refine .of_flow (a := a) (by rw [hflow]; nofun) fun hs =>
      .after (.updArm _ a hs ?_) (.of_arms (s := s) (t := s.leaveFlow a) rfl)
    show ((s.arm a).completed q.kind).state ≠ .out
    cases q.kind with
    | charge => exact hs
    | lift => nofun
  | minor a c hstate hflow _ =>
    constructor
    · intro _ b
      rw [State.arm_setArm]
      split
      · rename_i hab; rw [hstate, hab]
      · exact Iff.rfl
    · intro hs b
      rw [State.arm_setArm]
      split
      · rename_i hab; rw [hstate, hflow, hab]; exact hs b
      · exact hs b

theorem OutKept.deliverLevel (s : State) (old new : SupplyLevel) : OutKept s (s.deliverLevel old new) :=
  .ite (fun _ => .trans (.foldl .beginHold _ s) (.of_arms rfl))
    fun _ => .ite (fun _ => .trans (.foldl .endHold _ s) (.of_arms rfl)) fun _ => .refl s

theorem OutKept.leaveReady (s : State) (r : RotorId) : OutKept s (s.leaveReady r) :=
  .trans (t := (s.putHold (downCause r) true).flagRotorDown r) (.of_arms rfl)
    (.ite (fun _ => .refl _) fun _ => .foldl .beginHold _ _)

/-! ### The conditions of R170 -/

theorem activeCount_congr {s t : State} {r : RotorId} (h : ∀ a, rotorOf a = r → ((t.arm a).state = .out ↔ (s.arm a).state = .out)) :
    t.activeCount r = s.activeCount r := by
  unfold State.activeCount
  congr 1
  refine List.filter_congr fun a ha => ?_
  have hr : rotorOf a = r := by
    cases r <;> simp only [armsOf, List.mem_cons, List.not_mem_nil, or_false] at ha <;>
      obtain rfl | rfl | rfl | rfl | rfl := ha <;> rfl
  rw [bne, bne, Bool.not_inj_iff, Bool.eq_iff_iff, beq_iff_eq, beq_iff_eq]
  exact h a hr

theorem OutKept.activeCount {s t : State} (h : OutKept s t) (hs : s.outIsIdle) (r : RotorId) : t.activeCount r = s.activeCount r :=
  activeCount_congr fun a _ => h.out hs a

/-- What the conditions of R170 look at. -/
theorem conditions_congr {s t : State} (hmode : t.mode = s.mode) (hsupply : t.supply.level = s.supply.level)
    (hdrive : ∀ r, (t.rotor r).drive = (s.rotor r).drive) (hcount : ∀ r, t.activeCount r = s.activeCount r)
    (hqueue : t.queue.length = s.queue.length) (hlatch : t.latch = s.latch) : t.conditions = s.conditions := by
  have hdrive1 : t.rotor1.drive = s.rotor1.drive := hdrive .r1
  have hdrive2 : t.rotor2.drive = s.rotor2.drive := hdrive .r2
  unfold State.conditions
  rw [hmode, hsupply, hdrive1, hdrive2, hcount, hcount, hqueue, hlatch]

theorem conditions_of_flowOnly {s t : State} (h : FlowOnly s t) (k : OutKept s t) (hs : s.outIsIdle) :
    t.conditions = s.conditions :=
  conditions_congr h.mode (by rw [h.supply]) h.drive (k.activeCount hs) h.queue_length h.latch

/-- Requests, moves and targets leave the hold causes true. -/
theorem holdsStand_of_flowOnly {s t : State} (h : FlowOnly s t) (k : OutKept s t) (hs : s.holdsStand) : t.holdsStand :=
  ⟨by rw [h.holds, conditions_of_flowOnly h k hs.2]; exact hs.1, k.idle hs.2⟩

/-- What changes neither arms nor anything that the conditions look at leaves the hold causes true. -/
theorem holdsStand_congr {s t : State} (hs : s.holdsStand) (harms : t.arms = s.arms) (hholds : t.holds = s.holds)
    (hmode : t.mode = s.mode) (hsupply : t.supply.level = s.supply.level)
    (hdrive : ∀ r, (t.rotor r).drive = (s.rotor r).drive) (hqueue : t.queue.length = s.queue.length) (hlatch : t.latch = s.latch) :
    t.holdsStand :=
  have kept : OutKept s t := .of_arms harms
  ⟨by rw [hholds, conditions_congr hmode hsupply hdrive (kept.activeCount hs.2) hqueue hlatch]; exact hs.1, kept.idle hs.2⟩

/-! ### A changed count (R132, R169) -/

theorem HoldCauses.put_put (h : HoldCauses) (c : HoldCause) (b d : Bool) : (h.put c b).put c d = h.put c d := by
  cases c <;> rfl

theorem HoldCauses.put_get (h : HoldCauses) (c : HoldCause) : h.put c (h.get c) = h := by cases c <;> rfl

theorem conditions_get_unusable (s : State) (r : RotorId) :
    s.conditions.get (unusableCause r) = (usabilityOf (s.activeCount r) == .unusable) := by cases r <;> rfl

/-- The hold causes are those that stand, but for one rotor's UNUSABLE, which is that of an earlier active count. -/
def State.holdsBefore (s : State) (r : RotorId) (old : Nat) : Prop :=
  s.holds = s.conditions.put (unusableCause r) (usabilityOf old == .unusable)

theorem judgeUsability_holds {s : State} {r : RotorId} {old : Nat} (h : s.holdsBefore r old) :
    (s.judgeUsability r old).holds = s.conditions := by
  unfold State.judgeUsability
  dsimp only
  split
  · rename_i husable
    rw [h, ← husable, ← conditions_get_unusable, HoldCauses.put_get]
  · show s.holds.put _ _ = _
    rw [h, HoldCauses.put_put, ← conditions_get_unusable, HoldCauses.put_get]

theorem arms_judgeUsability (s : State) (r : RotorId) (old : Nat) : (s.judgeUsability r old).arms = s.arms := by
  unfold State.judgeUsability
  dsimp only
  split <;> rfl

theorem conditions_judgeUsability (s : State) (r : RotorId) (old : Nat) : (s.judgeUsability r old).conditions = s.conditions := by
  unfold State.judgeUsability
  dsimp only
  split <;> rfl

theorem conditions_mapQueue (s : State) (f : Record → Record) : (s.mapQueue f).conditions = s.conditions := by
  refine conditions_congr rfl rfl (fun _ => rfl) (fun _ => rfl) ?_ rfl
  exact List.length_map _

theorem holdsStand_countChanged {s : State} {r : RotorId} {old : Nat} (h : s.holdsBefore r old) (hout : s.outIsIdle) :
    (s.countChanged r old).holdsStand := by
  let u := s.mapQueue fun q => q.updView r (RotorView.lowerMinActive (s.activeCount r))
  have hu : u.conditions = s.conditions := conditions_mapQueue s _
  have before : u.holdsBefore r old := by
    unfold State.holdsBefore
    rw [hu]
    exact h
  refine holdsStand_of_flowOnly (s := u.judgeUsability r old) (.recomputeAll ..) (.recomputeAll ..) ⟨?_, ?_⟩
  · rw [judgeUsability_holds before, conditions_judgeUsability]
  · exact (OutKept.of_arms (arms_judgeUsability u r old)).idle hout

/-- The hold causes after one arm's going or return, before its count is delivered. -/
theorem holdsBefore_of_oneArm {s t : State} {a : ArmId} (h : FlowOnly s t) (one : ∀ b, b ≠ a → t.arm b = s.arm b) (hs : s.holdsStand) :
    t.holdsBefore (rotorOf a) (s.activeCount (rotorOf a)) := by
  have hcount : ∀ u, u ≠ rotorOf a → t.activeCount u = s.activeCount u := fun u hu =>
    activeCount_congr fun b hb => by rw [one b fun k => hu (by rw [← hb, k])]
  unfold State.holdsBefore
  rw [h.holds, hs.1]
  unfold State.conditions
  rw [h.mode, h.supply, h.queue_length, h.latch]
  have hdrive1 : t.rotor1.drive = s.rotor1.drive := h.drive .r1
  have hdrive2 : t.rotor2.drive = s.rotor2.drive := h.drive .r2
  rw [hdrive1, hdrive2]
  cases hr : rotorOf a with
  | r1 => rw [hcount .r2 (by rw [hr]; nofun)]; rfl
  | r2 => rw [hcount .r1 (by rw [hr]; nofun)]; rfl

theorem outIsIdle_of_oneArm {s t : State} {a : ArmId} (one : ∀ b, b ≠ a → t.arm b = s.arm b) (hs : s.outIsIdle)
    (ha : (t.arm a).state = .out → (t.arm a).flow = .idle) : t.outIsIdle := by
  intro b
  by_cases hb : b = a
  · subst hb; exact ha
  · rw [one b hb]; exact hs b

theorem CountAct.keeps_holdsStand {s t : State} (h : CountAct s t) (hs : s.holdsStand) : t.holdsStand := by
  cases h with
  | putOut a cause =>
    unfold State.putOut
    split
    · rename_i hout
      refine holdsStand_of_flowOnly (.updArm s a _) ⟨fun _ b => ?_, fun _ => ?_⟩ hs
      · rw [State.arm_updArm]
        split
        · rename_i hab; rw [← hab]
        · exact Iff.rfl
      · refine outIsIdle_of_oneArm (OneArm.updArm s a _).others hs.2 fun _ => ?_
        rw [State.arm_updArm_self]
        exact hs.2 a hout
    · have one := (OneArm.vent s a 0).trans (.updArm (s.vent a 0) a fun c => { c.leave with
        state := .out, outCause := some cause, returnPending := false, inserted := false, tag := none, target := 0, aperture := 0
        valve := .deEnergized })
      refine holdsStand_countChanged (holdsBefore_of_oneArm (.trans (.vent s a 0) (.updArm ..)) one.others hs) ?_
      refine outIsIdle_of_oneArm one.others hs.2 fun _ => ?_
      rw [State.arm_updArm_self]
      show ((s.vent a 0).arm a).leave.flow = .idle
      unfold Arm.leave
      split <;> exact (congrArg Arm.flow (arm_self_of_set (arms_vent s a 0)))
  | returnToStandby a =>
    let u := s.updArm a fun c =>
      { c with state := .standby, outCause := none, returnPending := false, inserted := false, valve := .energized }
    have one : OneArm a s (u.toStandby a) := .after (.toStandby u a) (.updArm s a _)
    refine holdsStand_countChanged (holdsBefore_of_oneArm (.trans (.updArm s a _) (.toStandby u a)) one.others hs) ?_
    have hu : u.outIsIdle := outIsIdle_of_oneArm (OneArm.updArm s a _).others hs.2 fun h => by
      rw [State.arm_updArm_self] at h
      exact nomatch h
    exact (OutKept.toStandby u a).idle hu
  | returnForLift a _ =>
    have one := OneArm.updArm s a fun c => { c with state := .parked, outCause := none, returnPending := false, inserted := false }
    refine holdsStand_countChanged (holdsBefore_of_oneArm (.updArm s a _) one.others hs) ?_
    refine outIsIdle_of_oneArm one.others hs.2 fun h => ?_
    rw [State.arm_updArm_self] at h
    exact nomatch h

/-! ### The transit queue -/

/-- The state without the queue, the marks and the hold causes, which a change of the queue may touch. -/
def State.withoutQueue (s : State) : State :=
  { s with queue := [], holds := .reset, feed := { s.feed with marks := .empty } }

/-- The hold causes that stand after a change of the queue's length and of TRANSIT_FULL with it (R170). -/
theorem holdsStand_of_queue {s t : State} {b : Bool} (h : t.withoutQueue = s.withoutQueue) (hholds : t.holds = s.holds.put .transitFull b)
    (hb : b = decide (6 ≤ t.queue.length)) (hs : s.holdsStand) : t.holdsStand := by
  have harms : t.arms = s.arms := by have k := congrArg State.arms h; exact k
  have kept : OutKept s t := .of_arms harms
  refine ⟨?_, kept.idle hs.2⟩
  have hmode : t.mode = s.mode := by have k := congrArg State.mode h; exact k
  have hsupply : t.supply = s.supply := by have k := congrArg State.supply h; exact k
  have hrotor1 : t.rotor1 = s.rotor1 := by have k := congrArg State.rotor1 h; exact k
  have hrotor2 : t.rotor2 = s.rotor2 := by have k := congrArg State.rotor2 h; exact k
  have hlatch : t.latch = s.latch := by have k := congrArg State.latch h; exact k
  rw [hholds, hs.1, hb]
  unfold State.conditions
  rw [hmode, hsupply, hrotor1, hrotor2, hlatch, kept.activeCount hs.2, kept.activeCount hs.2]
  rfl

theorem conditions_full {s : State} (hs : s.holdsStand) : s.holds.transitFull = decide (6 ≤ s.queue.length) := by
  have k := congrArg HoldCauses.transitFull hs.1
  exact k

/-- TRANSIT_FULL as it stands, put again. -/
theorem put_transitFull (h : HoldCauses) {b : Bool} (hb : h.transitFull = b) : h.put .transitFull b = h := by
  subst hb; rfl

theorem withoutQueue_dropMarks (s : State) (t : Tag) : (s.dropMarks t).withoutQueue = s.withoutQueue := rfl

theorem QueueAct.keeps_holdsStand {s t : State} (h : QueueAct s t) (hs : s.holdsStand) : t.holdsStand := by
  have full := conditions_full hs
  cases h with
  | change f _ => exact holdsStand_congr hs rfl rfl rfl rfl (fun _ => rfl) (List.length_map _) rfl
  | append q hroom _ _ =>
    have hlen : (s.queue ++ [q]).length = s.queue.length + 1 := by simp
    have hmax : maxRecords = 6 := rfl
    split
    · rename_i hfull
      refine holdsStand_of_queue (s := s) (b := true) rfl rfl ?_ hs
      exact (decide_eq_true (by rw [← hmax]; exact hfull)).symm
    · rename_i hfull
      refine holdsStand_of_queue (s := s) (b := false) rfl (put_transitFull _ ?_).symm ?_ hs
      · rw [full]; exact decide_eq_false (by omega)
      · exact (decide_eq_false (by rw [← hmax]; exact hfull)).symm
  | remove t =>
    let u : State := { s with queue := s.queue.filter fun q => q.tag != t }.dropMarks t
    have hdrop : u.withoutQueue = s.withoutQueue := withoutQueue_dropMarks _ t
    have hle : u.queue.length ≤ s.queue.length := List.length_filter_le _ _
    show (if u.queue.length < 6 then u.putHold .transitFull false else u).holdsStand
    split
    · rename_i hroom
      exact holdsStand_of_queue (t := u.putHold .transitFull false) hdrop rfl (decide_eq_false (Nat.not_le.2 hroom)).symm hs
    · rename_i hroom
      have hfull : 6 ≤ u.queue.length := Nat.not_lt.1 hroom
      refine holdsStand_of_queue (t := u) hdrop (put_transitFull _ ?_).symm (decide_eq_true hfull).symm hs
      exact full.trans (decide_eq_true (Nat.le_trans hfull hle))

/-! ### The latch, the mode, the supply and the drives -/

theorem conditions_setRotor (s : State) (r : RotorId) (x : Rotor) :
    (s.setRotor r x).conditions = s.conditions.put (downCause r) (x.drive != .ready) := by cases r <;> rfl

/-- A condition changes, requests and moves follow, and its hold cause is put to it. -/
theorem holdsStand_of_changed {s u v t : State} {c : HoldCause} {b : Bool} (hs : s.holdsStand)
    (hu : u.conditions = s.conditions.put c b) (harms : u.arms = s.arms) (hflow : FlowOnly u v) (kept : OutKept u v)
    (ht : t.conditions = v.conditions) (htarms : t.arms = v.arms) (hholds : t.holds = s.holds.put c b) : t.holdsStand := by
  have huout : u.outIsIdle := (OutKept.of_arms harms).idle hs.2
  refine ⟨?_, (OutKept.of_arms htarms).idle (kept.idle huout)⟩
  rw [hholds, ht, conditions_of_flowOnly hflow kept huout, hu, hs.1]

theorem conditions_flagStall (s : State) : s.flagStall.conditions = s.conditions := conditions_mapQueue s _

theorem conditions_flagRotorDown (s : State) (r : RotorId) : (s.flagRotorDown r).conditions = s.conditions :=
  conditions_mapQueue s _

theorem HoldAct.keeps_holdsStand {s t : State} (h : HoldAct s t) (hs : s.holdsStand) : t.holdsStand := by
  cases h with
  | latch b => 
    let u : State := { s with latch := b }
    exact holdsStand_of_changed (u := u) (c := .trackFault) (b := b) hs rfl rfl (.refl u) (.refl u) rfl rfl rfl
  | mode m => exact ⟨by show s.holds.forMode m = _; rw [hs.1]; rfl, hs.2⟩
  | level new =>
    let u : State := { s with
      supply := { s.supply with level := new }
      arbiter := { s.arbiter with slots := slotsFor s.geometry new } }
    have changed : u.conditions = s.conditions.put .supplyCritical (new == .critical) := rfl
    show (u.deliverLevel s.supply.level new).holdsStand
    unfold State.deliverLevel
    split
    · rename_i hnew
      subst hnew
      have hflow : FlowOnly u (u.readyArms.foldl State.beginHold u) := .foldl .beginHold _ u
      have flagged := conditions_flagStall (u.readyArms.foldl State.beginHold u)
      refine holdsStand_of_changed hs changed rfl hflow (.foldl .beginHold _ u) flagged rfl ?_
      exact congrArg (fun h : HoldCauses => h.put .supplyCritical true) hflow.holds
    · rename_i hnew
      have hlevel : (new == SupplyLevel.critical) = false := beq_eq_false_iff_ne.2 hnew
      rw [hlevel] at changed
      split
      · have hflow : FlowOnly u (u.readyArms.foldl State.endHold u) := .foldl .endHold _ u
        refine holdsStand_of_changed hs changed rfl hflow (.foldl .endHold _ u) rfl rfl ?_
        exact congrArg (fun h : HoldCauses => h.put .supplyCritical false) hflow.holds
      · rename_i hold
        refine holdsStand_of_changed hs changed rfl (.refl u) (.refl u) rfl rfl ?_
        have hfalse : s.holds.get .supplyCritical = false := by rw [hs.1]; exact beq_eq_false_iff_ne.2 hold
        rw [← hfalse, HoldCauses.put_get]
  | spin r x hold hnew =>
    have changed := conditions_setRotor s r x
    refine holdsStand_of_changed hs changed (arms_setRotor s r x) (.refl _) (.refl _) rfl rfl ?_
    have hdown : s.holds.get (downCause r) = (x.drive != .ready) := by
      rw [hs.1, bne_iff_ne.2 hnew]
      cases r <;> exact bne_iff_ne.2 hold
    rw [← hdown, HoldCauses.put_get]
    exact State.holds_setRotor s r x
  | down r x hnew =>
    let u : State := ((s.setRotor r x).putHold (downCause r) true).flagRotorDown r
    have changed : u.conditions = s.conditions.put (downCause r) true := by
      have k := conditions_setRotor s r x
      rw [bne_iff_ne.2 hnew] at k
      exact (conditions_flagRotorDown ((s.setRotor r x).putHold (downCause r) true) r).trans k
    have hholds : u.holds = s.holds.put (downCause r) true :=
      congrArg (fun h : HoldCauses => h.put (downCause r) true) (State.holds_setRotor s r x)
    show (if u.supply.level = .critical then u else (armsOf r).foldl State.beginHold u).holdsStand
    split
    · exact holdsStand_of_changed hs changed (arms_setRotor s r x) (.refl u) (.refl u) rfl rfl hholds
    · have hflow : FlowOnly u ((armsOf r).foldl State.beginHold u) := .foldl .beginHold _ u
      exact holdsStand_of_changed hs changed (arms_setRotor s r x) hflow (.foldl .beginHold _ u) rfl rfl (hflow.holds.trans hholds)
  | ready r x hnew =>
    let u : State := ((s.setRotor r x).putHold (downCause r) false).raise .rotor
    have changed : u.conditions = s.conditions.put (downCause r) false := by
      have k := conditions_setRotor s r x
      rw [hnew] at k
      exact k
    have hholds : u.holds = s.holds.put (downCause r) false :=
      congrArg (fun h : HoldCauses => h.put (downCause r) false) (State.holds_setRotor s r x)
    show (if u.supply.level = .critical then u else (armsOf r).foldl State.endHold u).holdsStand
    split
    · exact holdsStand_of_changed hs changed (arms_setRotor s r x) (.refl u) (.refl u) rfl rfl hholds
    · have hflow : FlowOnly u ((armsOf r).foldl State.endHold u) := .foldl .endHold _ u
      exact holdsStand_of_changed hs changed (arms_setRotor s r x) hflow (.foldl .endHold _ u) rfl rfl (hflow.holds.trans hholds)

/-! ### Every act -/

theorem holdsStand_resetBlocks (s : State) (x : RawLevels) : (s.resetBlocks x).holdsStand := by
  constructor
  · obtain ⟨infeed, outfeed, speed1, speed2⟩ := x
    cases speed1 <;> cases speed2 <;> rfl
  · intro a _
    cases a <;> rfl

/-- Every elementary act keeps the hold causes those that stand. -/
theorem Act.keeps_holdsStand {w : Prop} (s t : State) (h : Act w s t) (hs : s.holdsStand) : t.holdsStand := by
  cases h with
  | unseen k =>
    have harms := congrArg State.arms k
    have hholds := congrArg State.holds k
    have hmode := congrArg State.mode k
    have hsupply := congrArg (fun x : State => x.supply.level) k
    have hqueue := congrArg (fun x : State => x.queue.length) k
    have hlatch := congrArg State.latch k
    refine holdsStand_congr hs harms hholds hmode hsupply (fun r => ?_) hqueue hlatch
    cases r with
    | r1 => have k1 := congrArg (fun x : State => x.rotor1.drive) k; exact k1
    | r2 => have k2 := congrArg (fun x : State => x.rotor2.drive) k; exact k2
  | arm k => exact holdsStand_of_flowOnly k.flowOnly k.outKept hs
  | count k => exact k.keeps_holdsStand hs
  | queue k => exact k.keeps_holdsStand hs
  | hold k => exact k.keeps_holdsStand hs
  | reset x => exact holdsStand_resetBlocks s x
  | geometry g _ => exact hs
  | species v _ => exact hs
  | ram m _ _ => exact hs
  | eeprom m _ => exact hs
  | manifest m _ _ => exact hs
  | cfg x _ _ => exact hs
  | quality x _ => exact hs
  | registers c e r _ _ _ => exact hs

/-- Settles O55: by the elementary acts of a step; a rotor's UNUSABLE follows its active count, TRANSIT_FULL the queue's length, and the
other causes are put where their condition changes. -/
theorem everyStepKeepsTheHoldCausesTrue : Obligations.EveryStepKeepsTheHoldCausesTrue :=
  ⟨fun _ _ hs ht => step_keeps Act.keeps_holdsStand hs ht, fun s hs => by unfold State.feedHold; rw [hs.1]⟩

end Sys2Proof.Machine
end

section
/-! PROOF. The agreement of arms and arbiter (R111, R112, R125, R136), arm by arm: an act on one arm leaves every other in agreement, and
each act leaves its own arm so. -/

namespace Sys2Proof.Machine

/-! ### Agreement of one arm -/

/-- The flow state of an arm fits its state, and the arbiter's lists name the arm as often as its flow state says. -/
structure Consistent (s : State) (a : ArmId) : Prop where
  fits : flowFits (s.arm a).state (s.arm a).flow = true
  waits : (s.waitOf a).length = (s.arm a).flow.isWaiting.toNat
  moves : s.arbiter.inFlight.count a = (s.arm a).flow.isInFlight.toNat

/-- Under vent hold the arm has no request and no move. -/
def HeldQuiet (s : State) (a : ArmId) : Prop :=
  s.ventHeld a = true → (s.arm a).flow.isWaiting = false ∧ (s.arm a).flow.isInFlight = false

/-- An arm agrees with the arbiter and with its vent hold. -/
structure AgreesAt (s : State) (a : ArmId) : Prop extends Consistent s a where
  quiet : HeldQuiet s a

theorem length_waitOf (s : State) (a : ArmId) : (s.waitOf a).length = (s.arbiter.wait.map WaitEntry.arm).count a := by
  unfold State.waitOf
  rw [List.count_eq_countP, List.countP_map, List.countP_eq_length_filter]
  rfl

/-- A list names each element as often as a predicate says, once or not at all. -/
theorem count_iff_nodup (l : List ArmId) (p : ArmId → Bool) :
    (∀ a, l.count a = (p a).toNat) ↔ l.Nodup ∧ ∀ a, a ∈ l ↔ p a = true := by
  constructor
  · intro h
    refine ⟨List.nodup_iff_count_le_one.2 fun a => by rw [h]; exact Bool.toNat_le _, fun a => ?_⟩
    rw [← List.count_pos_iff, h]
    cases p a <;> simp
  · rintro ⟨hnodup, hmem⟩ a
    rw [hnodup.count]
    cases hp : p a with
    | true => rw [if_pos ((hmem a).2 hp)]; rfl
    | false => rw [if_neg fun k => by rw [(hmem a).1 k] at hp; exact nomatch hp]; rfl

theorem flowAgrees_iff (s : State) : s.flowAgrees ↔ ∀ a, AgreesAt s a := by
  have hwait := count_iff_nodup (s.arbiter.wait.map WaitEntry.arm) fun a => (s.arm a).flow.isWaiting
  have hmove := count_iff_nodup s.arbiter.inFlight fun a => (s.arm a).flow.isInFlight
  constructor
  · rintro ⟨hfits, hquiet, hwn, hmn, hwm, hmm⟩ a
    exact ⟨⟨hfits a, (length_waitOf s a).trans (hwait.2 ⟨hwn, hwm⟩ a), hmove.2 ⟨hmn, hmm⟩ a⟩, hquiet a⟩
  · intro h
    obtain ⟨hwn, hwm⟩ := hwait.1 fun a => (length_waitOf s a).symm.trans (h a).waits
    obtain ⟨hmn, hmm⟩ := hmove.1 fun a => (h a).moves
    exact ⟨fun a => (h a).fits, fun a => (h a).quiet, hwn, hmn, hwm, hmm⟩

/-- What agreement looks at. -/
theorem Consistent.congr {s t : State} {a : ArmId} (h : Consistent s a) (hstate : (t.arm a).state = (s.arm a).state)
    (hflow : (t.arm a).flow = (s.arm a).flow) (hwaits : (t.waitOf a).length = (s.waitOf a).length)
    (hmoves : t.arbiter.inFlight.count a = s.arbiter.inFlight.count a) : Consistent t a :=
  ⟨by rw [hstate, hflow]; exact h.fits, by rw [hflow, hwaits]; exact h.waits, by rw [hflow, hmoves]; exact h.moves⟩

theorem HeldQuiet.congr {s t : State} {a : ArmId} (h : HeldQuiet s a) (hflow : (t.arm a).flow = (s.arm a).flow)
    (hheld : t.ventHeld a = s.ventHeld a) : HeldQuiet t a := by
  unfold HeldQuiet
  rw [hflow, hheld]
  exact h

/-- Acts on the indications of an arm, and on what is no arm's. -/
theorem AgreesAt.congr {s t : State} {a : ArmId} (h : AgreesAt s a) (hstate : (t.arm a).state = (s.arm a).state)
    (hflow : (t.arm a).flow = (s.arm a).flow) (harbiter : t.arbiter = s.arbiter) (hheld : t.ventHeld a = s.ventHeld a) :
    AgreesAt t a :=
  ⟨h.toConsistent.congr hstate hflow (by unfold State.waitOf; rw [harbiter]) (by rw [harbiter]), h.quiet.congr hflow hheld⟩

theorem OneArm.count_moves {a b : ArmId} {s t : State} (h : OneArm a s t) (hb : b ≠ a) :
    t.arbiter.inFlight.count b = s.arbiter.inFlight.count b := by
  obtain hm | hm := h.moves
  · rw [hm]
  · rw [hm, List.count_filter (by simpa using hb)]

theorem Consistent.other {a b : ArmId} {s t : State} (h : Consistent s b) (one : OneArm a s t) (hb : b ≠ a) : Consistent t b :=
  h.congr (by rw [one.others b hb]) (by rw [one.others b hb]) (by rw [one.waits b hb]) (one.count_moves hb)

theorem HeldQuiet.other {a b : ArmId} {s t : State} (h : HeldQuiet s b) (one : OneArm a s t) (flow : FlowOnly s t) (hb : b ≠ a) :
    HeldQuiet t b := h.congr (by rw [one.others b hb]) (flow.ventHeld b)

theorem AgreesAt.other {a b : ArmId} {s t : State} (h : AgreesAt s b) (one : OneArm a s t) (flow : FlowOnly s t) (hb : b ≠ a) :
    AgreesAt t b := ⟨h.toConsistent.other one hb, h.quiet.other one flow hb⟩

/-! ### Agreement by flow state -/

/-- The arbiter's lists do not name the arm. -/
structure Unlisted (s : State) (a : ArmId) : Prop where
  waits : s.waitOf a = []
  moves : s.arbiter.inFlight.count a = 0

theorem Unlisted.congr {s t : State} {a : ArmId} (h : Unlisted s a) (harbiter : t.arbiter = s.arbiter) : Unlisted t a :=
  ⟨by unfold State.waitOf; rw [harbiter]; exact h.waits, by rw [harbiter]; exact h.moves⟩

theorem unlisted_leaveFlow (s : State) (a : ArmId) : Unlisted (s.leaveFlow a) a where
  waits := by
    show (s.arbiter.wait.filter fun e => e.arm != a).filter (fun e => e.arm == a) = []
    rw [List.filter_filter]
    exact List.filter_eq_nil_iff.2 fun e _ => by cases h : e.arm == a <;> simp [bne, h]
  moves := by
    show (s.arbiter.inFlight.filter fun b => b != a).count a = 0
    exact List.count_eq_zero.2 fun h => by simpa using (List.mem_filter.1 h).2

theorem unlisted_vent (s : State) (a : ArmId) (p : Nat) : Unlisted (s.vent a p) a := (unlisted_leaveFlow s a).congr rfl

theorem Consistent.unlisted {s : State} {a : ArmId} (h : Consistent s a) (hwait : (s.arm a).flow.isWaiting = false)
    (hmove : (s.arm a).flow.isInFlight = false) : Unlisted s a :=
  ⟨List.eq_nil_of_length_eq_zero (by rw [h.waits, hwait]; rfl), by rw [h.moves, hmove]; rfl⟩

/-- An arm without request, move or deferred lift, in no state LIFTING. -/
theorem AgreesAt.of_idle {s : State} {a : ArmId} (hu : Unlisted s a) (hflow : (s.arm a).flow = .idle)
    (hstate : (s.arm a).state ≠ .lifting) : AgreesAt s a := by
  refine ⟨⟨?_, by rw [hflow, hu.waits]; rfl, by rw [hflow, hu.moves]; rfl⟩, fun _ => by rw [hflow]; exact ⟨rfl, rfl⟩⟩
  rw [hflow]
  generalize (s.arm a).state = st at hstate
  cases st with
  | lifting => exact absurd rfl hstate
  | _ => rfl

theorem AgreesAt.of_deferred {s : State} {a : ArmId} {v : Nat} {w : Bool} (hu : Unlisted s a) (hflow : (s.arm a).flow = .deferred v w)
    (hstate : (s.arm a).state = .lifting) : AgreesAt s a :=
  ⟨⟨by rw [hflow, hstate]; rfl, by rw [hflow, hu.waits]; rfl, by rw [hflow, hu.moves]; rfl⟩,
    fun _ => by rw [hflow]; exact ⟨rfl, rfl⟩⟩

/-- A request entered for an arm that the arbiter does not name. -/
theorem AgreesAt.enterRequest {s : State} {a : ArmId} {q : FlowRequest} (hu : Unlisted s a)
    (hfits : flowFits (s.arm a).state (.waiting q) = true) (hheld : s.ventHeld a = false) : AgreesAt (s.enterRequest a q) a := by
  have harm : (s.enterRequest a q).arm a = { s.arm a with flow := .waiting q } := arm_self_of_set (arms_enterRequest s a q)
  refine ⟨⟨by rw [harm]; exact hfits, ?_, ?_⟩, fun h => ?_⟩
  · rw [harm]
    show ((s.arbiter.wait ++ [WaitEntry.mk a s.now false]).filter fun e => e.arm == a).length = 1
    have hnil : s.arbiter.wait.filter (fun e => e.arm == a) = [] := hu.waits
    rw [List.filter_append, hnil]
    simp
  · rw [harm]; exact hu.moves
  · rw [(FlowOnly.enterRequest s a q).ventHeld, hheld] at h
    exact nomatch h

theorem length_waitOf_replaceRequest (s : State) (a : ArmId) (old new : FlowRequest) :
    ((s.replaceRequest a old new).waitOf a).length = (s.waitOf a).length := by
  unfold State.replaceRequest
  dsimp only
  split
  · rfl
  · rw [length_waitOf, length_waitOf]
    congr 1
    show ((s.arbiter.wait.map _).map WaitEntry.arm) = _
    rw [List.map_map]
    refine List.map_congr_left fun e _ => ?_
    show (if _ then _ else e : WaitEntry).arm = _
    split <;> rfl

theorem inFlight_replaceRequest (s : State) (a : ArmId) (old new : FlowRequest) :
    (s.replaceRequest a old new).arbiter.inFlight = s.arbiter.inFlight := by
  unfold State.replaceRequest
  dsimp only
  split <;> rfl

/-- A request replaced in place. -/
theorem AgreesAt.replaceRequest {s : State} {a : ArmId} {old new : FlowRequest} (hwaits : (s.waitOf a).length = 1)
    (hmoves : s.arbiter.inFlight.count a = 0) (hheld : s.ventHeld a = false)
    (hfits : flowFits (s.arm a).state (.waiting new) = true) : AgreesAt (s.replaceRequest a old new) a := by
  have harm : (s.replaceRequest a old new).arm a = { s.arm a with flow := .waiting new } :=
    arm_self_of_set (arms_replaceRequest s a old new)
  refine ⟨⟨by rw [harm]; exact hfits, ?_, ?_⟩, fun h => ?_⟩
  · rw [harm, length_waitOf_replaceRequest]; exact hwaits
  · rw [harm, inFlight_replaceRequest]; exact hmoves
  · rw [(FlowOnly.replaceRequest s a old new).ventHeld, hheld] at h
    exact nomatch h

theorem AgreesAt.not_held {s : State} {a : ArmId} (h : AgreesAt s a)
    (hf : (s.arm a).flow.isWaiting = true ∨ (s.arm a).flow.isInFlight = true) : s.ventHeld a = false := by
  by_contra k
  obtain ⟨hw, hm⟩ := h.quiet (by simpa using k)
  rw [hw, hm] at hf
  simp at hf

/-- An arm vented and then changed, which keeps it without a flow state. -/
theorem AgreesAt.ventThen (s : State) (a : ArmId) (p : Nat) {f : Arm → Arm} (hflow : ∀ c, (f c).flow = c.flow)
    (hstate : (f ((s.vent a p).arm a)).state ≠ .lifting) : AgreesAt ((s.vent a p).updArm a f) a := by
  refine .of_idle ((unlisted_vent s a p).congr rfl) ?_ ?_
  · rw [State.arm_updArm_self, hflow, arm_self_of_set (arms_vent s a p)]
  · rw [State.arm_updArm_self]; exact hstate

theorem flow_leave (c : Arm) : c.leave.flow = c.flow := by
  unfold Arm.leave
  split <;> rfl

/-- The arm in a state that takes no flow state has none. -/
theorem Consistent.idle {s : State} {a : ArmId} (h : Consistent s a) (hl : (s.arm a).state ≠ .lifting)
    (he : (s.arm a).state ≠ .engaged) : (s.arm a).flow = .idle := by
  have k := h.fits
  generalize (s.arm a).state = st at k hl he
  generalize (s.arm a).flow = fl at k
  cases st with
  | lifting => exact absurd rfl hl
  | engaged => exact absurd rfl he
  | _ => cases fl with
    | idle => rfl
    | _ => exact nomatch k

theorem Consistent.unlisted_of_idle {s : State} {a : ArmId} (h : Consistent s a) (hf : (s.arm a).flow = .idle) : Unlisted s a :=
  h.unlisted (by rw [hf]; rfl) (by rw [hf]; rfl)

end Sys2Proof.Machine
end

section
/-! PROOF. Every act keeps arms and arbiter in agreement (R111, R112, R125, R136). -/

namespace Sys2Proof.Machine

/-! ### Requests and targets -/

theorem agreesAt_actOnTarget {s : State} {a : ArmId} (h : AgreesAt s a) (hs : (s.arm a).state = .engaged) (v : Nat)
    (cls : FlowClass) : AgreesAt (s.actOnTarget a v cls) a := by
  have vented : AgreesAt (s.vent a v) a := .of_idle (unlisted_vent s a v) (by rw [arm_self_of_set (arms_vent s a v)]) (by
    rw [(StandingKept.vent s a v).state, hs]; decide)
  have hfits := h.fits
  unfold State.actOnTarget
  dsimp only
  split
  · exact h
  rename_i hheld
  split
  · exact h
  split
  · rename_i hflow
    split
    · refine .enterRequest (h.unlisted_of_idle hflow) ?_ (by simpa using hheld)
      rw [hs]; rfl
    · exact vented
  · rename_i q hflow
    split
    · have hwaits := h.waits
      have hmoves := h.moves
      rw [hflow] at hwaits hmoves
      rw [hs, hflow] at hfits
      exact .replaceRequest hwaits hmoves (by simpa using hheld) (by rw [hs]; exact hfits)
    · exact vented
  · rename_i q g w hflow
    split
    · have hwaits := h.waits
      have hmoves := h.moves
      rw [hflow] at hwaits hmoves
      rw [hs, hflow] at hfits
      refine ⟨⟨?_, ?_, ?_⟩, ?_⟩
      · rw [State.arm_setArm_self]
        show flowFits (s.arm a).state (.inFlight { q with value := v } g w) = true
        rw [hs]; exact hfits
      · rw [State.arm_setArm_self]; exact hwaits
      · rw [State.arm_setArm_self]; exact hmoves
      · intro hh
        rw [(FlowOnly.setArm s a _).ventHeld] at hh
        exact absurd hh hheld
    · exact vented
  · exact h

theorem agreesAt_recompute {s : State} {a : ArmId} (h : AgreesAt s a) (forced : Bool) (k : RecomputeClass) :
    AgreesAt (s.recompute forced k a) a := by
  unfold State.recompute
  split
  · rename_i hs
    split
    · rename_i q _
      split
      · rename_i row v _ _
        unfold State.deliver
        split
        · exact h
        · have harm := State.arm_updArm_self s a fun c => { c with target := v }
          let u := (s.updArm a fun c => { c with target := v }).updView (rotorOf a) q.tag fun w =>
            { w with maxTarget := max w.maxTarget v }
          have hstate : (u.arm a).state = (s.arm a).state := by have k := congrArg Arm.state harm; exact k
          have hflow : (u.arm a).flow = (s.arm a).flow := by have k := congrArg Arm.flow harm; exact k
          exact agreesAt_actOnTarget (s := u) (h.congr hstate hflow rfl rfl) (hstate.trans hs) _ _
      · exact h
    · exact h
  · exact h

theorem agreesAt_grant {s : State} {a : ArmId} (h : AgreesAt s a) : AgreesAt (s.grant a) a := by
  cases hflow : (s.arm a).flow with
  | waiting q =>
    obtain ⟨harbiter, harms⟩ := grant_of_waiting hflow
    have harm := arm_self_of_set harms
    have hstate : ((s.grant a).arm a).state = (s.arm a).state := (StandingKept.grant s a).state a
    have hmove : ((s.grant a).arm a).flow = .inFlight q s.now (moveTimeout s.geometry q) := by
      rw [harm]
      unfold Arm.granted
      split <;> rfl
    have hheld := h.not_held (.inl (by rw [hflow]; rfl))
    have hfits := h.fits
    have hmoves := h.moves
    rw [hflow] at hfits hmoves
    refine ⟨⟨?_, ?_, ?_⟩, fun k => ?_⟩
    · rw [hstate, hmove]
      generalize (s.arm a).state = st at hfits
      cases st with
      | lifting => exact hfits
      | engaged => exact hfits
      | _ => exact nomatch hfits
    · rw [hmove]
      unfold State.waitOf
      rw [harbiter]
      exact congrArg List.length (unlisted_leaveFlow s a).waits
    · rw [hmove, harbiter]
      show (s.arbiter.inFlight ++ [a]).count a = 1
      have hzero : s.arbiter.inFlight.count a = 0 := hmoves
      rw [List.count_append, hzero]
      simp
    · rw [(FlowOnly.grant s a).ventHeld, hheld] at k
      exact nomatch k
  | idle => rw [grant_of_not_waiting (by rw [hflow]; rfl)]; exact h
  | inFlight q g w => rw [grant_of_not_waiting (by rw [hflow]; rfl)]; exact h
  | deferred v w => rw [grant_of_not_waiting (by rw [hflow]; rfl)]; exact h

/-! ### Lifts -/

theorem agreesAt_newLift {s : State} {a : ArmId} (hu : Unlisted s a) (hs : (s.arm a).state = .lifting) (aperture : Nat) (wake : Bool) :
    AgreesAt (s.newLift a aperture wake) a := by
  unfold State.newLift
  split
  · refine .of_deferred (v := aperture) (w := wake) (hu.congr rfl) ?_ ?_ <;> rw [State.arm_updArm_self]
    exact hs
  · rename_i hheld
    exact .enterRequest hu (by rw [hs]; rfl) (by simpa using hheld)

theorem agreesAt_startLift {s : State} {a : ArmId} (hu : Unlisted s a) (aperture : Nat) (t : Option Tag) (wake : Bool) :
    AgreesAt ((s.updArm a fun c => c.startLift aperture t).newLift a aperture wake) a :=
  agreesAt_newLift (s := s.updArm a fun c => c.startLift aperture t) (hu.congr rfl) (by rw [State.arm_updArm_self]; rfl) aperture wake

/-- The lift of an arm LIFTING takes its new aperture in place. -/
theorem agreesAt_updArm {s : State} {a : ArmId} (h : AgreesAt s a) {f : Arm → Arm} (hstate : (f (s.arm a)).state = (s.arm a).state)
    (hfits : flowFits (s.arm a).state (f (s.arm a)).flow = true)
    (hwait : (f (s.arm a)).flow.isWaiting = (s.arm a).flow.isWaiting)
    (hmove : (f (s.arm a)).flow.isInFlight = (s.arm a).flow.isInFlight) : AgreesAt (s.updArm a f) a := by
  refine ⟨⟨?_, ?_, ?_⟩, ?_⟩
  · rw [State.arm_updArm_self, hstate]; exact hfits
  · rw [State.arm_updArm_self, hwait]; exact h.waits
  · rw [State.arm_updArm_self, hmove]; exact h.moves
  · unfold HeldQuiet
    rw [State.arm_updArm_self, hwait, hmove]
    exact h.quiet

theorem agreesAt_relift {s : State} {a : ArmId} (h : AgreesAt s a) (hs : (s.arm a).state = .lifting) (aperture : Nat) (t : Option Tag) :
    AgreesAt (s.relift aperture t a) a := by
  have hfits := h.fits
  unfold State.relift
  split
  · rename_i q hflow
    rw [hs, hflow] at hfits
    exact agreesAt_updArm h rfl (by rw [hs]; exact hfits) (by rw [hflow]; rfl) (by rw [hflow]; rfl)
  · rename_i q g w hflow
    rw [hs, hflow] at hfits
    split
    · exact agreesAt_updArm h rfl h.fits rfl rfl
    · exact agreesAt_updArm h rfl (by rw [hs]; exact hfits) (by rw [hflow]; rfl) (by rw [hflow]; rfl)
  · rename_i v w hflow
    exact agreesAt_updArm h rfl (by rw [hs]; rfl) (by rw [hflow]; rfl) (by rw [hflow]; rfl)
  · rename_i hflow
    exact agreesAt_startLift (h.unlisted_of_idle hflow) aperture t false

theorem agreesAt_liftEngaged {s : State} {a : ArmId} (h : AgreesAt s a) (aperture : Nat) (t : Option Tag) :
    AgreesAt (s.liftEngaged aperture t a) a := by
  unfold State.liftEngaged
  split
  · rename_i q hflow
    have hwaits := h.waits
    have hmoves := h.moves
    rw [hflow] at hwaits hmoves
    refine .replaceRequest (s := s.updArm a fun c => c.startLift aperture t) hwaits hmoves
      (h.not_held (.inl (by rw [hflow]; rfl))) ?_
    rw [State.arm_updArm_self]
    rfl
  · exact agreesAt_startLift (unlisted_leaveFlow s a) aperture t false
  · rename_i hflow
    exact agreesAt_startLift (h.unlisted_of_idle hflow) aperture t false
  · rename_i v w hflow
    exact agreesAt_startLift (h.unlisted (by rw [hflow]; rfl) (by rw [hflow]; rfl)) aperture t false

theorem agreesAt_liftInService {s : State} {a : ArmId} (h : AgreesAt s a) (aperture : Nat) (t : Option Tag) :
    AgreesAt (s.liftInService aperture t a) a := by
  have free : (s.arm a).state ≠ .lifting → (s.arm a).state ≠ .engaged → Unlisted s a := fun hl he =>
    h.unlisted_of_idle (h.idle hl he)
  unfold State.liftInService
  split
  · exact h
  · rename_i hs; exact agreesAt_startLift (free (by rw [hs]; decide) (by rw [hs]; decide)) aperture t true
  · rename_i hs; exact agreesAt_startLift (free (by rw [hs]; decide) (by rw [hs]; decide)) aperture t false
  · rename_i hs; exact agreesAt_startLift (free (by rw [hs]; decide) (by rw [hs]; decide)) aperture t false
  · rename_i hs; exact agreesAt_startLift (free (by rw [hs]; decide) (by rw [hs]; decide)) aperture t false
  · exact agreesAt_liftEngaged h aperture t
  · rename_i hs; exact agreesAt_relift h hs aperture t
  · rename_i hs
    split
    · exact agreesAt_updArm h rfl h.fits rfl rfl
    · exact agreesAt_startLift (free (by rw [hs]; decide) (by rw [hs]; decide)) aperture t false

/-! ### Standby, entry and release -/

theorem agreesAt_toStandby {s : State} {a : ArmId} (h : (s.arm a).state = .parked ∨ (s.arm a).state = .out → AgreesAt s a) :
    AgreesAt (s.toStandby a) a := by
  unfold State.toStandby
  split
  · rename_i hs; exact h (.inl hs)
  · rename_i hs; exact h (.inr hs)
  · exact .ventThen s a _ flow_leave (by nofun)

theorem agreesAt_enterArm {s : State} {a : ArmId} (h : AgreesAt s a) (q : Record) : AgreesAt (s.enterArm q a) a := by
  unfold State.enterArm
  split
  · rename_i hs
    have hidle := h.idle (by rw [hs]; decide) (by rw [hs]; decide)
    refine .of_idle ((h.unlisted_of_idle hidle).congr rfl) ?_ ?_ <;> rw [State.arm_updArm_self]
    · exact hidle
    · nofun
  · exact h
  · exact .ventThen s a 0 flow_leave (by nofun)

/-- An act on an arm leaves arms and arbiter in agreement if it leaves that arm so. -/
theorem agrees_of_oneArm {s t : State} {a : ArmId} (h : ∀ b, AgreesAt s b) (one : OneArm a s t) (flow : FlowOnly s t)
    (ha : AgreesAt t a) (b : ArmId) : AgreesAt t b := by
  by_cases hb : b = a
  · subst hb; exact ha
  · exact (h b).other one flow hb

/-- A completed move leaves no arm LIFTING: a LIFT opens it, and a CHARGE is of an ENGAGED arm. -/
theorem state_completed {c : Arm} {q : FlowRequest} {g w : Nat} (h : flowFits c.state (.inFlight q g w) = true) :
    (c.completed q.kind).state ≠ .lifting := by
  unfold Arm.completed
  split
  · rename_i hkind
    intro hs
    rw [show c.state = .lifting from hs] at h
    have hlift : q.kind = .lift := beq_iff_eq.1 h
    rw [hlift] at hkind
    exact nomatch hkind
  · nofun

theorem ArmAct.keeps_agrees {s t : State} (h : ArmAct s t) (hs : ∀ b, AgreesAt s b) : ∀ b, AgreesAt t b := by
  have flow := h.flowOnly
  cases h with
  | recompute forced k a => exact agrees_of_oneArm hs (.recompute ..) flow (agreesAt_recompute (hs a) forced k)
  | grant a _ =>
    intro b
    by_cases hb : b = a
    · subst hb; exact agreesAt_grant (hs b)
    · cases hflow : (s.arm a).flow with
      | waiting q =>
        obtain ⟨harbiter, -⟩ := grant_of_waiting hflow
        have hb' : a ≠ b := Ne.symm hb
        refine ⟨(hs b).toConsistent.congr ?_ ?_ ?_ ?_, (hs b).quiet.congr ?_ (flow.ventHeld b)⟩
        · rw [grant_others s a b hb]
        · rw [grant_others s a b hb]
        · unfold State.waitOf
          rw [harbiter]
          exact congrArg List.length ((OneArm.leaveFlow s a).waits b hb)
        · rw [harbiter]
          show (s.arbiter.inFlight ++ [a]).count b = _
          rw [List.count_append, List.count_singleton]
          simp [hb']
        · rw [grant_others s a b hb]
      | idle => rw [grant_of_not_waiting (by rw [hflow]; rfl)]; exact hs b
      | inFlight q g w => rw [grant_of_not_waiting (by rw [hflow]; rfl)]; exact hs b
      | deferred v w => rw [grant_of_not_waiting (by rw [hflow]; rfl)]; exact hs b
  | elevate f harm =>
    intro b
    refine ⟨(hs b).toConsistent.congr rfl rfl ?_ rfl, (hs b).quiet⟩
    rw [length_waitOf, length_waitOf]
    show ((s.arbiter.wait.map f).map WaitEntry.arm).count b = _
    rw [List.map_map]
    congr 1
    exact List.map_congr_left fun e _ => harm e
  | toStandby a => exact agrees_of_oneArm hs (.toStandby ..) flow (agreesAt_toStandby fun _ => hs a)
  | park a =>
    refine agrees_of_oneArm hs (.park ..) flow ?_
    unfold State.park
    split
    · rename_i hst
      have hidle := (hs a).idle (by rw [hst]; decide) (by rw [hst]; decide)
      refine .of_idle (((hs a).unlisted_of_idle hidle).congr rfl) ?_ ?_ <;> rw [State.arm_updArm_self]
      · exact hidle
      · nofun
    · exact hs a
  | lift aperture t a => exact agrees_of_oneArm hs (.liftInService ..) flow (agreesAt_liftInService (hs a) aperture t)
  | enter q a => exact agrees_of_oneArm hs (.enterArm ..) flow (agreesAt_enterArm (hs a) q)
  | release t a =>
    refine agrees_of_oneArm hs (.releaseArm ..) flow ?_
    unfold State.releaseArm
    split
    · exact .ventThen s a _ flow_leave (by nofun)
    · exact hs a
  | newRelease a =>
    refine agrees_of_oneArm hs (.newRelease ..) flow ?_
    unfold State.newRelease
    split
    · rename_i hst
      refine .ventThen s a _ (fun _ => rfl) ?_
      show ((s.vent a _).arm a).state ≠ .lifting
      rw [(StandingKept.vent s a _).state, hst]
      decide
    · exact hs a
  | complete a q granted timeout hflow =>
    refine agrees_of_oneArm hs (.trans (.leaveFlow s a) (.updArm ..)) flow ?_
    have hfits := (hs a).fits
    rw [hflow] at hfits
    refine .of_idle ((unlisted_leaveFlow s a).congr rfl) ?_ ?_ <;> rw [State.arm_updArm_self]
    · cases q.kind <;> rfl
    · exact state_completed hfits
  | minor a c hstate hflow _ =>
    refine agrees_of_oneArm hs (.setArm ..) flow ((hs a).congr ?_ ?_ rfl (flow.ventHeld a)) <;> rw [State.arm_setArm_self]
    · exact hstate
    · exact hflow

end Sys2Proof.Machine
end

section
/-! PROOF. Arms and arbiter stay in agreement when an arm leaves or returns, and when vent hold begins and ends (R111, R112, R125, R126,
R136). -/

namespace Sys2Proof.Machine

/-! ### Leaving and returning -/

/-- An act that leaves arms, arbiter and vent hold alone. -/
theorem agrees_of_eq {s t : State} (hs : ∀ b, AgreesAt s b) (harms : t.arms = s.arms) (harbiter : t.arbiter = s.arbiter)
    (hheld : ∀ b, t.ventHeld b = s.ventHeld b) (b : ArmId) : AgreesAt t b :=
  (hs b).congr (by rw [State.arm_congr harms]) (by rw [State.arm_congr harms]) harbiter (hheld b)

theorem agrees_countChanged {s : State} (hs : ∀ b, AgreesAt s b) (r : RotorId) (old : Nat) : ∀ b, AgreesAt (s.countChanged r old) b := by
  have all : ∀ (as : List ArmId) (u : State), (∀ b, AgreesAt u b) → ∀ b, AgreesAt (u.recomputeAll as true .byPhase) b := by
    intro as
    induction as with
    | nil => exact fun _ hu => hu
    | cons a as ih => exact fun u hu => ih _ ((ArmAct.recompute u true .byPhase a).keeps_agrees hu)
  have judged : ∀ u : State, (∀ b, AgreesAt u b) → ∀ b, AgreesAt (u.judgeUsability r old) b := by
    intro u hu
    unfold State.judgeUsability
    dsimp only
    split
    · exact hu
    · exact agrees_of_eq hu rfl rfl fun _ => rfl
  exact all _ _ (judged _ (agrees_of_eq hs rfl rfl fun _ => rfl))

theorem CountAct.keeps_agrees {s t : State} (h : CountAct s t) (hs : ∀ b, AgreesAt s b) : ∀ b, AgreesAt t b := by
  cases h with
  | putOut a cause =>
    unfold State.putOut
    split
    · exact agrees_of_oneArm hs (.updArm s a _) (.updArm s a _) (agreesAt_updArm (hs a) rfl (hs a).fits rfl rfl)
    · let f : Arm → Arm := fun c => { c.leave with
        state := .out, outCause := some cause, returnPending := false, inserted := false, tag := none, target := 0, aperture := 0
        valve := .deEnergized }
      exact agrees_countChanged (s := (s.vent a 0).updArm a f) (agrees_of_oneArm hs (.trans (.vent s a 0) (.updArm ..))
        (.trans (.vent s a 0) (.updArm ..)) (.ventThen s a 0 flow_leave (by nofun))) _ _
  | returnToStandby a =>
    let u := s.updArm a fun c =>
      { c with state := .standby, outCause := none, returnPending := false, inserted := false, valve := .energized }
    have hstate : (u.arm a).state = .standby := by rw [State.arm_updArm_self]
    refine agrees_countChanged (s := u.toStandby a) (agrees_of_oneArm hs (.after (.toStandby u a) (.updArm s a _))
      (.trans (.updArm s a _) (.toStandby u a)) (agreesAt_toStandby ?_)) _ _
    rw [hstate]
    rintro (h | h) <;> exact nomatch h
  | returnForLift a hout =>
    have hidle := (hs a).idle (by rw [hout]; decide) (by rw [hout]; decide)
    let f : Arm → Arm := fun c => { c with state := .parked, outCause := none, returnPending := false, inserted := false }
    refine agrees_countChanged (s := s.updArm a f) (agrees_of_oneArm hs (.updArm s a _) (.updArm s a _) ?_) _ _
    refine .of_idle (((hs a).unlisted_of_idle hidle).congr rfl) ?_ ?_ <;> rw [State.arm_updArm_self]
    · exact hidle
    · nofun

/-! ### Vent hold -/

/-- An arm in no state LIFTING has no LIFT to keep. -/
theorem deferLift_eq_idle {st : ArmState} {fl : Flow} (hl : st ≠ .lifting) (hfits : flowFits st fl = true) : fl.deferLift = .idle := by
  cases st with
  | lifting => exact absurd rfl hl
  | engaged =>
    cases fl with
    | idle => rfl
    | deferred v w => exact nomatch hfits
    | waiting q =>
      have hcharge : q.kind = .charge := beq_iff_eq.1 hfits
      exact if_neg (by rw [hcharge]; decide)
    | inFlight q g w =>
      have hcharge : q.kind = .charge := beq_iff_eq.1 hfits
      exact if_neg (by rw [hcharge]; decide)
  | _ =>
    cases fl with
    | idle => rfl
    | _ => exact nomatch hfits

/-- What an arm keeps of its flow state under a hold fits its state: a LIFT is of an arm LIFTING. -/
theorem agreesAt_deferLift {s : State} {a : ArmId} {st : ArmState} {fl : Flow} (hu : Unlisted s a)
    (hflow : (s.arm a).flow = fl.deferLift) (hstate : (s.arm a).state = st) (hfits : flowFits st fl = true) : AgreesAt s a := by
  by_cases hl : st = .lifting
  · subst hl
    have deferred : ∃ v w, fl.deferLift = .deferred v w := by
      cases fl with
      | idle => exact nomatch hfits
      | deferred v w => exact ⟨v, w, rfl⟩
      | waiting q => exact ⟨q.value, q.wake, if_pos (beq_iff_eq.1 hfits)⟩
      | inFlight q g w => exact ⟨q.value, q.wake, if_pos (beq_iff_eq.1 hfits)⟩
    obtain ⟨v, w, hd⟩ := deferred
    exact .of_deferred hu (hflow.trans hd) hstate
  · exact .of_idle hu (hflow.trans (deferLift_eq_idle hl hfits)) (by rw [hstate]; exact hl)

theorem agreesAt_beginHold {s : State} {a : ArmId} (h : Consistent s a) : AgreesAt (s.beginHold a) a := by
  have still : (s.arm a).state = .parked ∨ (s.arm a).state = .out → AgreesAt s a := by
    intro hs
    have hidle := h.idle (by rintro k; rw [k] at hs; simp at hs) (by rintro k; rw [k] at hs; simp at hs)
    exact .of_idle (h.unlisted_of_idle hidle) hidle (by rintro k; rw [k] at hs; simp at hs)
  unfold State.beginHold
  split
  · rename_i hs; exact still (.inl hs)
  · rename_i hs; exact still (.inr hs)
  · let t := (s.vent a 0).updArm a fun c => { c with flow := (s.arm a).flow.deferLift }
    have hu : Unlisted t a := (unlisted_vent s a 0).congr rfl
    have hflow : (t.arm a).flow = (s.arm a).flow.deferLift := by rw [State.arm_updArm_self]
    have hstate : (t.arm a).state = (s.arm a).state := by
      rw [State.arm_updArm_self]
      exact (StandingKept.vent s a 0).state a
    exact agreesAt_deferLift hu hflow hstate h.fits

theorem agreesAt_endHold {s : State} {a : ArmId} (h : AgreesAt s a) (hheld : s.ventHeld a = false) : AgreesAt (s.endHold a) a := by
  unfold State.endHold
  split
  · rename_i v w hflow
    refine .enterRequest (h.unlisted (by rw [hflow]; rfl) (by rw [hflow]; rfl)) ?_ hheld
    have hfits := h.fits
    rw [hflow] at hfits
    generalize (s.arm a).state = st at hfits
    cases st with
    | lifting => rfl
    | _ => exact nomatch hfits
  · exact agreesAt_recompute h true .byPhase

/-- One arm after another comes under a hold, or leaves it: where the arms outside the list agree already, all do in the end. -/
theorem agrees_foldl {f : State → ArmId → State} {held : Bool} (one : ∀ s a, OneArm a s (f s a)) (flow : ∀ s a, FlowOnly s (f s a))
    (self : ∀ s a, Consistent s a → s.ventHeld a = held → AgreesAt (f s a) a) (as : List ArmId) (s : State)
    (hs : ∀ b, Consistent s b) (hquiet : ∀ b, b ∉ as → HeldQuiet s b) (hheld : ∀ b ∈ as, s.ventHeld b = held) :
    ∀ b, AgreesAt (as.foldl f s) b := by
  induction as generalizing s with
  | nil => exact fun b => ⟨hs b, hquiet b (by simp)⟩
  | cons a as ih =>
    have ha := self s a (hs a) (hheld a (by simp))
    refine ih (f s a) (fun b => ?_) (fun b hb => ?_) fun b hb => ?_
    · by_cases hba : b = a
      · subst hba; exact ha.toConsistent
      · exact (hs b).other (one s a) hba
    · by_cases hba : b = a
      · subst hba; exact ha.quiet
      · exact (hquiet b (by simp [hba, hb])).other (one s a) (flow s a) hba
    · rw [(flow s a).ventHeld]
      exact hheld b (List.mem_cons_of_mem _ hb)

theorem agrees_beginHold {s : State} (as : List ArmId) (hs : ∀ b, Consistent s b) (hquiet : ∀ b, b ∉ as → HeldQuiet s b)
    (hheld : ∀ b ∈ as, s.ventHeld b = true) : ∀ b, AgreesAt (as.foldl State.beginHold s) b :=
  agrees_foldl .beginHold .beginHold (fun _ _ h _ => agreesAt_beginHold h) as s hs hquiet hheld

theorem agrees_endHold {s : State} (as : List ArmId) (hs : ∀ b, Consistent s b) (hquiet : ∀ b, b ∉ as → HeldQuiet s b)
    (hheld : ∀ b ∈ as, s.ventHeld b = false) : ∀ b, AgreesAt (as.foldl State.endHold s) b :=
  agrees_foldl .endHold .endHold
    (fun _ _ h k => agreesAt_endHold ⟨h, fun k' => by rw [k] at k'; exact nomatch k'⟩ k) as s hs hquiet hheld

/-! ### The supply and the drives -/

theorem mem_armsOf (a : ArmId) (r : RotorId) : a ∈ armsOf r ↔ rotorOf a = r := by
  cases r <;> cases a <;> decide

theorem mem_allArms (a : ArmId) : a ∈ allArms := by cases a <;> decide

theorem mem_readyArms (s : State) (a : ArmId) : a ∈ s.readyArms ↔ (s.rotor (rotorOf a)).drive = .ready := by
  unfold State.readyArms
  rw [List.mem_filter, beq_iff_eq]
  exact and_iff_right (mem_allArms a)

/-- Vent hold stands with a CRITICAL supply or a drive that is not READY (R125). -/
theorem ventHeld_iff (s : State) (a : ArmId) :
    s.ventHeld a = true ↔ s.supply.level = .critical ∨ (s.rotor (rotorOf a)).drive ≠ .ready := by
  unfold State.ventHeld
  simp

theorem ventHeld_eq_false_iff (s : State) (a : ArmId) :
    s.ventHeld a = false ↔ s.supply.level ≠ .critical ∧ (s.rotor (rotorOf a)).drive = .ready := by
  unfold State.ventHeld
  simp

/-- A change of the supply or of a drive leaves arms and arbiter. -/
theorem Consistent.of_eq {s t : State} {b : ArmId} (h : Consistent s b) (harms : t.arms = s.arms)
    (hwait : t.arbiter.wait = s.arbiter.wait) (hmove : t.arbiter.inFlight = s.arbiter.inFlight) : Consistent t b :=
  h.congr (by rw [State.arm_congr harms]) (by rw [State.arm_congr harms]) (by unfold State.waitOf; rw [hwait]) (by rw [hmove])

theorem HeldQuiet.of_eq {s t : State} {b : ArmId} (h : HeldQuiet s b) (harms : t.arms = s.arms)
    (hheld : t.ventHeld b = true → s.ventHeld b = true) : HeldQuiet t b := by
  unfold HeldQuiet
  rw [State.arm_congr harms]
  exact fun k => h (hheld k)

/-- `t` is `s` with the state of one rotor replaced, as far as arms, arbiter, supply and rotors go. -/
structure RotorSet (s : State) (r : RotorId) (x : Rotor) (t : State) : Prop where
  arms : t.arms = s.arms
  wait : t.arbiter.wait = s.arbiter.wait
  moves : t.arbiter.inFlight = s.arbiter.inFlight
  supply : t.supply = s.supply
  rotor : ∀ u, t.rotor u = if r = u then x else s.rotor u

theorem RotorSet.setRotor (s : State) (r : RotorId) (x : Rotor) : RotorSet s r x (s.setRotor r x) where
  arms := arms_setRotor s r x
  wait := by rw [State.arbiter_setRotor]
  moves := by rw [State.arbiter_setRotor]
  supply := State.supply_setRotor s r x
  rotor u := State.rotor_setRotor s r u x

theorem RotorSet.of_eq {s t u : State} {r : RotorId} {x : Rotor} (h : RotorSet s r x t) (harms : u.arms = t.arms)
    (harbiter : u.arbiter = t.arbiter) (hsupply : u.supply = t.supply) (hrotor : ∀ c, u.rotor c = t.rotor c) : RotorSet s r x u where
  arms := harms.trans h.arms
  wait := by rw [harbiter]; exact h.wait
  moves := by rw [harbiter]; exact h.moves
  supply := hsupply.trans h.supply
  rotor c := (hrotor c).trans (h.rotor c)

theorem RotorSet.ventHeld_other {s t : State} {r : RotorId} {x : Rotor} (h : RotorSet s r x t) {b : ArmId} (hb : rotorOf b ≠ r) :
    t.ventHeld b = s.ventHeld b := by
  unfold State.ventHeld
  rw [h.supply, h.rotor, if_neg (Ne.symm hb)]

theorem HoldAct.keeps_agrees {s t : State} (h : HoldAct s t) (hs : ∀ b, AgreesAt s b) : ∀ b, AgreesAt t b := by
  cases h with
  | latch b => exact agrees_of_eq hs rfl rfl fun _ => rfl
  | mode m => exact agrees_of_eq hs rfl rfl fun _ => rfl
  | level new =>
    let u : State := { s with
      supply := { s.supply with level := new }
      arbiter := { s.arbiter with slots := slotsFor s.geometry new } }
    have consistent : ∀ b, Consistent u b := fun b => (hs b).toConsistent.of_eq rfl rfl rfl
    show ∀ b, AgreesAt (u.deliverLevel s.supply.level new) b
    unfold State.deliverLevel
    split
    · rename_i hnew
      refine agrees_of_eq (agrees_beginHold u.readyArms consistent (fun b hb => ?_) fun b _ => ?_) rfl rfl fun _ => rfl
      · refine (hs b).quiet.of_eq rfl fun _ => (ventHeld_iff s b).2 (.inr fun k => hb ?_)
        exact (mem_readyArms u b).2 k
      · exact (ventHeld_iff u b).2 (.inl hnew)
    · rename_i hnew
      split
      · refine agrees_of_eq (agrees_endHold u.readyArms consistent (fun b hb => ?_) fun b hb => ?_) rfl rfl fun _ => rfl
        · refine (hs b).quiet.of_eq rfl fun _ => (ventHeld_iff s b).2 (.inr fun k => hb ?_)
          exact (mem_readyArms u b).2 k
        · exact (ventHeld_eq_false_iff u b).2 ⟨hnew, (mem_readyArms u b).1 hb⟩
      · rename_i hold
        refine fun b => ⟨consistent b, (hs b).quiet.of_eq rfl fun k => ?_⟩
        obtain k | k := (ventHeld_iff u b).1 k
        · exact absurd k hnew
        · exact (ventHeld_iff s b).2 (.inr k)
  | spin r x hold hnew =>
    have changed := RotorSet.setRotor s r x
    refine fun b => ⟨(hs b).toConsistent.of_eq changed.arms changed.wait changed.moves,
      (hs b).quiet.of_eq changed.arms fun k => ?_⟩
    by_cases hb : rotorOf b = r
    · exact (ventHeld_iff s b).2 (.inr (by rw [hb]; exact hold))
    · rwa [← changed.ventHeld_other hb]
  | down r x hnew =>
    let u : State := ((s.setRotor r x).putHold (downCause r) true).flagRotorDown r
    have changed : RotorSet s r x u := (RotorSet.setRotor s r x).of_eq rfl rfl rfl fun _ => rfl
    have consistent : ∀ b, Consistent u b := fun b => (hs b).toConsistent.of_eq changed.arms changed.wait changed.moves
    show ∀ b, AgreesAt (if u.supply.level = .critical then u else (armsOf r).foldl State.beginHold u) b
    split
    · rename_i hcritical
      rw [changed.supply] at hcritical
      exact fun b => ⟨consistent b, (hs b).quiet.of_eq changed.arms fun _ => (ventHeld_iff s b).2 (.inl hcritical)⟩
    · refine agrees_beginHold _ consistent (fun b hb => ?_) fun b hb => ?_
      · have hother := changed.ventHeld_other fun k => hb ((mem_armsOf b r).2 k)
        exact (hs b).quiet.of_eq changed.arms fun k => by rwa [← hother]
      · refine (ventHeld_iff u b).2 (.inr ?_)
        rw [(mem_armsOf b r).1 hb, changed.rotor, if_pos rfl]
        exact hnew
  | ready r x hnew =>
    let u : State := ((s.setRotor r x).putHold (downCause r) false).raise .rotor
    have changed : RotorSet s r x u := (RotorSet.setRotor s r x).of_eq rfl rfl rfl fun _ => rfl
    have consistent : ∀ b, Consistent u b := fun b => (hs b).toConsistent.of_eq changed.arms changed.wait changed.moves
    show ∀ b, AgreesAt (if u.supply.level = .critical then u else (armsOf r).foldl State.endHold u) b
    split
    · rename_i hcritical
      rw [changed.supply] at hcritical
      exact fun b => ⟨consistent b, (hs b).quiet.of_eq changed.arms fun _ => (ventHeld_iff s b).2 (.inl hcritical)⟩
    · rename_i hcritical
      refine agrees_endHold _ consistent (fun b hb => ?_) fun b hb => ?_
      · have hother := changed.ventHeld_other fun k => hb ((mem_armsOf b r).2 k)
        exact (hs b).quiet.of_eq changed.arms fun k => by rwa [← hother]
      · refine (ventHeld_eq_false_iff u b).2 ⟨hcritical, ?_⟩
        rw [(mem_armsOf b r).1 hb, changed.rotor, if_pos rfl]
        exact hnew

theorem agrees_resetBlocks (s : State) (x : RawLevels) (b : ArmId) : AgreesAt (s.resetBlocks x) b :=
  .of_idle ⟨rfl, rfl⟩ (by cases b <;> rfl) (by cases b <;> nofun)

/-- Every elementary act keeps arms and arbiter in agreement. -/
theorem Act.keeps_flowAgrees {w : Prop} (s t : State) (h : Act w s t) (hs : s.flowAgrees) : t.flowAgrees := by
  rw [flowAgrees_iff] at hs ⊢
  cases h with
  | unseen k =>
    have harms := congrArg State.arms k
    have harbiter := congrArg State.arbiter k
    have hsupply := congrArg (fun x : State => x.supply.level) k
    have hdrive1 := congrArg (fun x : State => x.rotor1.drive) k
    have hdrive2 := congrArg (fun x : State => x.rotor2.drive) k
    refine agrees_of_eq hs harms harbiter fun b => Bool.eq_iff_iff.2 ?_
    have hlevel : t.supply.level = s.supply.level := hsupply
    have hdrive : ∀ r, (t.rotor r).drive = (s.rotor r).drive := by
      intro r
      cases r with
      | r1 => exact hdrive1
      | r2 => exact hdrive2
    rw [ventHeld_iff, ventHeld_iff, hlevel, hdrive]
  | arm k => exact k.keeps_agrees hs
  | count k => exact k.keeps_agrees hs
  | hold k => exact k.keeps_agrees hs
  | queue k =>
    have harms := congrArg State.arms k.frame
    have harbiter := congrArg State.arbiter k.frame
    have hheld := fun b => congrArg (fun x : State => x.ventHeld b) k.frame
    exact agrees_of_eq hs harms harbiter hheld
  | geometry g _ => exact fun b => ⟨(hs b).toConsistent.of_eq rfl rfl rfl, (hs b).quiet.of_eq rfl id⟩
  | reset x => exact agrees_resetBlocks s x
  | species v _ => exact agrees_of_eq hs rfl rfl fun _ => rfl
  | ram m _ _ => exact agrees_of_eq hs rfl rfl fun _ => rfl
  | eeprom m _ => exact agrees_of_eq hs rfl rfl fun _ => rfl
  | manifest m _ _ => exact agrees_of_eq hs rfl rfl fun _ => rfl
  | cfg x _ _ => exact agrees_of_eq hs rfl rfl fun _ => rfl
  | quality x _ => exact agrees_of_eq hs rfl rfl fun _ => rfl
  | registers c e r _ _ _ => exact agrees_of_eq hs rfl rfl fun _ => rfl

/-- Settles O56: by the elementary acts of a step, with the agreement stated of each arm alone. -/
theorem everyStepKeepsArmsAndArbiterInAgreement : Obligations.EveryStepKeepsArmsAndArbiterInAgreement :=
  fun _ _ hs ht => step_keeps Act.keeps_flowAgrees hs ht

end Sys2Proof.Machine
end

section
/-! PROOF. Publication (R205): a command leaves the published frames alone but for the groups it rewrites, so frames that show the state
before it show the state after it. -/

namespace Sys2Proof.Machine

/-! ### What a memory shows -/

/-- The bytes of a field stand at its address. -/
def Shows (m : Memory) (x : Field) : Prop := ∀ k (hk : k < x.2.length), m.read (x.1 + k) = x.2[k]

/-- An address that no published field covers. -/
def Uncovered (a : Nat) : Prop := ∀ x ∈ groupShapes, ¬ (x.1 ≤ a ∧ a < x.1 + x.2)

theorem shows_iff_readBytes (m : Memory) (x : Field) : Shows m x ↔ m.readBytes x.1 x.2.length = x.2 := by
  constructor
  · intro h
    refine List.ext_getElem (by simp) fun k _ hk => ?_
    rw [Memory.getElem_readBytes]
    exact h k hk
  · intro h k hk
    have hl : k < (m.readBytes x.1 x.2.length).length := by simpa using hk
    have hr := List.getElem_of_eq h hl
    rwa [Memory.getElem_readBytes] at hr

theorem field_covered {s : State} {x : Field} (hx : x ∈ s.groups.flatten) : x.shape ∈ groupShapes := by
  rw [← shape_groups s]
  exact List.mem_map_of_mem hx

theorem published_of_mem {s : State} {x : Field} (hx : x ∈ s.groups.flatten) : Field.published x := by
  obtain ⟨g, hg, hm⟩ := List.mem_flatten.1 hx
  exact groups_published s g hg x hm

/-- The byte of packed fields at a place that none covers is 0. -/
theorem packBytes_uncovered {n : Nat} {fs : List (Nat × List Byte)} {k : Nat} (hk : k < n)
    (h : ∀ x ∈ fs, ¬ (x.1 ≤ k ∧ k < x.1 + x.2.length)) : (packBytes n fs)[k]'(by simpa using hk) = 0 := by
  have hnone : (fs.find? fun f => decide (f.1 ≤ k ∧ k < f.1 + f.2.length)) = none := by
    rw [List.find?_eq_none]
    exact fun x hx => by simpa using h x hx
  simp only [packBytes, List.getElem_map, List.getElem_range]
  rw [hnone]

/-- The published fields at their offsets from frame 240 on, as the image packs them. -/
def State.imageFields (s : State) : List (Nat × List Byte) := s.groups.flatten.map fun x => (x.1 - frameAddr 240 0, x.2)

theorem imageFields_apart (s : State) : (s.imageFields.map Field.shape).Pairwise apart := by
  have h := groups_apart s
  unfold State.imageFields
  rw [List.pairwise_map] at h
  rw [List.map_map, List.pairwise_map]
  refine List.Pairwise.imp_of_mem (fun ha hb hab => ?_) h
  have pa := (published_of_mem ha).1
  have pb := (published_of_mem hb).1
  simp only [apart, Field.shape, Function.comp_apply] at hab ⊢
  omega

/-- A byte of the published frames that no field of the image covers. -/
theorem uncovered_iff (s : State) {j : Nat} :
    Uncovered (frameAddr 240 0 + j) ↔ ∀ x ∈ s.imageFields, ¬ (x.1 ≤ j ∧ j < x.1 + x.2.length) := by
  unfold Uncovered State.imageFields
  rw [← shape_groups s]
  simp only [List.mem_map, forall_exists_index, and_imp, forall_apply_eq_imp_iff₂, Field.shape]
  refine forall₂_congr fun x hx => ?_
  have hpub := (published_of_mem hx).1
  omega

/-- The image stands exactly when every published field is shown and every other byte of the published frames reads 0. -/
theorem imageStands_iff (s : State) :
    s.imageStands ↔ (∀ x ∈ s.groups.flatten, Shows s.ram x) ∧ ∀ a, isPublished a → Uncovered a → s.ram.read a = 0 := by
  have bytes : s.imageStands ↔ ∀ j (hj : j < 11 * 256), s.ram.read (frameAddr 240 0 + j) =
      (packBytes (11 * 256) s.imageFields)[j]'(by simpa using hj) := by
    constructor
    · intro h j hj
      have hl : j < (s.ram.readBytes (frameAddr 240 0) (11 * 256)).length := by simpa using hj
      have hb := List.getElem_of_eq h hl
      rw [Memory.getElem_readBytes] at hb
      exact hb
    · intro h
      refine List.ext_getElem (by simp [length_publishedImage]) fun j hj hj' => ?_
      rw [Memory.getElem_readBytes]
      rw [Memory.length_readBytes] at hj
      exact h j hj
  constructor
  · intro h
    refine ⟨fun x hx => (shows_iff_readBytes s.ram x).2 (imageStands_field h hx), fun a ha hu => ?_⟩
    obtain ⟨j, rfl⟩ : ∃ j, a = frameAddr 240 0 + j := ⟨a - frameAddr 240 0, by have := ha.1; omega⟩
    have hj : j < 11 * 256 := by
      have hlt := ha.2
      simp only [frameAddr] at hlt
      omega
    rw [bytes.1 h j hj]
    exact packBytes_uncovered hj ((uncovered_iff s).1 hu)
  · rintro ⟨hshow, hgap⟩
    refine bytes.2 fun j hj => ?_
    by_cases hcover : ∃ x ∈ s.imageFields, x.1 ≤ j ∧ j < x.1 + x.2.length
    · obtain ⟨x, hx, hlo, hhi⟩ := hcover
      obtain ⟨k, rfl⟩ : ∃ k, j = x.1 + k := ⟨j - x.1, by omega⟩
      rw [packBytes_field (imageFields_apart s) hx (by omega) hj]
      obtain ⟨y, hy, rfl⟩ := List.mem_map.1 hx
      have hpub := (published_of_mem hy).1
      have hread := hshow y hy k (by dsimp only at hhi; omega)
      rw [← hread]
      congr 1
      dsimp only
      omega
    · push Not at hcover
      have hu : Uncovered (frameAddr 240 0 + j) := (uncovered_iff s).2 fun x hx h => absurd h.2 (Nat.not_lt.2 (hcover x hx h.1))
      rw [hgap _ ⟨Nat.le_add_right _ _, by simp only [frameAddr]; omega⟩ hu]
      exact (packBytes_uncovered hj ((uncovered_iff s).1 hu)).symm

/-! ### What publication writes -/

theorem shows_congr {m m' : Memory} {x : Field} (hx : Field.published x) (h : ∀ a, isPublished a → m'.read a = m.read a)
    (hm : Shows m x) : Shows m' x := by
  intro k hk
  rw [h _ ⟨Nat.le_trans hx.1 (Nat.le_add_right _ _), by have := hx.2; omega⟩]
  exact hm k hk

theorem read_writeFields_apart {fs : List Field} {a : Nat} (h : ∀ x ∈ fs, ¬ (x.1 ≤ a ∧ a < x.1 + x.2.length)) (m : Memory) :
    (writeFields m fs).read a = m.read a := by
  unfold writeFields
  induction fs generalizing m with
  | nil => rfl
  | cons x fs ih =>
    rw [List.foldl_cons, ih fun y hy => h y (List.mem_cons_of_mem _ hy)]
    have hx := h x (by simp)
    exact Memory.read_writeBytes_of_outside (by omega)

/-- Fields that share no byte are all shown once written. -/
theorem shows_writeFields {fs : List Field} (hd : (fs.map Field.shape).Pairwise apart) (m : Memory) {x : Field} (hx : x ∈ fs) :
    Shows (writeFields m fs) x := by
  induction fs generalizing m with
  | nil => cases hx
  | cons y fs ih =>
    rw [List.map_cons, List.pairwise_cons] at hd
    obtain ⟨hy, hd⟩ := hd
    show Shows (writeFields (m.writeBytes y.1 y.2) fs) x
    rcases List.mem_cons.1 hx with rfl | hx
    · intro k hk
      rw [read_writeFields_apart fun z hz => ?_]
      · have hwhole := Memory.readBytes_writeBytes_self m x.1 x.2
        have hl : k < ((m.writeBytes x.1 x.2).readBytes x.1 x.2.length).length := by simpa using hk
        have hb := List.getElem_of_eq hwhole hl
        rwa [Memory.getElem_readBytes] at hb
      · have ha := hy _ (List.mem_map_of_mem (f := Field.shape) hz)
        unfold apart Field.shape at ha
        omega
    · exact ih hd _ hx

theorem shows_writeFields_apart {fs : List Field} {x : Field} (h : ∀ y ∈ fs, apart y.shape x.shape) {m : Memory} (hm : Shows m x) :
    Shows (writeFields m fs) x := by
  intro k hk
  rw [read_writeFields_apart fun y hy => ?_]
  · exact hm k hk
  · have ha := h y hy
    unfold apart Field.shape at ha
    omega

/-- Writing the groups that changed shows every group, where those that did not change were shown; elsewhere nothing changes. -/
theorem writeChanged_shows {xs ys : List (List Field)} (hlen : xs.length = ys.length)
    (hd : (ys.flatten.map Field.shape).Pairwise apart) (m : Memory)
    (hm : ∀ p ∈ xs.zip ys, p.1 = p.2 → ∀ x ∈ p.2, Shows m x) :
    (∀ x ∈ ys.flatten, Shows (writeChanged m xs ys) x)
      ∧ ∀ a, (∀ x ∈ ys.flatten, ¬ (x.1 ≤ a ∧ a < x.1 + x.2.length)) → (writeChanged m xs ys).read a = m.read a := by
  induction ys generalizing xs m with
  | nil => cases xs <;> exact ⟨fun x hx => (nomatch hx), fun _ _ => rfl⟩
  | cons y ys ih =>
    cases xs with
    | nil => exact nomatch hlen
    | cons x xs =>
      rw [List.flatten_cons, List.map_append, List.pairwise_append] at hd
      obtain ⟨hdy, hdys, hcross⟩ := hd
      have crossed : ∀ f ∈ y, ∀ g ∈ ys.flatten, apart f.shape g.shape := fun f hf g hg =>
        hcross _ (List.mem_map_of_mem hf) _ (List.mem_map_of_mem hg)
      let m' : Memory := if x = y then m else writeFields m y
      have later : ∀ g ∈ ys.flatten, Shows m g → Shows m' g := by
        intro g hg h
        show Shows (if x = y then m else writeFields m y) g
        split
        · exact h
        · exact shows_writeFields_apart (fun f hf => crossed f hf g hg) h
      obtain ⟨hshow, hread⟩ := ih (xs := xs) (Nat.succ.inj hlen) hdys m' fun p hp hpe g hg =>
        later g (List.mem_flatten.2 ⟨p.2, (List.of_mem_zip hp).2, hg⟩) (hm p (List.mem_cons_of_mem _ hp) hpe g hg)
      have first : ∀ f ∈ y, Shows m' f := by
        intro f hf
        show Shows (if x = y then m else writeFields m y) f
        split
        · rename_i hxy
          exact hm (x, y) List.mem_cons_self hxy f hf
        · exact shows_writeFields hdy m hf
      show (∀ f ∈ (y :: ys).flatten, Shows (writeChanged m' xs ys) f) ∧ ∀ a, _ → (writeChanged m' xs ys).read a = _
      refine ⟨fun f hf => ?_, fun a ha => ?_⟩
      · rw [List.flatten_cons] at hf
        rcases List.mem_append.1 hf with hf | hf
        · intro k hk
          rw [hread _ fun g hg => ?_]
          · exact first f hf k hk
          · have hap := crossed f hf g hg
            unfold apart Field.shape at hap
            omega
        · exact hshow f hf
      · rw [hread a fun g hg => ha g (by rw [List.flatten_cons]; exact List.mem_append_right _ hg)]
        show (if x = y then m else writeFields m y).read a = _
        split
        · rfl
        · exact read_writeFields_apart (fun f hf => ha f (by rw [List.flatten_cons]; exact List.mem_append_left _ hf)) m

end Sys2Proof.Machine
end

section
/-! PROOF. Frames 240 to 250 show the published state after every command, if they did before it (R205). -/

namespace Sys2Proof.Machine

/-! ### What a command leaves of the published frames -/

/-- From `s` to `t` no byte of the published frames has changed. -/
def ImageKept (s t : State) : Prop := ∀ a, isPublished a → t.ram.read a = s.ram.read a

/-- An elementary act that leaves the published frames alone. -/
theorem Act.imageKept {s t : State} (h : Act True s t) : ImageKept s t := by
  have same : t.ram = s.ram → ImageKept s t := fun k a _ => by rw [k]
  cases h with
  | unseen k => exact same (by have kr := congrArg State.ram k; exact kr)
  | arm k => exact same (DataKept.of_act (.inl k)).ram
  | count k => exact same (DataKept.of_act (.inr (.inl k))).ram
  | hold k => exact same (DataKept.of_act (.inr (.inr k))).ram
  | queue k => exact same (by have kr := congrArg State.ram k.frame; exact kr)
  | ram m _ hm => exact hm trivial
  | geometry g _ => exact same rfl
  | species v _ => exact same rfl
  | manifest m _ _ => exact same rfl
  | cfg x _ _ => exact same rfl
  | quality x _ => exact same rfl
  | registers c e r _ _ _ => exact same rfl
  | eeprom m _ => exact same rfl
  | reset x => exact same rfl

theorem Acts.imageKept {s t : State} (h : Acts s t) (hs : s.framesAreTickets) : ImageKept s t :=
  (h.run True fun _ => hs).keeps (P := ImageKept s) (fun _ _ act k a ha => (act.imageKept a ha).trans (k a ha)) fun _ _ => rfl

/-! ### Publication after a command -/

theorem length_groups (s t : State) : s.groups.length = t.groups.length := by
  have hstatus : s.statusFields.length = t.statusFields.length := by
    have h := congrArg List.length ((shape_statusFields s).trans (shape_statusFields t).symm)
    rwa [List.length_map, List.length_map] at h
  unfold State.groups atFrame
  simp only [List.length_append, List.length_map, hstatus]
  rfl

/-- What `t`'s manifest RAM holds before publication, when frames that showed `s` are to show `t`: the groups that did not change are
shown, and the rest of the published frames reads 0. -/
structure Publishable (s t : State) : Prop where
  shown : ∀ p ∈ s.groups.zip t.groups, p.1 = p.2 → ∀ x ∈ p.2, Shows t.ram x
  gaps : ∀ a, isPublished a → Uncovered a → t.ram.read a = 0

theorem Publishable.of_kept {s t : State} (hs : s.imageStands) (h : ImageKept s t) : Publishable s t := by
  obtain ⟨hshow, hgap⟩ := (imageStands_iff s).1 hs
  refine ⟨fun p hp hpe x hx => ?_, fun a ha hu => (h a ha).trans (hgap a ha hu)⟩
  have hmem : x ∈ s.groups.flatten := List.mem_flatten.2 ⟨p.1, (List.of_mem_zip hp).1, hpe ▸ hx⟩
  exact shows_congr (published_of_mem hmem) h (hshow x hmem)

/-- Publication leaves the state but for the manifest RAM. -/
theorem publish_publishes (old new : State) : (publish old new).publishes = new.publishes := by
  obtain ⟨m, h, -, -⟩ := publish_ram old new
  rw [h]
  rfl

/-- A part that publishes before and after writes the groups that changed. -/
theorem publish_of_publishes {s t : State} (hs : s.publishes = true) (ht : t.publishes = true) :
    publish s t = { t with ram := writeChanged t.ram s.groups t.groups } := by
  unfold publish
  rw [if_pos ht, if_pos hs]

theorem imageStands_of_shows {t : State} {m : Memory} (hshow : ∀ x ∈ t.groups.flatten, Shows m x)
    (hgap : ∀ a, isPublished a → Uncovered a → m.read a = 0) : ({ t with ram := m } : State).imageStands := by
  rw [imageStands_iff, groups_withRam]
  exact ⟨hshow, hgap⟩

theorem imageStands_publish {s t : State} (hs : s.publishes = true) (ht : t.publishes = true) (h : Publishable s t) :
    (publish s t).imageStands := by
  obtain ⟨hshow, hread⟩ := writeChanged_shows (length_groups s t) (groups_apart t) t.ram h.shown
  have hgap : ∀ a, isPublished a → Uncovered a → (writeChanged t.ram s.groups t.groups).read a = 0 := fun a ha hu =>
    (hread a fun x hx => hu _ (field_covered hx)).trans (h.gaps a ha hu)
  rw [publish_of_publishes hs ht]
  exact imageStands_of_shows hshow hgap

theorem running_of_publishes {s : State} (h : s.publishes = true) : s.running := by
  unfold State.publishes at h
  simpa using (Bool.and_eq_true_iff.1 h).2

/-! ### A row that the Setpoint Unit writes itself (R93) -/

theorem imageRow_mem (s : State) {k : Nat} (hk : k < 32) : (imageAddr k, (s.row k).fieldBytes) ∈ s.groups.flatten := by
  refine List.mem_flatten.2 ⟨[(imageAddr k, (s.row k).fieldBytes)], ?_, List.mem_singleton.2 rfl⟩
  unfold State.groups
  exact List.mem_append_right _ (List.mem_map.2 ⟨k, List.mem_range.2 hk, rfl⟩)

theorem Publishable.of_imageRow {s u t : State} {k : Nat} (hk : k < 32) (hs : s.imageStands)
    (hu : u.ram = s.ram.writeBytes (imageAddr k) (u.row k).fieldBytes) (h : ImageKept u t) (hrow : t.row k = u.row k) :
    Publishable s t := by
  obtain ⟨hshow, hgap⟩ := (imageStands_iff s).1 hs
  have hlen := length_fieldBytes (u.row k)
  have own := imageRow_mem t hk
  rw [hrow] at own
  refine ⟨fun p hp hpe x hx => ?_, fun a ha hunc => ?_⟩
  · have hmem : x ∈ s.groups.flatten := List.mem_flatten.2 ⟨p.1, (List.of_mem_zip hp).1, hpe ▸ hx⟩
    have hmem' : x ∈ t.groups.flatten := List.mem_flatten.2 ⟨p.2, (List.of_mem_zip hp).2, hx⟩
    refine shows_congr (published_of_mem hmem) h ?_
    rw [hu]
    by_cases hx : x = (imageAddr k, (u.row k).fieldBytes)
    · rw [hx, shows_iff_readBytes]
      exact Memory.readBytes_writeBytes_self ..
    · have hpair := groups_apart t
      rw [List.pairwise_map] at hpair
      have symmetric : Std.Symm fun x y : Field => apart x.shape y.shape := ⟨fun _ _ hab => Or.symm hab⟩
      have hap := hpair.forall hmem' own hx
      intro j hj
      rw [Memory.read_writeBytes_of_outside]
      · exact hshow x hmem j hj
      · unfold apart Field.shape at hap
        dsimp only at hap
        omega
  · rw [h a ha, hu, Memory.read_writeBytes_of_outside]
    · exact hgap a ha hunc
    · have hout := hunc _ (field_covered own)
      unfold Field.shape at hout
      dsimp only at hout
      omega

/-- A closure at the head leaves the species table. -/
theorem species_finishHead (s : State) (e : StagedTicket) (res : Result) (detail : Nat) (fields : List (Nat × List Byte)) :
    (s.finishHead e res detail fields).species = s.species := by
  have hclose := congrArg State.species (closeFrame_fields s e.frame e.tag res detail fields)
  have hdepart := congrArg State.species (departHead_fields (s.closeFrame e.frame e.tag res detail fields))
  exact hdepart.trans hclose

theorem row_congr {s t : State} (h : t.species = s.species) (k : Nat) : t.row k = s.row k := by
  unfold State.row
  rw [h]

theorem framesAreTickets_withRam {s : State} (h : s.framesAreTickets) (m : Memory) : ({ s with ram := m } : State).framesAreTickets := h

/-- A ticket closed once the row's image has been written anew. -/
theorem publishable_rewritten {s v : State} {e : StagedTicket} {k : Nat} {bs : List Byte} (hbs : bs = (v.row k).fieldBytes) (hk : k < 32)
    (hs : s.imageStands) (hf : v.framesAreTickets) (he : e ∈ v.manifest.staged) (hram : v.ram = s.ram) (res : Result)
    (detail : Nat) (fields : List (Nat × List Byte)) :
    Publishable s (({ v with ram := v.ram.writeBytes (imageAddr k) bs } : State).finishHead e res detail fields) := by
  generalize hm : v.ram.writeBytes (imageAddr k) bs = m
  have kept := (Acts.finishHead { v with ram := m } he res detail fields).imageKept (framesAreTickets_withRam hf m)
  refine .of_imageRow (u := { v with ram := m }) hk hs ?_ kept (row_congr (species_finishHead ..) k)
  rw [row_withRam, ← hbs, ← hram, hm]

theorem publishable_takeSpecies {s : State} {e : StagedTicket} (he : e ∈ s.manifest.staged) (hf : s.framesAreTickets)
    (hs : s.imageStands) : Publishable s (s.takeSpecies e) := by
  unfold State.takeSpecies
  dsimp only
  split
  · exact .of_kept hs ((Acts.finishHead s he _ _ _).imageKept hf)
  · rename_i hcheck
    have written : ∀ x, (s.trimsBounded → (areaWord e.area 8).toNat < 32 → TrimsOk (areaWord e.area 8).toNat x) →
        (s.setRow (areaWord e.area 8).toNat x).framesAreTickets := fun x hx => (Acts.setRow s _ x hx).free.framesAreTickets hf
    refine publishable_rewritten rfl (rowCheck_index hcheck) hs (written _ fun htrims hlt => ?_) ?_ (State.ram_setRow ..) _ _ _
    · exact .speciesWrite _ ((trimsBounded_iff s).1 htrims _ hlt) (.of_rowCheck hcheck)
    · rw [State.manifest_setRow]; exact he

/-! ### Every command -/

/-- The published frames show the state after every command but a host write into the manifest RAM, if they did before it. -/
theorem imageStands_exec {c : Instr} {s t : State} (hf : s.framesAreTickets) (hp : s.publishes = true) (hs : s.imageStands)
    (hc : ∀ address w, c ≠ .manifestRamWrite address w) (h : exec c s = .next t) (ht : t.publishes = true) : t.imageStands := by
  have hrun := running_of_publishes hp
  by_cases htouch : touchesImage c s
  · obtain ⟨address, w, rfl⟩ | rfl | ⟨rfl, e, rest, hstaged, hkind⟩ := htouch
    · exact absurd rfl (hc address w)
    · cases h
      exact absurd ht (by rw [show s.powerUp.publishes = false from Bool.and_false _]; nofun)
    · have htake : s.takeUp = s.takeSpecies e := by
        unfold State.takeUp
        rw [hstaged]
        dsimp only
        rw [hkind]
      have h : act s State.takeUp = .next t := h
      rw [act_running hrun, htake] at h
      cases h
      rw [publish_publishes] at ht
      exact imageStands_publish hp ht (publishable_takeSpecies (by rw [hstaged]; exact List.mem_cons_self) hf hs)
  · have hacts := actsTo_exec c s htouch
    rw [h] at hacts
    cases hacts with
    | published k =>
      rw [publish_publishes] at ht
      exact imageStands_publish hp ht (.of_kept hs (k.imageKept hf))
    | bare k hbare =>
      obtain rfl | hnot := hbare hrun
      · exact hs
      · rw [hnot] at ht; exact nomatch ht

end Sys2Proof.Machine
end

section
/-! PROOF. The fields that frames 240 to 250 show (R39, R205, R207), each at its offset. -/

namespace Sys2Proof.Machine

/-! ### Fields, their parts, and the bytes between them -/

theorem shows_of_mem {s : State} (h : s.imageStands) {f k : Nat} {bs : List Byte} (hm : (frameAddr f k, bs) ∈ s.groups.flatten) :
    s.shows f k bs := imageStands_field h hm

/-- A run of bytes of the published frames apart from every field reads 0. -/
theorem shows_gap {s : State} (h : s.imageStands) (f k n : Nat) (hlo : 240 ≤ f) (hhi : frameAddr f k + n ≤ frameAddr 251 0)
    (hgap : ∀ x ∈ groupShapes, apart (frameAddr f k, n) x) : s.shows f k (List.replicate n 0) := by
  unfold State.shows
  rw [List.length_replicate]
  refine List.ext_getElem (by simp) fun j hj hj' => ?_
  rw [Memory.length_readBytes] at hj
  rw [Memory.getElem_readBytes, List.getElem_replicate]
  refine ((imageStands_iff s).1 h).2 _ ⟨?_, by omega⟩ fun x hx hcover => ?_
  · simp only [frameAddr]; omega
  · have hap := hgap x hx
    unfold apart at hap
    dsimp only at hap
    omega

/-! ### The groups of fields -/

theorem mem_groups {s : State} {x : Field} {g : List Field} (hg : g ∈ s.groups) (hx : x ∈ g) : x ∈ s.groups.flatten :=
  List.mem_flatten.2 ⟨g, hg, hx⟩

theorem mem_atFrame {f : Nat} {fs : List Field} {x : Field} (hx : x ∈ fs) : (frameAddr f x.1, x.2) ∈ atFrame f fs :=
  List.mem_map.2 ⟨x, hx, rfl⟩

theorem mem_singles {fs : List Field} {x : Field} (hx : x ∈ fs) : [x] ∈ fs.map fun y => [y] := List.mem_map.2 ⟨x, hx, rfl⟩

section
variable {s : State} (h : s.imageStands)
include h

theorem shows_status : ∀ x ∈ s.statusFields, s.shows 240 x.1 x.2 := fun x hx => by
  refine shows_of_mem h (mem_groups (g := [(frameAddr 240 x.1, x.2)]) ?_ (List.mem_singleton.2 rfl))
  unfold State.groups
  simp only [List.append_assoc]
  exact List.mem_append_left _ (mem_singles (mem_atFrame hx))

theorem shows_transitHeader : ∀ x ∈ s.transitHeader, s.shows 241 x.1 x.2 := fun x hx => by
  refine shows_of_mem h (mem_groups (g := [(frameAddr 241 x.1, x.2)]) ?_ (List.mem_singleton.2 rfl))
  unfold State.groups
  simp only [List.append_assoc]
  exact List.mem_append_right _ (List.mem_append_left _ (mem_singles (mem_atFrame hx)))

theorem shows_records : ∀ x ∈ s.recordFields, s.shows 241 x.1 x.2 := fun x hx => by
  refine shows_of_mem h (mem_groups (g := atFrame 241 s.recordFields) ?_ (mem_atFrame hx))
  unfold State.groups
  simp only [List.append_assoc]
  exact List.mem_append_right _ (List.mem_append_right _ (List.mem_append_left _ (List.mem_singleton.2 rfl)))

theorem shows_arms : ∀ x ∈ s.armFields, s.shows 242 x.1 x.2 := fun x hx => by
  refine shows_of_mem h (mem_groups (g := [(frameAddr 242 x.1, x.2)]) ?_ (List.mem_singleton.2 rfl))
  unfold State.groups
  simp only [List.append_assoc]
  exact List.mem_append_right _ (List.mem_append_right _ (List.mem_append_right _ (List.mem_append_left _
    (mem_singles (mem_atFrame hx)))))

theorem shows_row {k : Nat} (hk : k < 32) : s.shows 243 (64 * k) (s.row k).fieldBytes := by
  refine shows_of_mem h ?_
  have hm := imageRow_mem s hk
  exact hm

end

theorem shows_place {s : State} {entries : List (List Byte)} {size count base : Nat}
    (hf : ∀ x ∈ placeFields entries size count base, s.shows 240 x.1 x.2) {k : Nat} (hk : k < count) :
    s.shows 240 (base + size * k) (placeBytes entries size k) :=
  hf (base + size * k, placeBytes entries size k) (List.mem_map.2 ⟨k, List.mem_range.2 hk, rfl⟩)

theorem placeBytes_of_some {entries : List (List Byte)} {size k : Nat} {e : List Byte} (h : entries[k]? = some e) :
    placeBytes entries size k = e := by
  unfold placeBytes
  rw [List.getD_eq_getElem?_getD, h]
  rfl

/-- A place beyond the count reads 0. -/
theorem placeBytes_of_le {entries : List (List Byte)} {size k : Nat} (h : entries.length ≤ k) :
    placeBytes entries size k = List.replicate size 0 := by
  unfold placeBytes
  rw [List.getD_eq_getElem?_getD, List.getElem?_eq_none h]
  rfl

end Sys2Proof.Machine
end

section
/-! PROOF. What frames 240 to 250 show (O60): the fields of section 12.5, taken from the groups that the published image packs. -/

namespace Sys2Proof.Machine

theorem shows_append {s : State} {f k : Nat} {xs ys : List Byte} :
    s.shows f k (xs ++ ys) ↔ s.shows f k xs ∧ s.shows f (k + xs.length) ys := by
  have haddr : frameAddr f (k + xs.length) = frameAddr f k + xs.length := by simp only [frameAddr]; omega
  unfold State.shows
  rw [List.length_append, Memory.readBytes_add, haddr]
  exact ⟨fun h => List.append_inj h (by simp), fun ⟨hxs, hys⟩ => by rw [hxs, hys]⟩

section
variable {s : State} (h : s.imageStands)
include h

/-! ### The status frame -/

theorem shows_stagedPlace {k : Nat} (hk : k < 4) : s.shows 240 (22 + k) (placeBytes (s.manifest.staged.map fun e => byteN e.frame) 1 k) := by
  have hfields := shows_status h
  unfold State.statusFields State.statusFieldsA at hfields
  simp only [List.forall_mem_append] at hfields
  obtain ⟨⟨⟨⟨_, hplaces⟩, _⟩, _⟩, _⟩ := hfields
  have hplace := shows_place hplaces hk
  rwa [Nat.one_mul] at hplace

theorem shows_inFlightPlace {k : Nat} (hk : k < 4) :
    s.shows 240 (60 + 2 * k) (placeBytes (s.arbiter.inFlight.map fun a => s.flowEntry a false) 2 k) := by
  have hfields := shows_status h
  unfold State.statusFields State.statusFieldsC at hfields
  simp only [List.forall_mem_append] at hfields
  obtain ⟨_, ⟨⟨hplaces, _⟩, _⟩, _⟩ := hfields
  exact shows_place hplaces hk

theorem shows_waitPlace {k : Nat} (hk : k < 10) :
    s.shows 240 (70 + 2 * k) (placeBytes (s.arbiter.wait.map fun e => s.flowEntry e.arm e.elevated) 2 k) := by
  have hfields := shows_status h
  unfold State.statusFields State.statusFieldsC at hfields
  simp only [List.forall_mem_append] at hfields
  obtain ⟨_, ⟨_, hplaces⟩, _⟩ := hfields
  exact shows_place hplaces hk

theorem shows_rotor (r : RotorId) : ∀ x ∈ s.rotorFields r (if r = .r1 then 52 else 55), s.shows 240 x.1 x.2 := by
  have hfields := shows_status h
  unfold State.statusFields State.statusFieldsB at hfields
  simp only [List.forall_mem_append] at hfields
  obtain ⟨⟨_, ⟨⟨_, h1⟩, h2⟩, _⟩, _⟩ := hfields
  cases r with
  | r1 => exact h1
  | r2 => exact h2

/-! ### The transit and arm snapshots and the species image -/

theorem shows_recordPlace {k : Nat} (hk : k < 6) :
    s.shows 241 (8 + 40 * k) (placeBytes (s.queue.map Record.headBytes) 20 k)
      ∧ s.shows 241 (8 + 40 * k + 20) (placeBytes (s.queue.map fun q => q.view1.bytes) 7 k)
      ∧ s.shows 241 (8 + 40 * k + 28) (placeBytes (s.queue.map fun q => q.view2.bytes) 7 k) := by
  have hfields := shows_records h
  unfold State.recordFields State.recordPart at hfields
  simp only [List.forall_mem_append, List.forall_mem_map, List.mem_range] at hfields
  obtain ⟨⟨hhead, h1⟩, h2⟩ := hfields
  exact ⟨hhead k hk, h1 k hk, h2 k hk⟩

theorem shows_armEntry (a : ArmId) : s.shows 242 (16 + 24 * (armCode a - 1)) (s.arm a).entryBytes := by
  have hfields := shows_arms h
  unfold State.armFields at hfields
  simp only [List.forall_mem_append, List.forall_mem_map] at hfields
  exact hfields.2 a (mem_allArms a)

/-! ### Bytes that no field covers -/

theorem shows_recordGaps : ∀ k, k < 6 → s.shows 241 (8 + 40 * k + 27) [0] ∧ s.shows 241 (8 + 40 * k + 35) [0, 0, 0, 0, 0] := by
  intro k hk
  have hgap : ∀ k < 6, ∀ x ∈ groupShapes, apart (frameAddr 241 (8 + 40 * k + 27), 1) x ∧ apart (frameAddr 241 (8 + 40 * k + 35), 5) x := by
    unfold apart
    decide +kernel
  refine ⟨shows_gap h _ _ 1 (by decide) ?_ fun x hx => (hgap k hk x hx).1, shows_gap h _ _ 5 (by decide) ?_ fun x hx => (hgap k hk x hx).2⟩
  · simp only [frameAddr]; omega
  · simp only [frameAddr]; omega

theorem shows_armGap (a : ArmId) : s.shows 242 (16 + 24 * (armCode a - 1) + 18) (List.replicate 6 0) := by
  have hgap : ∀ a ∈ allArms, ∀ x ∈ groupShapes, apart (frameAddr 242 (16 + 24 * (armCode a - 1) + 18), 6) x := by
    unfold apart
    decide +kernel
  refine shows_gap h _ _ 6 (by decide) ?_ (hgap a (mem_allArms a))
  have hcode : armCode a ≤ 10 := by cases a <;> decide
  simp only [frameAddr]; omega

theorem shows_rowGap {k : Nat} (hk : k < 32) : s.shows 243 (64 * k + 48) (List.replicate 16 0) := by
  have hgap : ∀ k < 32, ∀ x ∈ groupShapes, apart (frameAddr 243 (64 * k + 48), 16) x := by
    unfold apart
    decide +kernel
  refine shows_gap h _ _ 16 (by decide) ?_ (hgap k hk)
  simp only [frameAddr]; omega

end

/-- The four bytes of an arm's entry that show its flow state: its code, kind and class, value. -/
def Flow.bytes : Flow → List Byte
  | .idle => [0, 0, 0, 0]
  | .waiting x => byteN 1 ++ byteN (bit (x.kind == .charge) 0 + 2 * x.cls.rank + bit x.wake 4) ++ wordN x.value
  | .inFlight x _ _ => byteN 2 ++ byteN (bit (x.kind == .charge) 0 + 2 * x.cls.rank + bit x.wake 4) ++ wordN x.value
  | .deferred v w => byteN 3 ++ byteN (bit w 4) ++ wordN v

theorem length_flowBytes (f : Flow) : f.bytes.length = 4 := by
  cases f <;> simp [Flow.bytes]

theorem entryBytes_eq (c : Arm) : c.entryBytes = byteN c.state.code ++ (byteN (outCauseCode c.outCause)
    ++ (byteN (bit c.returnPending 0 + bit c.inserted 1 + bit c.present 2 + bit c.relief 3) ++ (byteN (tagCode c.tag)
    ++ (wordN c.commanded ++ (wordN c.target ++ (wordN c.aperture ++ (c.flow.bytes ++ (byteN (bit c.monitor.counting 0)
    ++ (byteN c.monitor.counter ++ (byteN c.charges ++ byteN c.vents)))))))))) := by
  unfold Arm.entryBytes
  have deferredClass : ∀ v w, kindClass ⟨.lift, v, .urgent, w⟩ false w = bit w 4 := fun v w => by simp [kindClass, bit, FlowClass.rank]
  cases c.flow with
  | idle | waiting | inFlight => simp only [List.append_assoc]; rfl
  | deferred v w => simp only [List.append_assoc, Flow.request?, Flow.bytes, deferredClass]

/-! ### The obligation -/

/-- Settles O60: the frames keep showing the state (`imageStands_exec`), the codes are those of the model, and each field of section 12.5 is
a field of the image or a part of one. -/
theorem publishedFramesShowTheState : Obligations.PublishedFramesShowTheState := by
  refine ⟨fun c s t hf hp hs hc h ht => imageStands_exec hf hp hs hc h ht, ?_, fun s h => ⟨?_, ?_, ?_, ?_⟩⟩
  · exact ⟨rfl, rfl, rfl, rfl, rfl, rfl, rfl, rfl, rfl, rfl, rfl, rfl, rfl, rfl, rfl, rfl, rfl⟩
  · have hfields := shows_status h
    simp only [State.statusFields, State.statusFieldsA, State.statusFieldsB, State.statusFieldsC, List.forall_mem_append,
      List.forall_mem_cons] at hfields
    obtain ⟨⟨⟨⟨⟨h0, h4, h8, h10, h11, h12, h13, h14, h16, h17, h18, h19, h20, h21, -⟩, -⟩, h26, h28, h30, h32, h34, h36, h38, -⟩,
      ⟨⟨⟨h40, h41, h42, h44, h46, h48, h49, h50, -⟩, -⟩, -⟩, h58, h59, -⟩, ⟨⟨⟨-, h68, h69, -⟩, -⟩,
      h90, h91, h92, h93, h94, h95, h96, h97, h98, -⟩⟩ := hfields
    refine ⟨h0, h4, h8, h10, h11, h12, h13, h14, h16, h17, h18, h19, h20, fun hnil => ?_, fun e rest hcons => ?_, fun k e hk he => ?_,
      fun k hk hle => ?_, fun k hk hle => ?_, fun k hk hle => ?_, ?_, ?_, h26, h28, h30, h32, h34, h36, h38, h40, h41, h42, h44, h46, h48,
      h49, h50, fun r base hbase => ?_, h58, h59, fun k a x hk ha hx => ?_, h68, h69, fun k e x hk he hx => ?_, h90, h91, h92, h93, h94,
      h95, h96, h97, h98⟩
    · rw [hnil] at h21; exact h21
    · rw [hcons] at h21; exact h21
    · have hplace := shows_stagedPlace h hk
      rwa [placeBytes_of_some (e := byteN e.frame) (by rw [List.getElem?_map, he]; rfl)] at hplace
    · have hplace := shows_stagedPlace h hk
      rwa [placeBytes_of_le (by rw [List.length_map]; exact hle)] at hplace
    · have hplace := shows_inFlightPlace h hk
      rwa [placeBytes_of_le (by rw [List.length_map]; exact hle)] at hplace
    · have hplace := shows_waitPlace h hk
      rwa [placeBytes_of_le (by rw [List.length_map]; exact hle)] at hplace
    · exact shows_gap h 240 51 1 (by decide) (by decide) (by unfold apart; decide +kernel)
    · exact shows_gap h 240 99 157 (by decide) (by decide) (by unfold apart; decide +kernel)
    · have hrotor := shows_rotor h r
      rw [← hbase] at hrotor
      simp only [State.rotorFields, List.forall_mem_cons] at hrotor
      obtain ⟨hdrive, husability, hspeed, -⟩ := hrotor
      exact ⟨hdrive, husability, hspeed⟩
    · have hplace := shows_inFlightPlace h hk
      rw [placeBytes_of_some (e := s.flowEntry a false) (by rw [List.getElem?_map, ha]; rfl)] at hplace
      unfold State.flowEntry at hplace
      rw [hx] at hplace
      exact hplace
    · have hplace := shows_waitPlace h hk
      rw [placeBytes_of_some (e := s.flowEntry e.arm e.elevated) (by rw [List.getElem?_map, he]; rfl)] at hplace
      unfold State.flowEntry at hplace
      rw [hx] at hplace
      exact hplace
  · have hfields := shows_transitHeader h
    simp only [State.transitHeader, List.forall_mem_cons] at hfields
    obtain ⟨h0, h1, h2, h3, h4, h5, -⟩ := hfields
    refine ⟨h0, h1, h2, h3, h4, h5, ?_, ?_, fun k hk hle => ?_, shows_recordGaps h, fun k q hk hq => ⟨?_, fun r => ?_⟩⟩
    · exact shows_gap h 241 6 2 (by decide) (by decide) (by unfold apart; decide +kernel)
    · exact shows_gap h 241 248 8 (by decide) (by decide) (by unfold apart; decide +kernel)
    · obtain ⟨h0, h20, h28⟩ := shows_recordPlace h hk
      obtain ⟨h27, h35⟩ := shows_recordGaps h k hk
      rw [placeBytes_of_le (by rw [List.length_map]; exact hle)] at h0 h20 h28
      exact shows_append.2 ⟨h0, shows_append.2 ⟨h20, shows_append.2 ⟨h27, shows_append.2 ⟨h28, h35⟩⟩⟩⟩
    · have hplace := (shows_recordPlace h hk).1
      rwa [placeBytes_of_some (e := q.headBytes) (by rw [List.getElem?_map, hq]; rfl)] at hplace
    · obtain ⟨-, h1, h2⟩ := shows_recordPlace h hk
      cases r with
      | r1 => rwa [placeBytes_of_some (e := q.view1.bytes) (by rw [List.getElem?_map, hq]; rfl)] at h1
      | r2 => rwa [placeBytes_of_some (e := q.view2.bytes) (by rw [List.getElem?_map, hq]; rfl)] at h2
  · have hfields := shows_arms h
    simp only [State.armFields, List.forall_mem_append, List.forall_mem_cons] at hfields
    obtain ⟨⟨h0, h1, -⟩, -⟩ := hfields
    refine ⟨h0, h1, ?_, fun a c base hc hbase => ?_⟩
    · exact shows_gap h 242 2 14 (by decide) (by decide) (by unfold apart; decide +kernel)
    · subst hc
      have hentry := shows_armEntry h a
      have hgap := shows_armGap h a
      rw [← hbase] at hentry hgap
      simp only [entryBytes_eq, shows_append, length_byteN, length_wordN, length_flowBytes, Nat.add_assoc base, Nat.reduceAdd] at hentry
      obtain ⟨h0, h1, h2, h3, h4, h6, h8, h10, h14, h15, h16, h17⟩ := hentry
      have hflow : ∀ {f}, (s.arm a).flow = f → s.shows 242 (base + 10) f.bytes := fun hf => hf ▸ h10
      exact ⟨h0, h1, h2, h3, h4, h6, h8, hflow, fun _ => hflow, fun _ _ _ => hflow, fun _ _ => hflow, h14, h15, h16, h17, hgap⟩
  · intro k x hk hx
    subst hx
    have hrow := shows_row h hk
    unfold SpeciesRow.fieldBytes at hrow
    simp only [shows_append, List.length_append, length_byteN, length_byteI, length_wordN, Nat.reduceAdd, and_assoc] at hrow
    obtain ⟨h0, h1, h2, h4, h6, h8, h10, h12, h14, h16, h18, h20, h22, h24, h26, h28, h30, h32, h34, h36, h37, h38, h40, h42, h43, h44, h46⟩ := hrow
    refine ⟨h0, h1, ?_, h14, h16, h18, h20, h22, h24, h26, h28, h30, h32, h34, h36, h37, h38, h40, h42, h43, h44, h46, shows_rowGap h hk⟩
    simp only [shows_append, List.length_append, length_wordN, Nat.reduceAdd, and_assoc, Nat.add_assoc]
    exact ⟨h2, h4, h6, h8, h10, h12⟩

end Sys2Proof.Machine
end

section
/-! PROOF. The machine's step and the commands as such (log 2, log 19, log 28). -/

namespace Sys2Proof.Machine

/-- Settles O1: by the definition of a step. -/
theorem stepTakesTheFrontCommand : Obligations.StepTakesTheFrontCommand := by
  unfold Obligations.StepTakesTheFrontCommand step
  intro c rest s h
  rw [h]

theorem step_of_idle {s : State} (h : s.pending = []) : step s = .next s.idle := by
  unfold step
  rw [h]

/-- Settles O2: an idle step, by whether an event is due. -/
theorem idleStepIssuesADueEventOrPassesAMillisecond : Obligations.IdleStepIssuesADueEventOrPassesAMillisecond := by
  intro s hidle
  rw [step_of_idle hidle]
  unfold State.idle
  exact ⟨fun c hdue => by rw [hdue], fun hnone => by rw [hnone]⟩

/-- Settles O3: each command is a run of elementary acts, and none of them touches the commands that wait. -/
theorem everyCommandAnswersANextState : Obligations.EveryCommandAnswersANextState := by
  intro c s
  obtain ⟨t, ht⟩ := exec_answers c s
  refine ⟨t, ht, (run_exec c ht).keeps (P := fun u => u.pending = s.pending) (fun u v k hu => ?_) rfl⟩
  rw [k.pending]
  exact hu

/-- Settles O4: a command that is not served in a reset is one act, and an act waits for a running part. -/
theorem heldResetIgnoresCommands : Obligations.HeldResetIgnoresCommands := by
  intro c s hheld hserved
  cases c with
  | feedRunInactive | feedRunActive | powerReset | pinReset | resetEnd | manifestRamWrite => exact nomatch hserved
  | _ => exact if_pos hheld

/-- Settles O6: by the branches of a sample. -/
theorem eyeSampleFollowsItsTable : Obligations.EyeSampleFollowsItsTable := by
  intro e raw p debounce
  unfold Eye.sample
  refine ⟨fun hnone heq => ?_, fun hnone hne => ?_, fun edge hedge => ⟨fun heq => ?_, fun hne hshort => ?_, fun hne hlong => ?_⟩⟩
  · simp only [hnone, if_pos heq]
  · simp only [hnone, if_neg hne]
  · simp only [hedge, if_pos heq]
  · simp only [hedge, if_neg hne, if_pos hshort]
  · simp only [hedge, if_neg hne, if_neg (Int.not_lt.2 hlong)]

end Sys2Proof.Machine
end

section
/-! PROOF. The Manifest Reader's small acts in closed form: the call of a scan, the field check of the head, the departure of the head
(R25, R32, R33); and the statements that follow from them. -/

namespace Sys2Proof.Machine

/-! ### Closed forms -/

/-- A called scan begins, or is remembered; until the preload ends it has no effect (R25). -/
theorem requestScan_eq (s : State) : s.requestScan = { s with manifest := { s.manifest with
    scanning := s.manifest.scanning || decide (s.cfg.preload ≠ .running)
    scanRequest := if s.cfg.preload = .running then s.manifest.scanRequest else s.manifest.scanning } } := by
  unfold State.requestScan
  by_cases hpreload : s.cfg.preload = .running
  · simp only [hpreload, if_true, ne_eq, not_true_eq_false, decide_false, Bool.or_false]
  · cases hscanning : s.manifest.scanning <;> simp [hpreload, hscanning]

theorem requestScan_of_preload {s : State} (h : s.cfg.preload = .running) : s.requestScan = s := if_pos h

theorem requestScan_of_scanning {s : State} (h : s.cfg.preload ≠ .running) (hs : s.manifest.scanning = true) :
    s.requestScan = { s with manifest := { s.manifest with scanRequest := true } } := by
  unfold State.requestScan
  rw [if_neg h, if_pos hs]

theorem requestScan_of_idle {s : State} (h : s.cfg.preload ≠ .running) (hs : s.manifest.scanning = false) :
    s.requestScan = { s with manifest := { s.manifest with scanning := true, scanRequest := false } } := by
  unfold State.requestScan
  rw [if_neg h, if_neg (by rw [hs]; nofun)]

/-- The staged entries once the head, if it is a LOG ticket, has its field check made (R32). -/
def State.checkedHead (s : State) : List StagedTicket → List StagedTicket
  | [] => []
  | b :: more => (if b.kind = .log ∧ b.check = .notMade then { b with check := s.logFieldCheck b.area } else b) :: more

theorem checkHead_eq (s : State) :
    s.checkHead = { s with manifest := { s.manifest with staged := s.checkedHead s.manifest.staged } } := by
  unfold State.checkHead
  cases h : s.manifest.staged with
  | nil => dsimp only [State.checkedHead]; rw [← h]
  | cons b more =>
    dsimp only [State.checkedHead]
    split
    · rfl
    · rw [← h]

/-- The head's departure: the entry behind it becomes the head, and a scan is called (R33). -/
theorem departHead_eq (s : State) : s.departHead = { s with manifest := { s.manifest with
    staged := s.checkedHead s.manifest.staged.tail
    scanning := s.manifest.scanning || decide (s.cfg.preload ≠ .running)
    scanRequest := if s.cfg.preload = .running then s.manifest.scanRequest else s.manifest.scanning } } := by
  unfold State.departHead
  rw [checkHead_eq, requestScan_eq]
  rfl

/-! ### The scan (R25 to R27) -/

theorem scanTimerExpired_some {s : State} {w : Nat} (h : s.manifest.scanTimer = some w) :
    s.scanTimerExpired = State.requestScan { s with
      now := max s.now w
      manifest := { s.manifest with scanTimer := some (max s.now w + 10 * (s.manifest.scanReload + 1)) } } := by
  unfold State.scanTimerExpired
  rw [h]
  rfl

theorem scanTimerExpired_none {s : State} (h : s.manifest.scanTimer = none) : s.scanTimerExpired = s := by
  unfold State.scanTimerExpired
  rw [h]

theorem scanStep_of_idle {s : State} (h : s.manifest.scanning = false) : s.scanStep = s :=
  if_neg (by rw [h]; nofun)

theorem scanOnce_of_full {s : State} (h : 4 ≤ s.manifest.staged.length) : s.scanOnce = s.endScan .full := if_pos h

theorem scanFrame_of_notPosted {s : State} {f : Nat} (h : s.frameState f ≠ 1) : s.scanFrame f = s.endScan .notPosted := if_pos h

theorem scanFrame_of_held {s : State} {f : Nat} (h : s.frameState f = 1) (hheld : s.holdsFrame f = true) :
    s.scanFrame f = s.endScan .held := by
  unfold State.scanFrame
  rw [if_neg (not_not.2 h), if_pos hheld]

/-- Settles O12: by the cases of a scan that is called, and of a scan step. -/
theorem scansAreCalledAndEnd : Obligations.ScansAreCalledAndEnd := by
  intro s hrun
  have scan : ∀ {u}, s.requestScan = u → Reaches .scan s u := fun h => reaches_of_act (f := State.requestScan) rfl hrun h
  have timer : ∀ {u}, s.scanTimerExpired = u → Reaches .scanTimerExpiry s u := fun h =>
    reaches_of_act (f := State.scanTimerExpired) rfl hrun h
  have step : ∀ {u}, s.manifest.scanning = true → s.scanOnce = u → Reaches .scanStep s u := fun hs h =>
    reaches_of_act (f := State.scanStep) rfl hrun ((scanStep_eq_scanOnce hs).trans h)
  refine ⟨fun hpre => scan (requestScan_of_preload hpre), fun hpre hs => scan (requestScan_of_scanning hpre hs),
    fun hpre hs => scan (requestScan_of_idle hpre hs), fun w hw hpre hs => timer ?_, fun w hw hpre hs => timer ?_,
    fun hnone => timer (scanTimerExpired_none hnone), fun hs => reaches_of_act (f := State.scanStep) rfl hrun (scanStep_of_idle hs),
    fun hs hfull => step hs (scanOnce_of_full hfull), fun hs hlen hlink => step hs (scanOnce_of_chainEnd hlen ?_),
    fun hs hlen f hf hlo hhi => ⟨fun hpost => step hs ?_, fun hpost hheld => step hs ?_⟩⟩
  · rw [scanTimerExpired_some hw]
    exact requestScan_of_scanning hpre hs
  · rw [scanTimerExpired_some hw]
    exact requestScan_of_idle hpre hs
  · rw [hlink]; rfl
  · rw [scanOnce_of_linked hlen (by omega) (by omega), hf]
    exact scanFrame_of_notPosted hpost
  · rw [scanOnce_of_linked hlen (by omega) (by omega), hf]
    exact scanFrame_of_held hpost hheld

/-! ### SAVE tickets (R197) -/

section
variable {s : State} {e : StagedTicket} {rest : List StagedTicket} (h : s.manifest.staged = e :: rest)
include h

theorem takeUp_log (hkind : e.kind = .log) : s.takeUp = s.checkHead := by simp only [State.takeUp, h, hkind]
theorem takeUp_sync (hkind : e.kind = .sync) : s.takeUp = s.takeSync e := by simp only [State.takeUp, h, hkind]
theorem takeUp_species (hkind : e.kind = .species) : s.takeUp = s.takeSpecies e := by simp only [State.takeUp, h, hkind]
theorem takeUp_trim (hkind : e.kind = .trim) : s.takeUp = s.takeTrim e := by simp only [State.takeUp, h, hkind]
theorem takeUp_arm (hkind : e.kind = .arm) : s.takeUp = s.takeArm e := by simp only [State.takeUp, h, hkind]
theorem takeUp_geometry (hkind : e.kind = .geometry) : s.takeUp = s.takeGeometry e := by simp only [State.takeUp, h, hkind]
theorem takeUp_save (hkind : e.kind = .save) : s.takeUp = s.takeSave e := by simp only [State.takeUp, h, hkind]

end

/-- The first page of a save: the geometry is copied whole, and its first 64 bytes are sent (R197). -/
theorem beginPage_first (s : State) (x : Save) : s.beginPage x 1 = { s with cfg := { s.cfg with save := some { x with
    page := some ⟨1, s.geometry.toBytes.take 64, s.now + 10⟩
    sum := x.sum + sumWords (s.geometry.toBytes.take 64)
    geometry := s.geometry.toBytes } } } := rfl

theorem beginPage_new (s : State) (f : Nat) (tag : Word) : s.beginPage ⟨f, tag, none, 0, []⟩ 1 = { s with cfg := { s.cfg with
    save := some ⟨f, tag, some ⟨1, s.geometry.toBytes.take 64, s.now + 10⟩, sumWords (s.geometry.toBytes.take 64),
      s.geometry.toBytes⟩ } } := by
  have hsum : (0 : Word) + sumWords (s.geometry.toBytes.take 64) = sumWords (s.geometry.toBytes.take 64) := BitVec.zero_add _
  rw [beginPage_first]
  dsimp only
  rw [hsum]

/-- Settles O22: by whether a save is in flight, and whether a transfer runs. -/
theorem saveTicketStartsTheSave : Obligations.SaveTicketStartsTheSave := by
  intro s e rest hrun hstaged hkind
  have take : ∀ {u}, s.takeSave e = u → Reaches .ticketTakeUp s u := fun h =>
    reaches_of_act (f := State.takeUp) rfl hrun ((takeUp_save hstaged hkind).trans h)
  refine ⟨fun x hsave => take ?_, fun hsave htransfer => take ?_, fun hsave htransfer => take ?_⟩
  · unfold State.takeSave
    rw [hsave]
    rfl
  · unfold State.takeSave State.startSave
    rw [hsave]
    dsimp only
    rw [departHead_eq]
    have hbusy : s.cfg.transfer.isNone = false := by
      rw [Option.isNone_eq_false_iff]
      exact htransfer
    simp only [hbusy, Bool.and_false, if_neg Bool.false_ne_true]
  · unfold State.takeSave State.startSave
    rw [hsave]
    dsimp only
    rw [departHead_eq, departHead_eq]
    simp only [htransfer, Option.isNone_none, Bool.and_true, if_true, beginPage_new]
    rfl

end Sys2Proof.Machine
end

section
/-! PROOF. The head of the staged queue: its departure, the field check of a LOG ticket, SYNC tickets (R31 to R35, R43). -/

namespace Sys2Proof.Machine

/-! ### What a closure leaves to the Manifest Reader -/

section
variable (s : State) (f : Nat) (tag : Word) (res : Result) (detail : Nat) (fields : List (Nat × List Byte))

theorem cfg_closeFrame : (s.closeFrame f tag res detail fields).cfg = s.cfg := by
  have k := congrArg State.cfg (closeFrame_fields s f tag res detail fields); exact k
theorem species_closeFrame : (s.closeFrame f tag res detail fields).species = s.species := by
  have k := congrArg State.species (closeFrame_fields s f tag res detail fields); exact k
theorem geometry_closeFrame : (s.closeFrame f tag res detail fields).geometry = s.geometry := by
  have k := congrArg State.geometry (closeFrame_fields s f tag res detail fields); exact k

end

theorem logFieldCheck_congr {s t : State} (hspecies : t.species = s.species) (hgeometry : t.geometry = s.geometry) (area : List Byte) :
    t.logFieldCheck area = s.logFieldCheck area := by
  unfold State.logFieldCheck State.row
  rw [hspecies, hgeometry]

/-- The head departs from a state with the reader, the tables and the configuration memory of another (R33). -/
theorem departHead_of_reader {s u : State} {e : StagedTicket} {rest : List StagedTicket} (hstaged : s.manifest.staged = e :: rest)
    (hmanifest : u.manifest = s.manifest) (hcfg : u.cfg = s.cfg) (hcheck : ∀ area, u.logFieldCheck area = s.logFieldCheck area) :
    u.departHead = { u with manifest := { s.manifest with
      staged := s.checkedHead rest
      scanning := s.manifest.scanning || decide (s.cfg.preload ≠ .running)
      scanRequest := if s.cfg.preload = .running then s.manifest.scanRequest else s.manifest.scanning } } := by
  have hchecked : u.checkedHead rest = s.checkedHead rest := by
    cases rest with
    | nil => rfl
    | cons b more => simp only [State.checkedHead, hcheck]
  rw [departHead_eq, hmanifest, hcfg, hstaged, List.tail_cons, hchecked]

/-! ### The field check of a LOG ticket (R43) -/

theorem strictlyRising_iff (l : List Station) : strictlyRising l = true ↔ l.Pairwise fun p q => p.distance < q.distance := by
  induction l with
  | nil => exact iff_of_true rfl .nil
  | cons p rest ih =>
    cases rest with
    | nil => exact iff_of_true rfl (List.pairwise_singleton ..)
    | cons q rest =>
      rw [strictlyRising, Bool.and_eq_true, decide_eq_true_eq, ih, List.pairwise_cons (a := p)]
      refine and_congr_left fun hrest => ⟨fun hpq x hx => ?_, fun hp => hp q List.mem_cons_self⟩
      rcases List.mem_cons.1 hx with rfl | hx
      · exact hpq
      · exact Nat.lt_trans hpq (List.rel_of_pairwise_cons hrest hx)

theorem badDiameter_iff (l : List Station) (least : Nat) (most : Int) :
    (l.any fun p => decide (p.diameter < least) || decide (most < p.diameter)) = true
      ↔ ∃ p ∈ l, p.diameter < least ∨ most < p.diameter := by
  simp only [List.any_eq_true, Bool.or_eq_true, decide_eq_true_eq]

/-- The checks in the order of the table, the first that fails (R43). -/
theorem logFieldCheck_eq (s : State) (area : List Byte) : s.logFieldCheck area =
    if 31 < logSpecies area then .failed .speciesRange
    else if (s.row (logSpecies area)).valid = false then .failed .speciesInvalid
    else if logStationCount area = 0 ∨ 16 < logStationCount area then .failed .stationCount
    else if ¬ (logStations area).Pairwise (fun p q => p.distance < q.distance) then .failed .stationOrder
    else if ∃ p ∈ logStations area, p.diameter < 60 ∨ (s.geometry.maxAperture : Int) - s.geometry.clearance < p.diameter then
      .failed .diameter
    else if logExpected area < 300 ∨ 20000 < logExpected area then .failed .expectedLength
    else .passed := by
  unfold State.logFieldCheck
  simp only [Bool.not_eq_true', ← strictlyRising_iff, Bool.not_eq_true, badDiameter_iff]

/-! ### SYNC tickets (R35) -/

/-- Settles O17: the closed form of the head's departure, the table of R43, and the take-up by the head's kind. -/
theorem syncTicketClosesAndLogTicketWaits : Obligations.SyncTicketClosesAndLogTicketWaits := by
  intro s
  refine ⟨fun e rest res detail fields hstaged x hx => ?_, fun area species stations length read hspecies hstations hlength hread => ?_,
    fun hrun => ⟨fun hnil => ?_, fun e rest hstaged => ⟨fun hkind hmade => ?_, fun hkind hnot => ?_, fun hkind => ?_⟩⟩⟩
  · simp only [List.mem_cons, List.not_mem_nil, or_false] at hx
    have departs : ∀ u : State, u.manifest = s.manifest → u.cfg = s.cfg → (∀ area, u.logFieldCheck area = s.logFieldCheck area) →
        u.departHead = _ := fun u => departHead_of_reader hstaged
    rcases hx with rfl | rfl
    · rw [departs s rfl rfl fun _ => rfl]
      cases rest <;> rfl
    · rw [State.headFinished, departs _ (closeFrame_manifest ..) (cfg_closeFrame ..)
        (logFieldCheck_congr (species_closeFrame ..) (geometry_closeFrame ..))]
      cases rest <;> rfl
  · subst hspecies hstations hlength hread
    have hread : (List.range (min (areaWord area 18).toNat 16)).map (fun k =>
        (⟨(areaWord area (20 + 4 * k)).toNat, (areaWord area (20 + 4 * k + 2)).toNat⟩ : Station)) = logStations area :=
      List.map_congr_left fun k _ => by rw [Nat.add_right_comm]
    rw [hread]
    exact logFieldCheck_eq s area
  · have take : s.takeUp = s := by simp only [State.takeUp, hnil]
    exact reaches_of_act (f := State.takeUp) rfl hrun take
  · refine reaches_of_act (f := State.takeUp) rfl hrun ?_
    rw [takeUp_log hstaged hkind, checkHead_eq, hstaged, State.checkedHead, if_neg fun h => hmade h.2, ← hstaged]
  · refine reaches_of_act (f := State.takeUp) rfl hrun ?_
    rw [takeUp_log hstaged hkind, checkHead_eq, hstaged, State.checkedHead, if_pos ⟨hkind, hnot⟩]
  · refine reaches_of_act (f := State.takeUp) rfl hrun ?_
    rw [takeUp_sync hstaged hkind, State.takeSync, State.syncOutcome, hstaged]
    rfl

end Sys2Proof.Machine
end

section
/-! PROOF. The writing of a closure or a rejection (R36), and the bytes of an outcome section (R59, R83, R206, R207). -/

namespace Sys2Proof.Machine

/-! ### The outcome section -/

/-- The common part of an outcome, at its offsets in the section (R36). -/
def outcomeCommon (res : Result) (detail : Nat) (sequence tag : Word) (time : Nat) : List (Nat × List Byte) :=
  [(0, wordN res.code), (2, wordN detail), (4, bytesOfWord sequence), (6, bytesOfWord tag), (8, bytesOfLong (BitVec.ofNat 32 time))]

/-- Kind-specific fields, at their offsets in the section. -/
def inSection (fields : List (Nat × List Byte)) : List (Nat × List Byte) := fields.map fun f => (f.1 - 128, f.2)

theorem outcomeSection_eq (res : Result) (detail : Nat) (sequence tag : Word) (time : Nat) (fields : List (Nat × List Byte)) :
    outcomeSection res detail sequence tag time fields = packBytes 128 (outcomeCommon res detail sequence tag time ++ inSection fields) := by
  unfold outcomeSection
  simp only [List.map_append, List.map_cons, List.map_nil, Nat.reduceSub]
  rfl

/-- The places of the common part. -/
theorem shape_outcomeCommon (res : Result) (detail : Nat) (sequence tag : Word) (time : Nat) :
    (outcomeCommon res detail sequence tag time).map Field.shape = [(0, 2), (2, 2), (4, 2), (6, 2), (8, 4)] := by
  simp [outcomeCommon, Field.shape]

/-- Packed bytes show a field that no field before it shares a byte with. -/
theorem packBytes_first {n : Nat} {before behind : List (Nat × List Byte)} {x : Nat × List Byte} (hn : x.1 + x.2.length ≤ n)
    (h : ∀ y ∈ before, apart (Field.shape y) (Field.shape x)) :
    ((packBytes n (before ++ x :: behind)).drop x.1).take x.2.length = x.2 := by
  refine List.ext_getElem (by simp; omega) fun k hk hk' => ?_
  have hfirst : ((before ++ x :: behind).find? fun f => decide (f.1 ≤ x.1 + k ∧ x.1 + k < f.1 + f.2.length)) = some x := by
    rw [List.find?_append, List.find?_eq_none.2 fun y hy => ?_, List.find?_cons_of_pos (by simp; omega)]
    · rfl
    · have hap := h y hy
      unfold apart Field.shape at hap
      simp only [decide_eq_true_eq]
      omega
  rw [List.getElem_take, List.getElem_drop]
  simp only [packBytes, List.getElem_map, List.getElem_range]
  rw [hfirst]
  simp [List.getD, hk']

theorem take_add_of {l xs ys : List Byte} {m n : Nat} (hx : l.take m = xs) (hy : (l.drop m).take n = ys) : l.take (m + n) = xs ++ ys := by
  rw [List.take_add, hx, hy]

/-- The common part of an outcome stands before the kind-specific fields (R36). -/
theorem take_outcomeSection (res : Result) (detail : Nat) (sequence tag : Word) (time : Nat) (fields : List (Nat × List Byte)) :
    (outcomeSection res detail sequence tag time fields).take 12 =
      wordN res.code ++ wordN detail ++ bytesOfWord sequence ++ bytesOfWord tag ++ bytesOfLong (BitVec.ofNat 32 time) := by
  rw [outcomeSection_eq]
  have common : ∀ x ∈ outcomeCommon res detail sequence tag time,
      ((packBytes 128 (outcomeCommon res detail sequence tag time ++ inSection fields)).drop x.1).take x.2.length = x.2 := by
    intro x hx
    obtain ⟨before, behind, hsplit⟩ := List.append_of_mem hx
    have hshape := List.mem_map_of_mem (f := Field.shape) hx
    rw [shape_outcomeCommon] at hshape
    have hlast := (by decide : ∀ x ∈ ([(0, 2), (2, 2), (4, 2), (6, 2), (8, 4)] : List (Nat × Nat)), x.1 + x.2 ≤ 128) _ hshape
    have hapart : ((outcomeCommon res detail sequence tag time).map Field.shape).Pairwise apart := by
      rw [shape_outcomeCommon]
      unfold apart
      decide
    rw [hsplit, List.map_append, List.pairwise_append] at hapart
    obtain ⟨-, -, hcross⟩ := hapart
    rw [hsplit, List.append_assoc, List.cons_append]
    exact packBytes_first hlast fun y hy => hcross _ (List.mem_map_of_mem hy) _ (List.mem_map_of_mem List.mem_cons_self)
  simp only [outcomeCommon, List.forall_mem_cons] at common
  obtain ⟨h0, h2, h4, h6, h8, -⟩ := common
  exact take_add_of (take_add_of (take_add_of (take_add_of h0 h2) h4) h6) h8

section
variable {res : Result} {detail : Nat} {sequence tag : Word} {time : Nat} {fields : List (Nat × List Byte)}
  (hwithin : ∀ x ∈ fields, 140 ≤ x.1 ∧ x.1 + x.2.length ≤ 256)
include hwithin

theorem outcomeFields_apart (hapart : fields.Pairwise fun x y => x.1 + x.2.length ≤ y.1 ∨ y.1 + y.2.length ≤ x.1) :
    ((outcomeCommon res detail sequence tag time ++ inSection fields).map Field.shape).Pairwise apart := by
  rw [List.map_append, List.pairwise_append, shape_outcomeCommon]
  refine ⟨by unfold apart; decide, ?_, fun x hx y hy => ?_⟩
  · unfold inSection
    rw [List.pairwise_map, List.pairwise_map]
    refine hapart.imp_of_mem fun hx hy hxy => ?_
    have := hwithin _ hx
    have := hwithin _ hy
    unfold apart Field.shape
    dsimp only
    omega
  · simp only [inSection, List.map_map, List.mem_map] at hy
    obtain ⟨z, hz, rfl⟩ := hy
    have hlast : x.1 + x.2 ≤ 12 := (by decide : ∀ x ∈ ([(0, 2), (2, 2), (4, 2), (6, 2), (8, 4)] : List (Nat × Nat)), x.1 + x.2 ≤ 12) x hx
    have := hwithin _ hz
    exact .inl (by simp only [Function.comp_apply, Field.shape]; omega)

theorem outcome_field (hapart : fields.Pairwise fun x y => x.1 + x.2.length ≤ y.1 ∨ y.1 + y.2.length ≤ x.1) {x : Nat × List Byte}
    (hx : x ∈ fields) : ((outcomeSection res detail sequence tag time fields).drop (x.1 - 128)).take x.2.length = x.2 := by
  have hb := hwithin x hx
  have hmem : (x.1 - 128, x.2) ∈ outcomeCommon res detail sequence tag time ++ inSection fields :=
    List.mem_append_right _ (List.mem_map.2 ⟨x, hx, rfl⟩)
  refine List.ext_getElem (by simp; omega) fun k hk hk' => ?_
  rw [List.getElem_take, List.getElem_drop]
  simp only [outcomeSection_eq]
  exact packBytes_field (outcomeFields_apart hwithin hapart) hmem hk' (by dsimp only; omega)

theorem outcome_gap {k : Nat} (hlo : 140 ≤ k) (hhi : k < 256) (hgap : ∀ x ∈ fields, k < x.1 ∨ x.1 + x.2.length ≤ k) :
    (outcomeSection res detail sequence tag time fields)[k - 128]? = some 0 := by
  have hk : k - 128 < 128 := by omega
  rw [outcomeSection_eq, List.getElem?_eq_getElem (by simpa using hk)]
  refine congrArg some (packBytes_uncovered hk fun x hx => ?_)
  rcases List.mem_append.1 hx with hx | hx
  · have hshape := List.mem_map_of_mem (f := Field.shape) hx
    rw [shape_outcomeCommon] at hshape
    have hlast := (by decide : ∀ x ∈ ([(0, 2), (2, 2), (4, 2), (6, 2), (8, 4)] : List (Nat × Nat)), x.1 + x.2 ≤ 12) _ hshape
    unfold Field.shape at hlast
    omega
  · obtain ⟨y, hy, rfl⟩ := List.mem_map.1 hx
    have := hwithin y hy
    have := hgap y hy
    dsimp only
    omega

end

/-! ### The closure -/

section
variable (s : State) (f : Nat) (tag : Word) (res : Result) (detail : Nat) (fields : List (Nat × List Byte))

/-- A closure in closed form, but for what it writes into the frame. -/
theorem closeFrame_eq : s.closeFrame f tag res detail fields = { s with
    ram := (s.closeFrame f tag res detail fields).ram
    counters := s.counters.finish res
    cause := s.cause ||| oneBit (if res.rejects then Cause.rejected else .closed).place } := by
  have framed : ∀ v : State, { v with ram := s.ram, counters := s.counters, cause := s.cause } = s →
      v = { s with ram := v.ram, counters := v.counters, cause := v.cause } := fun v h =>
    congrArg (fun u : State => { u with ram := v.ram, counters := v.counters, cause := v.cause }) h
  refine (framed _ (closeFrame_fields s f tag res detail fields)).trans ?_
  rw [closeFrame_counters, closeFrame_cause]
  rfl

/-- The counter and the cause, whatever the state of the frame (R36). -/
theorem closeFrame_raises : { s.closeFrame f tag res detail fields with ram := s.ram } =
    if res.rejects then
      { s with counters := { s.counters with rejections := s.counters.rejections + 1 }, cause := s.cause ||| 0x0002#16 }
    else { s with counters := { s.counters with closures := s.counters.closures + 1 }, cause := s.cause ||| 0x0001#16 } := by
  rw [closeFrame_eq]
  unfold Counters.finish
  cases res.rejects <;> rfl

theorem ram_closeFrame_of_notTaken (h : s.frameState f ≠ 2) : (s.closeFrame f tag res detail fields).ram = s.ram := by
  rw [closeFrame_ram, if_neg h]

theorem ram_closeFrame_of_taken (h : s.frameState f = 2) : (s.closeFrame f tag res detail fields).ram =
    (s.ram.writeBytes (frameAddr f 128)
      (outcomeSection res detail ((s.counters.finish res).finished res) tag s.now fields)).writeBytes (frameAddr f 2) [res.frameState] := by
  rw [closeFrame_ram, if_pos h]

/-- The sequence number of an outcome is the counter that the closure or rejection has raised (R36). -/
theorem finished_finish (k : Counters) : (k.finish res).finished res = (if res.rejects then k.rejections else k.closures) + 1 := by
  unfold Counters.finish Counters.finished
  cases res.rejects <;> rfl

theorem frameState_closeFrame (h : s.frameState f = 2) :
    (s.closeFrame f tag res detail fields).frameState f = if res.rejects then 4 else 3 := by
  unfold State.frameState
  rw [ram_closeFrame_of_taken _ _ _ _ _ _ h, Memory.writeBytes_cons, Memory.writeBytes_nil, Memory.read_write_self]
  rfl

theorem outcome_closeFrame (h : s.frameState f = 2) : (s.closeFrame f tag res detail fields).ram.readBytes (frameAddr f 128) 128 =
    outcomeSection res detail ((if res.rejects then s.counters.rejections else s.counters.closures) + 1) tag s.now fields := by
  rw [ram_closeFrame_of_taken _ _ _ _ _ _ h, Memory.readBytes_writeBytes_of_apart, Memory.readBytes_writeBytes_of_length, finished_finish]
  · exact length_outcomeSection ..
  · simp only [frameAddr, List.length_cons, List.length_nil]
    omega

end

/-- Settles O16: the closure by whether the frame stands TAKEN, and the packed bytes of an outcome field by field. -/
theorem frameIsClosedOnlyWhileTaken : Obligations.FrameIsClosedOnlyWhileTaken := by
  refine ⟨fun s f tag res detail fields => ⟨closeFrame_raises .., fun hnot => ram_closeFrame_of_notTaken _ _ _ _ _ _ hnot, fun htaken =>
      ⟨frameState_closeFrame _ _ _ _ _ _ htaken, outcome_closeFrame _ _ _ _ _ _ htaken, fun a ha hout => closeFrame_read ha ?_⟩⟩,
    fun res detail sequence tag time fields _ => take_outcomeSection .., fun res detail sequence tag time fields outcome hout hwithin hap => ?_,
    fun q rep => rfl, rfl, fun v => rfl, rfl, rfl, rfl, rfl, rfl⟩
  · simp only [frameAddr] at hout ⊢
    omega
  · subst hout
    exact ⟨length_outcomeSection .., fun x hx => outcome_field hwithin hap hx, fun k hlo hhi hgap => outcome_gap hwithin hlo hhi hgap⟩

end Sys2Proof.Machine
end

section
/-! PROOF. A frame that a scan takes or rejects: what becomes of the reader, and of the bytes of the manifest RAM (R23, R27, R29, R32). -/

namespace Sys2Proof.Machine

/-! ### Publication, and bytes outside the published frames -/

theorem publish_withRam (old new : State) (m : Memory) : { publish old new with ram := m } = { new with ram := m } := by
  have k := congrArg (fun u : State => { u with ram := m }) (publish_publishedFrom old new).1
  exact k

theorem not_isPublished_frameAddr {f k : Nat} (hf : f ≤ 239) (hk : k < 256) : ¬ isPublished (frameAddr f k) := by
  unfold isPublished frameAddr
  omega

/-- Publication leaves the bytes of a ticket frame. -/
theorem publish_readBytes (old new : State) {f : Nat} (hf : f ≤ 239) {k n : Nat} (hn : k + n ≤ 256) :
    (publish old new).ram.readBytes (frameAddr f k) n = new.ram.readBytes (frameAddr f k) n :=
  Memory.readBytes_congr fun j hj => publish_ticketFramesKept old new _ (by
    have h := not_isPublished_frameAddr hf (k := k + j) (by omega)
    rwa [frameAddr, ← Nat.add_assoc] at h)

/-! ### The cursor and its hold mark (R23) -/

theorem read_writeFrame_byte (s : State) (f k : Nat) (b : Byte) (a : Nat) :
    (s.writeFrame f k [b]).ram.read a = if a = frameAddr f k then b else s.ram.read a := by
  rw [State.ram_writeFrame, Memory.writeBytes_cons, Memory.writeBytes_nil, Memory.read_write]
  simp only [eq_comm]

theorem moveCursor_eq (s : State) (f : Nat) :
    s.moveCursor f = { s with manifest := { s.manifest with cursor := f }, ram := (s.moveCursor f).ram } := by
  unfold State.moveCursor
  dsimp only
  by_cases h : s.manifest.cursor = 0 ∨ s.manifest.cursor = f
  · rw [if_pos h]; rfl
  · rw [if_neg h]; rfl

theorem read_moveCursor (s : State) (f a : Nat) : (s.moveCursor f).ram.read a =
    if a = frameAddr f 3 then 1
    else if s.manifest.cursor ≠ 0 ∧ a = frameAddr s.manifest.cursor 3 then 0
    else s.ram.read a := by
  have hinj : frameAddr s.manifest.cursor 3 = frameAddr f 3 ↔ s.manifest.cursor = f := by simp only [frameAddr]; omega
  unfold State.moveCursor
  dsimp only
  by_cases h : s.manifest.cursor = 0 ∨ s.manifest.cursor = f
  · rw [if_pos h]
    show (s.writeFrame f 3 [1]).ram.read a = _
    rw [read_writeFrame_byte]
    by_cases ha : a = frameAddr f 3
    · rw [if_pos ha, if_pos ha]
    · rw [if_neg ha, if_neg ha, if_neg]
      rintro ⟨hzero, hold⟩
      exact ha (hold.trans (hinj.2 (h.resolve_left hzero)))
  · rw [if_neg h]
    push Not at h
    obtain ⟨hzero, hne⟩ := h
    show ((s.writeFrame f 3 [1]).writeFrame s.manifest.cursor 3 [0]).ram.read a = _
    rw [read_writeFrame_byte, read_writeFrame_byte]
    by_cases ha : a = frameAddr f 3
    · rw [if_pos ha, if_pos ha, if_neg fun hold => hne (hinj.1 (hold.symm.trans ha))]
    · simp only [if_neg ha, ne_eq, hzero, not_false_eq_true, true_and]

/-! ### A frame that is taken (R27, R32) -/

/-- The head is checked after the cursor has moved as it would be if only the cursor had been set, but for the manifest RAM. -/
theorem checkHead_moveCursor_withRam (s : State) (f : Nat) (m : Memory) : { (s.moveCursor f).checkHead with ram := m } =
    { State.checkHead { s with manifest := { s.manifest with cursor := f } } with ram := m } := by
  rw [checkHead_eq, checkHead_eq, moveCursor_eq]
  rfl

/-- The entry a taken frame stages: the copy of its checked area (R27). -/
def stagedOf (f : Nat) (kind : TicketKind) (area : List Byte) : StagedTicket :=
  { frame := f, kind := kind, tag := areaWord area 6, area := area, check := .notMade, bound := false }

theorem takeFrame_withRam (s : State) (f : Nat) (kind : TicketKind) (area : List Byte) :
    { s.takeFrame f kind area with ram := s.ram } = State.checkHead { s with manifest := { s.manifest with
      cursor := f, staged := s.manifest.staged ++ [stagedOf f kind area] } } := by
  unfold State.takeFrame
  dsimp only
  rw [checkHead_moveCursor_withRam, checkHead_eq, checkHead_eq]
  rfl

theorem read_takeFrame (s : State) (f : Nat) (kind : TicketKind) (area : List Byte) (a : Nat) :
    (s.takeFrame f kind area).ram.read a =
      if a = frameAddr f 2 then 2
      else if a = frameAddr f 3 then 1
      else if s.manifest.cursor ≠ 0 ∧ a = frameAddr s.manifest.cursor 3 then 0
      else s.ram.read a := by
  have hapart : ∀ g, frameAddr f 2 ≠ frameAddr g 3 := fun g => by simp only [frameAddr]; omega
  unfold State.takeFrame
  dsimp only
  rw [checkHead_ram, read_moveCursor]
  show (if _ then _ else if s.manifest.cursor ≠ 0 ∧ a = frameAddr s.manifest.cursor 3 then _
    else (s.writeFrame f 2 [2]).ram.read a) = _
  rw [read_writeFrame_byte]
  by_cases ha : a = frameAddr f 2
  · subst ha
    simp only [hapart, if_true, if_false, and_false]
  · simp only [ha, if_false]

section
variable {s : State} {f : Nat} (hposted : s.frameState f = 1) (hfree : s.holdsFrame f = false)
include hposted hfree

theorem scanFrame_of_good {kind : TicketKind} (hsum : sumWords (s.ram.readBytes (frameAddr f 4) 124) = 0)
    (hkind : TicketKind.ofCode (areaWord (s.ram.readBytes (frameAddr f 4) 124) 4) = some kind) :
    s.scanFrame f = s.takeFrame f kind (s.ram.readBytes (frameAddr f 4) 124) := by
  unfold State.scanFrame
  rw [if_neg (not_not.2 hposted), if_neg (by rw [hfree]; nofun)]
  dsimp only
  rw [if_neg (not_not.2 hsum), hkind]

theorem scanFrame_of_badSum (hsum : sumWords (s.ram.readBytes (frameAddr f 4) 124) ≠ 0) :
    s.scanFrame f = s.rejectAtScan f .check (sumWords (s.ram.readBytes (frameAddr f 4) 124)) := by
  unfold State.scanFrame
  rw [if_neg (not_not.2 hposted), if_neg (by rw [hfree]; nofun)]
  exact if_pos hsum

theorem scanFrame_of_unknownKind (hsum : sumWords (s.ram.readBytes (frameAddr f 4) 124) = 0)
    (hkind : TicketKind.ofCode (areaWord (s.ram.readBytes (frameAddr f 4) 124) 4) = none) :
    s.scanFrame f = s.rejectAtScan f .kind (areaWord (s.ram.readBytes (frameAddr f 4) 124) 4) := by
  unfold State.scanFrame
  rw [if_neg (not_not.2 hposted), if_neg (by rw [hfree]; nofun)]
  dsimp only
  rw [if_neg (not_not.2 hsum), hkind]

end

theorem scanStep_of_linked {s : State} {f : Nat} (hscanning : s.manifest.scanning = true) (hlen : s.manifest.staged.length < 4)
    (hf : (s.ram.word (frameAddr s.manifest.cursor 0)).toNat = f) (hlo : 1 ≤ f) (hhi : f ≤ 239) : s.scanStep = s.scanFrame f := by
  rw [scanStep_eq_scanOnce hscanning, scanOnce_of_linked hlen (by omega) (by omega), hf]

/-- Settles O14: by the closed form of a taken frame. -/
theorem scanStepTakesAPostedFrame : Obligations.ScanStepTakesAPostedFrame := by
  intro s f kind hrun hscanning hlen hf hlo hhi hposted hfree hsum hkind
  refine answers_of_act (f := State.scanStep) rfl hrun ?_
  rw [scanStep_of_linked hscanning hlen hf hlo hhi, scanFrame_of_good hposted hfree hsum hkind]
  refine ⟨(publish_withRam ..).trans (takeFrame_withRam ..), fun a ha => ?_⟩
  rw [publish_ticketFramesKept s _ a ha, read_takeFrame]

/-! ### A frame that is rejected (R29, R36) -/

/-- A rejected frame passes TAKEN on its way, so its outcome is written (R29). -/
theorem frameState_writeFrame_taken (s : State) (f : Nat) : (s.writeFrame f 2 [2]).frameState f = 2 := by
  unfold State.frameState
  rw [read_writeFrame_byte, if_pos rfl]

section
variable (s : State) (f : Nat) {res : Result} (hres : res.rejects = true) (detail : Word)
include hres

theorem rejectAtScan_withRam : { s.rejectAtScan f res detail with ram := s.ram } = { s with
    counters := { s.counters with rejections := s.counters.rejections + 1 }
    cause := s.cause ||| 0x0002#16
    manifest := { s.manifest with cursor := f } } := by
  unfold State.rejectAtScan
  rw [moveCursor_eq, closeFrame_eq]
  unfold Counters.finish
  rw [if_pos hres, if_pos hres]
  rfl

theorem read_rejectAtScan {a : Nat} (hout : a < frameAddr f 128 ∨ frameAddr f 256 ≤ a) :
    (s.rejectAtScan f res detail).ram.read a =
      if a = frameAddr f 2 then 4
      else if a = frameAddr f 3 then 1
      else if s.manifest.cursor ≠ 0 ∧ a = frameAddr s.manifest.cursor 3 then 0
      else s.ram.read a := by
  have hapart : ∀ g, frameAddr f 2 ≠ frameAddr g 3 := fun g => by simp only [frameAddr]; omega
  unfold State.rejectAtScan
  rw [read_moveCursor, closeFrame_manifest]
  show (if _ then _ else if s.manifest.cursor ≠ 0 ∧ a = frameAddr s.manifest.cursor 3 then _ else _) = _
  by_cases ha : a = frameAddr f 2
  · subst ha
    have hstate := frameState_closeFrame (s.writeFrame f 2 [2]) f (s.ram.word (frameAddr f 6)) res detail.toNat []
      (frameState_writeFrame_taken s f)
    rw [if_pos hres] at hstate
    simp only [hapart, if_true, if_false, and_false]
    exact hstate
  · rw [closeFrame_read ha (by simp only [frameAddr] at hout ⊢; omega), read_writeFrame_byte, if_neg ha, if_neg ha]

theorem outcome_rejectAtScan : (s.rejectAtScan f res detail).ram.readBytes (frameAddr f 128) 128 =
    outcomeSection res detail.toNat (s.counters.rejections + 1) (s.ram.word (frameAddr f 6)) s.now [] := by
  unfold State.rejectAtScan
  have written := outcome_closeFrame (s.writeFrame f 2 [2]) f (s.ram.word (frameAddr f 6)) res detail.toNat []
    (frameState_writeFrame_taken s f)
  rw [if_pos hres] at written
  refine Eq.trans (Memory.readBytes_congr fun k hk => ?_) written
  rw [read_moveCursor, if_neg (by simp only [frameAddr]; omega), if_neg (by simp only [frameAddr]; omega)]

end

/-- Settles O15: by the closed form of a frame rejected at scan, for a bad check and for an unknown kind alike. -/
theorem scanStepRejectsABadFrame : Obligations.ScanStepRejectsABadFrame := by
  intro s f res detail hrun hscanning hlen hf hlo hhi hposted hfree hwhy
  have hrejected : res.rejects = true ∧ s.scanFrame f = s.rejectAtScan f res detail := by
    rcases hwhy with ⟨rfl, rfl, hsum⟩ | ⟨rfl, rfl, hsum, hkind⟩
    · exact ⟨rfl, scanFrame_of_badSum hposted hfree hsum⟩
    · exact ⟨rfl, scanFrame_of_unknownKind hposted hfree hsum hkind⟩
  obtain ⟨hres, hscan⟩ := hrejected
  refine answers_of_act (f := State.scanStep) rfl hrun ?_
  rw [scanStep_of_linked hscanning hlen hf hlo hhi, hscan]
  refine ⟨(publish_withRam ..).trans (rejectAtScan_withRam s f hres detail), ?_, fun a ha hout => ?_⟩
  · rw [publish_readBytes _ _ hhi (by decide), outcome_rejectAtScan s f hres]
  · rw [publish_ticketFramesKept s _ a ha, read_rejectAtScan s f hres detail hout]

end Sys2Proof.Machine
end

section
/-! PROOF. The state right after reset, the samples of the temperature loop, and the park timer (R49, R50, R77, R120). -/

namespace Sys2Proof.Machine

/-! ### The reset state -/

/-- The state right after reset is one whose blocks have been reset, with both eyes clear and no rotor at speed. -/
theorem reset_eq_resetBlocks : State.reset = State.reset.resetBlocks ⟨.clear, .clear, false, false⟩ := rfl

theorem legal_stateReset : State.reset.Legal where
  manifest := legal_manifestReset
  cfg := legal_cfgReset
  quality := legal_qualityReset
  bits := ⟨within_zero _, within_zero _, by unfold within; decide⟩
  queue := ⟨Nat.zero_le 6, List.nodup_nil, fun y hy => nomatch hy⟩

/-- Settles O53: each invariant holds of blocks that have been reset. -/
theorem resetStateMeetsTheInvariants : Obligations.ResetStateMeetsTheInvariants := by
  obtain ⟨hreader, hregisters, hframes⟩ := (legal_iff State.reset).1 legal_stateReset
  refine ⟨State.reset_memories_wf, ?_, ?_, ⟨firstFailed_default, rfl, Nat.zero_le 4⟩, fun a p hp => ?_,
    (trims_speciesReset State.reset).of_species rfl, hreader, hregisters, hframes⟩
  · rw [reset_eq_resetBlocks]; exact holdsStand_resetBlocks _ _
  · rw [reset_eq_resetBlocks, flowAgrees_iff]; exact agrees_resetBlocks _ _
  · cases a <;> exact nomatch hp

/-! ### The temperature loop (R49, R50) -/

theorem temperatureReading_valid {i : Nat} (hlo : 3600 ≤ i) (hhi : i ≤ 21000) :
    temperatureReading i = some ((((max 4000 (min i 20000) - 4000) * 1000 / 16000 : Nat) : Int) - 400) :=
  if_neg (by omega)

theorem temperatureReading_faulted {i : Nat} (h : i < 3600 ∨ 21000 < i) : temperatureReading i = none := if_pos h

/-- The table of R50, read row by row. -/
theorem classed_eq (s : State) (q : Record) : s.classed q =
    match q.frozenFlag, s.temp.latest, s.temp.lastValid with
    | .frozen, v, _ => { q with latched := v, tempClass := some .frozen, reading := v }
    | .thawed, v, _ => { q with latched := v, tempClass := some .thawed, reading := v }
    | .unflagged, some v, _ => { q with latched := some v, tempClass := some (frozenBy s.geometry v), reading := some v }
    | .unflagged, none, some v =>
      if s.temp.heldLogs < s.geometry.tempHoldLimit then
        { q with latched := none, tempClass := some (frozenBy s.geometry v), reading := some v, tempHeld := true }
      else { q with latched := none, tempClass := some .thawed, reading := none, tempUnknown := true }
    | .unflagged, none, none => { q with latched := none, tempClass := some .thawed, reading := none, tempUnknown := true } := by
  unfold State.classed
  cases hflag : q.frozenFlag <;> cases hlatest : s.temp.latest <;> cases hvalid : s.temp.lastValid <;> simp [hflag, hlatest, hvalid]

/-- Settles O23: by whether the loop current is valid, and by the rows of the table of R50. -/
theorem temperatureSamplesAndClassesFollowTheirTables : Obligations.TemperatureSamplesAndClassesFollowTheirTables := by
  refine ⟨fun s i hrun => ⟨fun hlo hhi v hv => ?_, fun hfault => ?_⟩, fun s q hheld hunknown => ?_⟩
  · refine reaches_of_act (f := fun s => s.sampleTemperature i) rfl hrun ?_
    simp only [State.sampleTemperature, temperatureReading_valid hlo hhi, ← hv]
    rfl
  · refine reaches_of_act (f := fun s => s.sampleTemperature i) rfl hrun ?_
    simp only [State.sampleTemperature, temperatureReading_faulted hfault]
    rfl
  · rw [classed_eq]
    refine ⟨fun hflag => ?_, fun hflag => ?_, fun hflag v hlatest => ?_, fun hflag hlatest v hvalid hlimit => ?_,
      fun hflag hlatest hnone => ?_⟩
    · rw [hflag]
    · rw [hflag]
    · rw [hflag, hlatest]
      rfl
    · rw [hflag, hlatest, hvalid]
      dsimp only
      rw [if_pos hlimit]
      exact ⟨rfl, rfl⟩
    · have hrow : s.classed q = { q with latched := none, tempClass := some .thawed, reading := none, tempUnknown := true } := by
        rw [classed_eq, hflag, hlatest]
        cases hvalid : s.temp.lastValid with
        | none => rfl
        | some v => exact if_neg (Nat.not_lt.2 (hnone.resolve_left (by rw [hvalid]; nofun)))
      rw [← classed_eq, hrow]
      refine ⟨rfl, ?_⟩
      unfold Temperature.hold
      rw [if_neg (by rw [hheld]; nofun)]

/-! ### The park timer (R77, R120) -/

/-- An arm that the park timer's expiry may park: PARKED, with its valve de-energized, if it was STANDBY (R120). -/
def Arm.parkedFromStandby (c : Arm) : Arm :=
  if c.state = .standby then { c with state := .parked, commanded := 0, target := 0, aperture := 0, valve := .deEnergized } else c

theorem park_eq (s : State) (a : ArmId) : s.park a = s.setArm a (s.arm a).parkedFromStandby := by
  unfold State.park Arm.parkedFromStandby
  split
  · rfl
  · unfold State.setArm State.arm
    rw [Arms.set_get_self]

/-- Setting arms one after another, each by its own context alone, sets those named and no other. -/
theorem foldl_setArm_arms (f : Arm → Arm) (as : List ArmId) (hnodup : as.Nodup) (s : State) :
    ∃ arms : Arms, (∀ b, arms.get b = if b ∈ as then f (s.arm b) else s.arm b)
      ∧ as.foldl (fun u a => u.setArm a (f (u.arm a))) s = { s with arms := arms } := by
  induction as generalizing s with
  | nil => exact ⟨s.arms, fun b => by rw [if_neg (by simp)]; rfl, rfl⟩
  | cons a as ih =>
    rw [List.nodup_cons] at hnodup
    obtain ⟨arms, hget, hfold⟩ := ih hnodup.2 (s.setArm a (f (s.arm a)))
    refine ⟨arms, fun b => ?_, hfold⟩
    rw [hget, State.arm_setArm]
    by_cases hb : a = b
    · subst hb
      rw [if_neg hnodup.1, if_pos rfl, if_pos List.mem_cons_self]
    · simp only [if_neg hb, List.mem_cons, Ne.symm hb, false_or]

theorem nodup_armsOf (r : RotorId) : (armsOf r).Nodup := by cases r <;> decide

/-- Settles O34: by whether the timer runs; its expiry parks the rotor's arms one by one. -/
theorem parkTimerParksTheStandbyArms : Obligations.ParkTimerParksTheStandbyArms := by
  intro s r hrun
  have expire : ∀ {u}, s.parkExpired r = u → Reaches (.parkTimerExpiry r) s u := fun h =>
    reaches_of_act (f := fun s => s.parkExpired r) rfl hrun h
  refine ⟨fun hnone => expire (by unfold State.parkExpired; rw [hnone]), fun w hw => ?_⟩
  obtain ⟨arms, hget, hfold⟩ := foldl_setArm_arms Arm.parkedFromStandby (armsOf r) (nodup_armsOf r) ((s.reachTime w).stopPark r)
  have harm : ∀ b, ((s.reachTime w).stopPark r).arm b = s.arm b := State.arm_congr (by cases r <;> rfl)
  refine ⟨arms, fun b => ?_, expire ?_⟩
  · rw [hget, harm]
    unfold Arm.parkedFromStandby
    simp only [mem_armsOf, ite_and]
  · unfold State.parkExpired
    rw [hw]
    dsimp only
    simp only [funext fun u => funext fun a => park_eq u a]
    rw [hfold]
    cases r <;> rfl

end Sys2Proof.Machine
end

section
/-! PROOF. SPECIES and TRIM tickets: their checks, the rows they write, and their closures (R92, R93, R183, R184). -/

namespace Sys2Proof.Machine

/-! ### Closures of states that agree outside the published frames -/

theorem PublishedFrom.eq {u t : State} (h : PublishedFrom u t) : t = { u with ram := t.ram } :=
  (congrArg (fun x : State => { x with ram := t.ram }) h.1)

theorem PublishedFrom.trans {s t u : State} (h : PublishedFrom s t) (k : PublishedFrom t u) : PublishedFrom s u :=
  ⟨(congrArg (fun x : State => { x with ram := s.ram }) k.1).trans h.1, fun a ha => (k.2 a ha).trans (h.2 a ha)⟩

/-- A ticket frame is closed alike whatever the published frames hold. -/
theorem PublishedFrom.closeFrame {u t : State} (h : PublishedFrom u t) {f : Nat} (hf : f ≤ 239) (tag : Word) (res : Result) (detail : Nat)
    (fields : List (Nat × List Byte)) : PublishedFrom (u.closeFrame f tag res detail fields) (t.closeFrame f tag res detail fields) := by
  have hstate : t.frameState f = u.frameState f := h.2 _ (not_isPublished_frameAddr hf (by omega))
  have hcounters : t.counters = u.counters := by have k := congrArg State.counters h.1; exact k
  have hnow : t.now = u.now := by have k := congrArg State.now h.1; exact k
  refine ⟨?_, fun a ha => ?_⟩
  · rw [closeFrame_eq t, closeFrame_eq u, h.eq]
  · rw [closeFrame_ram, closeFrame_ram, hstate, hcounters, hnow]
    by_cases htaken : u.frameState f = 2
    · rw [if_pos htaken, if_pos htaken, Memory.read_writeBytes, Memory.read_writeBytes, Memory.read_writeBytes, Memory.read_writeBytes,
        h.2 a ha]
    · rw [if_neg htaken, if_neg htaken, h.2 a ha]

theorem PublishedFrom.departHead {u t : State} (h : PublishedFrom u t) : PublishedFrom u.departHead t.departHead := by
  refine ⟨?_, fun a ha => ?_⟩
  · obtain ⟨m, rfl⟩ : ∃ m, t = { u with ram := m } := ⟨t.ram, h.eq⟩
    rw [departHead_eq, departHead_eq]
    rfl
  · rw [departHead_ram, departHead_ram, h.2 a ha]

theorem PublishedFrom.finishHead {u t : State} (h : PublishedFrom u t) {e : StagedTicket} (he : e.frame ≤ 239) (res : Result) (detail : Nat)
    (fields : List (Nat × List Byte)) : PublishedFrom (u.headFinished e res detail fields) (t.finishHead e res detail fields) :=
  (h.closeFrame he _ _ _ _).departHead

/-- Rewriting a row of the species image touches published frames only. -/
theorem publishedFrom_rewriteImageRow (s : State) {k : Nat} (hk : k < 32) : PublishedFrom s (s.rewriteImageRow k) := by
  have hram : (s.rewriteImageRow k).ram = s.ram.writeBytes (imageAddr k) (s.row k).fieldBytes := by
    unfold State.rewriteImageRow
    dsimp only
  refine ⟨?_, fun a ha => ?_⟩
  · unfold State.rewriteImageRow
    generalize s.ram.writeBytes (imageAddr k) (s.row k).fieldBytes = m
    rfl
  · rw [hram, Memory.read_writeBytes_of_outside]
    rw [length_fieldBytes]
    simp only [isPublished, imageAddr, frameAddr] at ha ⊢
    omega

/-! ### The checks of a row (R88, R92) -/

theorem withinTrim_iff (limit : Nat) (v : Int) : withinTrim limit v = true ↔ v.natAbs ≤ limit := by
  unfold withinTrim
  rw [decide_eq_true_eq]
  omega

/-- The fields of a row with their ranges (R88). -/
def SpeciesRow.ranges (row : SpeciesRow) : List (Nat × Nat × Nat) :=
  [(row.band0, 0, 600), (row.band1, 0, 600), (row.band2, 0, 600), (row.band3, 0, 600), (row.band4, 0, 600),
    (row.band5, 0, 600), (row.entry, 0, 600), (row.minimum, 0, 600), (row.maximum, 0, 600), (row.frozenAdd, 0, 200),
    (row.buttLength, 0, 10000), (row.buttFactor, 50, 200), (row.topLength, 0, 10000), (row.topFactor, 50, 200),
    (row.rotor2Share, 50, 150), (row.deadBand, 0, 100), (row.trimStep, 0, 50), (row.trimLimit, 0, 15),
    (row.residualTarget, 0, 100), (row.burstWindow, 1, 1000), (row.threshold, 1, 255), (row.maxDepth, 1, 255),
    (row.decayInterval, 10, 10000), (row.reliefStep, 0, 300)]

theorem inRange_iff (row : SpeciesRow) : row.inRange = false ↔ ∃ f ∈ row.ranges, f.1 < f.2.1 ∨ f.2.2 < f.1 := by
  rw [← Bool.not_eq_true, not_iff_comm]
  simp only [SpeciesRow.ranges, SpeciesRow.inRange, List.exists_mem_cons_iff, List.all_cons, List.all_nil, Bool.and_eq_true,
    decide_eq_true_eq, List.not_mem_nil, false_and, exists_false, or_false, not_or, Nat.not_lt, Nat.zero_le, true_and, and_true, and_assoc]

/-- The checks of R92 over the ranges of R88, the first that fails. -/
theorem rowCheck_eq (k : Nat) (row : SpeciesRow) : rowCheck k row =
    if 31 < k then some 1
    else if ∃ f ∈ row.ranges, f.1 < f.2.1 ∨ f.2.2 < f.1 then some 2
    else if row.maximum < row.minimum then some 3
    else if row.maxDepth < row.threshold then some 4
    else if (row.trimLimit : Int) < row.trimFrozen.natAbs ∨ (row.trimLimit : Int) < row.trimThawed.natAbs then some 5
    else if k = 0 ∧ (row.trimFrozen ≠ 0 ∨ row.trimThawed ≠ 0) then some 6
    else none := by
  have hcells : (!(withinTrim row.trimLimit row.trimFrozen && withinTrim row.trimLimit row.trimThawed)) = true ↔
      (row.trimLimit : Int) < row.trimFrozen.natAbs ∨ (row.trimLimit : Int) < row.trimThawed.natAbs := by
    rw [Bool.not_eq_true', ← Bool.not_eq_true, Bool.and_eq_true, withinTrim_iff, withinTrim_iff]
    omega
  unfold rowCheck
  simp only [hcells, Bool.not_eq_true', inRange_iff, not_and_or, ne_eq]

/-! ### The rows a SPECIES ticket writes (R93) -/

theorem takeSpecies_refused {s : State} {e : StagedTicket} {n : Nat}
    (h : rowCheck (areaWord e.area 8).toNat (ticketRow e.area) = some n) : s.takeSpecies e = s.finishHead e .field n [] := by
  simp only [State.takeSpecies, h]

theorem takeSpecies_accepted {s : State} {e : StagedTicket} {k : Nat} {row : SpeciesRow} (hk : (areaWord e.area 8).toNat = k)
    (hrow : speciesWrite k (areaWord e.area 10) (s.row k) (ticketRow e.area) = row) (h : rowCheck k (ticketRow e.area) = none) :
    s.takeSpecies e = ((s.setRow k row).rewriteImageRow k).finishHead e .done 0
      (speciesOutcome k row (keepClamped (areaWord e.area 10) (ticketRow e.area).trimLimit (s.row k))) := by
  subst hk hrow
  simp only [State.takeSpecies, h]

/-- KEEP had to clamp a cell exactly where a written cell differs from the live one (R93). -/
theorem keepClamped_eq (k : Nat) (handling : Word) (live ticket : SpeciesRow) : keepClamped handling ticket.trimLimit live =
    (handling != 1 && handling != 2 && ((speciesWrite k handling live ticket).trimFrozen != live.trimFrozen
      || (speciesWrite k handling live ticket).trimThawed != live.trimThawed)) := by
  unfold keepClamped speciesWrite handledTrim
  by_cases h1 : handling = 1
  · simp only [h1, bne_self_eq_false, Bool.false_and]
  · by_cases h2 : handling = 2
    · simp only [h2, bne_self_eq_false, Bool.and_false, Bool.false_and]
    · simp only [if_neg h1, if_neg h2]

theorem rowCheck_le {k : Nat} {row : SpeciesRow} (h : rowCheck k row = none) : k < 32 := by
  by_contra hk
  unfold rowCheck at h
  rw [if_pos (by omega)] at h
  cases h

/-- Settles O18: the row's layout, the checks in closed form, and the closure of a ticket that passes, which the rewritten image row leaves
alone. -/
theorem speciesTicketWritesTheNamedRow : Obligations.SpeciesTicketWritesTheNamedRow := by
  refine ⟨fun bs row word hrow hword => ?_, fun k row fields hfields => ?_,
    fun s e rest k handling row live hrun hstaged hkind hframe hk hhandling hrow hlive => ⟨fun n hn => ?_, fun hpass x hx => ?_⟩⟩
  · subst hrow hword
    refine ⟨fun h => ?_, fun h => ?_, rfl, rfl, rfl, rfl, rfl, rfl, rfl, rfl, rfl, rfl, rfl⟩
    · show validFlag _ = false
      rw [h]; rfl
    · show validFlag _ = true
      rw [h]; rfl
  · subst hfields
    exact rowCheck_eq k row
  · subst hrow hk
    refine reaches_of_act (f := State.takeUp) rfl hrun ?_
    rw [takeUp_species hstaged hkind, takeSpecies_refused hn]
    rfl
  · subst hrow hlive hhandling
    have hx' : speciesWrite k (areaWord e.area 10) (s.row k) (ticketRow e.area) = x := hx.symm
    refine ⟨publish s (s.takeUp), act_running hrun _, ?_⟩
    rw [takeUp_species hstaged hkind, takeSpecies_accepted hk.symm hx' hpass, keepClamped_eq k, hx']
    exact ((publishedFrom_rewriteImageRow _ (rowCheck_le hpass)).finishHead hframe _ _ _).trans (publish_publishedFrom s _)

end Sys2Proof.Machine
end

section
/-! PROOF. TRIM tickets: their checks, and the cells they write (R183, R184). -/

namespace Sys2Proof.Machine

/-! ### CLEAR_ALL (R184) -/

/-- A row with both trim cells 0. -/
def SpeciesRow.cleared (x : SpeciesRow) : SpeciesRow := { x with trimFrozen := 0, trimThawed := 0 }

theorem row_of_lt (s : State) {k : Nat} (hk : k < 32) : s.row k = s.species[k] := dif_pos hk

theorem setRow_of_lt (s : State) {k : Nat} (hk : k < 32) (x : SpeciesRow) :
    s.setRow k x = { s with species := s.species.set k x } := dif_pos hk

/-- The first rows cleared one by one. -/
theorem clearTrims_upTo (s : State) (n : Nat) (hn : n ≤ 32) :
    ∃ v : Vector SpeciesRow 32, (List.range n).foldl (fun t k => t.setRow k ((t.row k).withTrims 0 0)) s = { s with species := v }
      ∧ ∀ k (hk : k < 32), v[k] = if k < n then s.species[k].cleared else s.species[k] := by
  induction n with
  | zero => exact ⟨s.species, rfl, fun k hk => (if_neg (Nat.not_lt_zero k)).symm⟩
  | succ n ih =>
    obtain ⟨v, hfold, hget⟩ := ih (by omega)
    refine ⟨v.set n (v[n].withTrims 0 0) (by omega), ?_, fun k hk => ?_⟩
    · rw [List.range_succ, List.foldl_append, hfold, List.foldl_cons, List.foldl_nil, setRow_of_lt _ (by omega), row_of_lt _ (by omega)]
    · rw [Vector.getElem_set]
      by_cases hkn : n = k
      · subst hkn
        rw [if_pos rfl, if_pos (Nat.lt_succ_self n), hget, if_neg (Nat.lt_irrefl n)]
        rfl
      · rw [if_neg hkn, hget]
        exact if_congr (by omega) rfl rfl

theorem clearTrims_eq (s : State) : s.clearTrims = { s with species := s.species.map SpeciesRow.cleared } := by
  obtain ⟨v, hfold, hget⟩ := clearTrims_upTo s 32 (Nat.le_refl 32)
  have hv : v = s.species.map SpeciesRow.cleared := Vector.ext fun k hk => by rw [hget, if_pos hk, Vector.getElem_map]
  unfold State.clearTrims
  rw [hfold, hv]

theorem species_toList (s : State) : s.species.toList = (List.range 32).map s.row := by
  refine List.ext_getElem (by simp) fun k hk hk' => ?_
  have hlt : k < 32 := by simpa using hk
  rw [List.getElem_map, List.getElem_range, row_of_lt s hlt, Vector.getElem_toList]

theorem trimmedRows_eq (s : State) :
    s.trimmedRows = (s.species.toList.filter fun (x : SpeciesRow) => x.trimFrozen != 0 || x.trimThawed != 0).length := by
  rw [species_toList, List.filter_map, List.length_map]
  rfl

/-! ### The ticket (R183) -/

theorem takeTrim_refused {s : State} {e : StagedTicket} {n : Nat}
    (h : s.trimCheck (areaWord e.area 8).toNat (areaWord e.area 10).toNat (areaWord e.area 12).toInt (areaWord e.area 14).toInt = some n) :
    s.takeTrim e = s.finishHead e .field n [] := by
  simp only [State.takeTrim, h]

theorem trimCheck_setRow (s : State) {k : Nat} {frozen thawed : Int} (hk : k ≤ 31) (hf : withinTrim (s.row k).trimLimit frozen = true)
    (ht : withinTrim (s.row k).trimLimit thawed = true) (h0 : k = 0 → frozen = 0 ∧ thawed = 0) : s.trimCheck 1 k frozen thawed = none := by
  unfold State.trimCheck
  rw [if_neg (by omega), if_neg (by omega), if_neg (by rw [hf, ht]; decide), if_neg fun h => h.2.2 (h0 h.2.1)]

theorem trimCheck_clearAll (s : State) (k : Nat) (frozen thawed : Int) : s.trimCheck 2 k frozen thawed = none := rfl

theorem counters_departHead (s : State) : s.departHead.counters = s.counters := by
  have k := congrArg State.counters (departHead_fields s); exact k

theorem cause_departHead (s : State) : s.departHead.cause = s.cause := by
  have k := congrArg State.cause (departHead_fields s); exact k

theorem pendingCause_congr {s t : State} (h : t.cause = s.cause) (c : Cause) : t.pendingCause c = s.pendingCause c := by
  unfold State.pendingCause
  rw [h]

/-- A closure raises CLOSED or REJECTED by its result, and no other cause (R36). -/
theorem pendingCause_finishHead (s : State) (e : StagedTicket) (res : Result) (detail : Nat) (fields : List (Nat × List Byte)) (c : Cause) :
    (s.finishHead e res detail fields).pendingCause c =
      (decide ((if res.rejects then Cause.rejected else .closed) = c) || s.pendingCause c) := by
  rw [← State.pendingCause_raise]
  exact pendingCause_congr ((cause_departHead _).trans (closeFrame_cause ..)) c

theorem counters_finishHead (s : State) (e : StagedTicket) (res : Result) (detail : Nat) (fields : List (Nat × List Byte)) :
    (s.finishHead e res detail fields).counters = s.counters.finish res := (counters_departHead _).trans (closeFrame_counters ..)

theorem counters_publish (old new : State) : (publish old new).counters = new.counters := by
  have k := congrArg State.counters (publish_publishedFrom old new).1; exact k

theorem cause_publish (old new : State) : (publish old new).cause = new.cause := by
  have k := congrArg State.cause (publish_publishedFrom old new).1; exact k

/-- A ticket closed DONE raises no rejection (R36). -/
theorem publish_finishHead_done {s u : State} (hcounters : u.counters = s.counters) (hcause : u.cause = s.cause) (e : StagedTicket)
    (fields : List (Nat × List Byte)) :
    (publish s (u.finishHead e .done 0 fields)).counters.rejections = s.counters.rejections
      ∧ (publish s (u.finishHead e .done 0 fields)).pendingCause .rejected = s.pendingCause .rejected := by
  rw [counters_publish, counters_finishHead, hcounters, pendingCause_congr (cause_publish _ _), pendingCause_finishHead,
    pendingCause_congr hcause]
  exact ⟨rfl, Bool.false_or _⟩

/-- The state a TRIM ticket that passes its checks closes from differs in its rows only. -/
theorem takeTrim_accepted {s : State} {e : StagedTicket}
    (h : s.trimCheck (areaWord e.area 8).toNat (areaWord e.area 10).toNat (areaWord e.area 12).toInt (areaWord e.area 14).toInt = none) :
    s.takeTrim e = if (areaWord e.area 8).toNat = 1 then
        (s.setRow (areaWord e.area 10).toNat ((s.row (areaWord e.area 10).toNat).withTrims (areaWord e.area 12).toInt
          (areaWord e.area 14).toInt)).finishHead e .done 0
            [(140, byteN 1), (141, byteN (areaWord e.area 10).toNat), (142, byteI (areaWord e.area 12).toInt),
              (143, byteI (areaWord e.area 14).toInt)]
      else s.clearTrims.finishHead e .done 0 [(140, byteN 2), (144, byteN s.trimmedRows)] := by
  simp only [State.takeTrim, h]

/-- Settles O19: the checks in their order, and the two actions of a ticket that passes them. -/
theorem trimTicketsAreCheckedAndWriteTheCells : Obligations.TrimTicketsAreCheckedAndWriteTheCells := by
  intro s e rest action k frozen thawed hrun hstaged hkind haction hk hfrozen hthawed
  have take : ∀ {u}, s.takeTrim e = u → Reaches .ticketTakeUp s u := fun h =>
    reaches_of_act (f := State.takeUp) rfl hrun ((takeUp_trim hstaged hkind).trans h)
  subst haction hk hfrozen hthawed
  have refused : ∀ {n}, s.trimCheck _ _ _ _ = some n → Reaches .ticketTakeUp s (s.headFinished e .field n []) := fun h =>
    take (takeTrim_refused h)
  refine ⟨fun h1 h2 => refused (if_pos ⟨h1, h2⟩), fun h1 hk => refused ?_, fun h1 hk hcells => refused ?_,
    fun h1 h0 hf ht hzero => refused ?_, fun hpass => ?_, fun h1 hk hf ht h0 => take ?_, fun h2 => take ?_⟩
  · unfold State.trimCheck
    rw [if_neg (by omega), if_pos ⟨h1, hk⟩]
  · unfold State.trimCheck
    rw [if_neg (by omega), if_neg (by omega), if_pos ⟨h1, hcells⟩]
  · unfold State.trimCheck
    rw [if_neg (by omega), if_neg (by omega), if_neg (by rw [hf, ht]; simp), if_pos ⟨h1, h0, hzero⟩]
  · refine answers_of_act (f := State.takeUp) rfl hrun ?_
    have hcheck : s.trimCheck (areaWord e.area 8).toNat (areaWord e.area 10).toNat (areaWord e.area 12).toInt
        (areaWord e.area 14).toInt = none := by
      rcases hpass with h2 | ⟨h1, hk, hf, ht, h0⟩
      · rw [h2]; exact trimCheck_clearAll ..
      · rw [h1]; exact trimCheck_setRow s hk hf ht h0
    rw [takeUp_trim hstaged hkind, takeTrim_accepted hcheck]
    split
    · exact publish_finishHead_done (State.counters_setRow ..) (State.cause_setRow ..) e _
    · refine publish_finishHead_done ?_ ?_ e _
      · rw [clearTrims_eq]
      · rw [clearTrims_eq]
  · have hcheck := trimCheck_setRow s hk hf ht h0
    rw [← h1] at hcheck
    rw [takeTrim_accepted hcheck, if_pos h1]
    rfl
  · have hcheck := trimCheck_clearAll s (areaWord e.area 10).toNat (areaWord e.area 12).toInt (areaWord e.area 14).toInt
    rw [← h2] at hcheck
    rw [takeTrim_accepted hcheck, if_neg (by omega), clearTrims_eq, trimmedRows_eq]
    rfl

end Sys2Proof.Machine
end

section
/-! PROOF. The receiver of the Quality Port, and what a valid report teaches (R176 to R185). -/

namespace Sys2Proof.Machine

/-! ### The receiver (R176 to R178) -/

theorem takeByte_hunting {s : State} (h : s.quality.buffer = []) (b : Byte) (f : Bool) : s.takeByte b f =
    if b = reportMarker ∧ f = false then { s with quality := { s.quality with buffer := [b], gap := some s.now } } else s := by
  simp only [State.takeByte, h]

theorem takeByte_framingError {s : State} (h : s.quality.buffer ≠ []) (b : Byte) : s.takeByte b true = s.hunt.discard .framing := by
  unfold State.takeByte
  split
  · contradiction
  · exact if_pos rfl

theorem takeByte_inFrame {s : State} (h : s.quality.buffer ≠ []) (b : Byte) : s.takeByte b false = s.appendByte b := by
  unfold State.takeByte
  split
  · contradiction
  · exact if_neg (by nofun)

theorem appendByte_short {s : State} (h : s.quality.buffer.length ≠ 3) (b : Byte) : s.appendByte b =
    { s with quality := { s.quality with buffer := s.quality.buffer ++ [b], gap := some s.now } } := by
  unfold State.appendByte
  split
  · rename_i hbuffer
    rw [hbuffer] at h
    exact absurd rfl h
  · rfl

theorem takeByte_complete {s : State} {m residual flags : Byte} (h : s.quality.buffer = [m, residual, flags]) (check : Byte) :
    s.takeByte check false = s.hunt.judgeReport m residual flags check := by
  rw [takeByte_inFrame (by rw [h]; nofun), State.appendByte, h]

/-- A frame discarded from a receiver that has returned to HUNT (R178). -/
theorem discard_hunt (s : State) (why : Discard) : s.hunt.discard why = { s with
    quality := { s.quality with buffer := [], gap := none, lastDiscard := why }
    counters := { s.counters with discarded := s.counters.discarded + 1 }
    cause := s.cause ||| 0x0400#16 } := rfl

/-- Settles O42: by the state of the receiver and the checks of a complete frame. -/
theorem receiverCollectsTheFrame : Obligations.ReceiverCollectsTheFrame := by
  intro s b hrun
  have take : ∀ {u} b f, s.takeByte b f = u → Reaches (.qualityByte b f) s u := fun b f h =>
    reaches_of_act (f := fun s => s.takeByte b f) rfl hrun h
  have expire : ∀ {u}, s.gapExpired = u → Reaches .gapTimerExpiry s u := fun h => reaches_of_act (f := State.gapExpired) rfl hrun h
  refine ⟨fun hempty hmarker => take _ _ ?_, fun f hempty hother => take _ _ ?_, fun x rest hbuffer hshort => take _ _ ?_,
    fun hframe => take _ _ (takeByte_framingError hframe b), fun w hw => expire ?_, fun hnone => expire ?_,
    fun m residual flags check hbuffer => ⟨fun hsum => take _ _ ?_, fun hsum hrange => take _ _ ?_, fun hsum hrange hnone => take _ _ ?_⟩⟩
  · rw [takeByte_hunting hempty, if_pos ⟨hmarker, rfl⟩]
  · rw [takeByte_hunting hempty, if_neg]
    rintro ⟨hmarker, hf⟩
    exact hother.elim (fun h => h hmarker) fun h => by rw [h] at hf; cases hf
  · rw [takeByte_inFrame (by rw [hbuffer]; nofun), appendByte_short (by rw [hbuffer, List.length_cons]; omega)]
  · simp only [State.gapExpired, hw]
    rfl
  · simp only [State.gapExpired, hnone]
  · rw [takeByte_complete hbuffer, State.judgeReport, if_pos hsum]
    rfl
  · rw [takeByte_complete hbuffer, State.judgeReport, if_neg (not_not.2 hsum), if_pos hrange]
    rfl
  · have hawaiting : s.hunt.awaiting? = none := by
      refine List.find?_eq_none.2 fun q hq => ?_
      rw [hnone q hq]
      decide
    rw [takeByte_complete hbuffer, State.judgeReport, if_neg (not_not.2 hsum), if_neg (Nat.not_lt.2 hrange), State.takeReport,
      hawaiting]
    rfl

/-! ### Matching, closure and learning (R179 to R182) -/

theorem belowFull_iff (w : RotorView) : belowFull w = true ↔ w.minActive.getD 5 < 5 := by
  unfold belowFull
  cases w.minActive with
  | none => decide
  | some n => exact decide_eq_true_iff

/-- The table of R182, the first condition that holds. -/
theorem suppression_eq (q : Record) (live : SpeciesRow) : suppression q live =
    if q.noLearn = true then .noLearn
    else if q.profileFault.isSome = true then .profileFault
    else if q.rowUsed = 0 then .guardRow
    else if live.valid = false then .rowInvalid
    else if q.stall = true then .stall
    else if q.rotorDown = true then .rotorDown
    else if 0 < q.view1.lateLifts ∨ 0 < q.view2.lateLifts then .lateLift
    else if q.view1.minActive.getD 5 < 5 ∨ q.view2.minActive.getD 5 < 5 then .armsBelowFull
    else .notSuppressed := by
  unfold suppression
  simp only [Bool.not_eq_true', Bool.or_eq_true, belowFull_iff]

theorem learn_suppressed {s : State} {q : Record} {why : Suppression} (h : suppression q (s.row q.rowUsed) = why) (hwhy : why ≠ .notSuppressed)
    (residual : Nat) (gouge : Bool) : s.learn q residual gouge = (s, unlearned residual gouge why) := by
  subst h
  unfold State.learn
  split
  · rename_i hnot _
    exact absurd hnot hwhy
  · rfl

theorem learn_notSuppressed {s : State} {q : Record} {c : TempClass} (h : suppression q (s.row q.rowUsed) = .notSuppressed)
    (hc : q.tempClass = some c) (residual : Nat) (gouge : Bool) : s.learn q residual gouge = s.stepTrim q.rowUsed c residual gouge := by
  simp only [State.learn, h, hc]

/-- Settles O43: the report is matched to the oldest record that awaits one, and by its flag, the record's kind and the table of R182. -/
theorem matchedReportClosesAndTeaches : Obligations.MatchedReportClosesAndTeaches := by
  intro s m residual flags check q hrun hbuffer hsum hrange hfind s' hs' why hwhy
  have taken : s.takeByte check false = s'.closeByReport q residual.toNat (flags.getLsbD 0) (flags.getLsbD 1) := by
    have hawaiting : s.hunt.awaiting? = some q := hfind
    rw [takeByte_complete hbuffer, State.judgeReport, if_neg (not_not.2 hsum), if_neg (Nat.not_lt.2 hrange), State.takeReport,
      hawaiting, hs']
    rfl
  have take : ∀ {u}, s'.closeByReport q residual.toNat (flags.getLsbD 0) (flags.getLsbD 1) = u → Reaches (.qualityByte check false) s u :=
    fun h => reaches_of_act (f := fun s => s.takeByte check false) rfl hrun (taken.trans h)
  have hrow : s'.row q.rowUsed = s.row q.rowUsed := by rw [hs']; rfl
  have hsuppression : suppression q (s'.row q.rowUsed) = why := by rw [hrow, suppression_eq, hwhy]
  refine ⟨fun hfault => take ?_, fun hfault hkind => take ?_, fun hfault hkind hsome => take ?_,
    fun hfault hkind hnone c step value hc hstep hvalue => take ?_⟩
  · rw [State.closeByReport, if_pos hfault]
    rfl
  · rw [State.closeByReport, if_neg (by rw [hfault]; nofun)]
    cases hq : q.kind with
    | log => exact absurd hq hkind
    | orphan => rfl
    | stub => rfl
  · rw [State.closeByReport, if_neg (by rw [hfault]; nofun), hkind]
    dsimp only
    rw [learn_suppressed hsuppression hsome]
    rfl
  · rw [State.closeByReport, if_neg (by rw [hfault]; nofun), hkind]
    dsimp only
    rw [learn_notSuppressed (hsuppression.trans hnone) hc, State.stepTrim, hrow]
    have hstep' : requestedStep (s.row q.rowUsed) residual.toNat (flags.getLsbD 0) = step := hstep.symm
    have hvalue' : clampTrim (s.row q.rowUsed).trimLimit ((s.row q.rowUsed).trim c + step) = value := hvalue.symm
    have hlimit : (step != 0 && value - (s.row q.rowUsed).trim c == 0) = decide (step ≠ 0 ∧ value = (s.row q.rowUsed).trim c) := by
      rw [Bool.eq_iff_iff, Bool.and_eq_true, bne_iff_ne, beq_iff_eq, decide_eq_true_eq, Int.sub_eq_zero]
    rw [hstep', hvalue', hlimit]
    rfl

end Sys2Proof.Machine
end

section
/-! PROOF. Resets (R41, R190): what a reset leaves at its start and at its end. -/

namespace Sys2Proof.Machine

/-- Abandoning a write that is in progress changes the configuration memory and the free values only (log 7). -/
theorem abandonWrites_eq (s : State) : ∃ e n, s.abandonWrites = { s with eeprom := e, free := n } := by
  unfold State.abandonWrites
  have ends : ∀ u : State, (∃ e n, u = { s with eeprom := e, free := n }) →
      ∃ e n, (match u.cfg.transfer with
        | some x => if x.write then u.interruptWrite x.address x.bytes else u
        | none => u) = { s with eeprom := e, free := n } := by
    rintro _ ⟨e, n, rfl⟩
    split
    · split <;> exact ⟨_, _, rfl⟩
    · exact ⟨_, _, rfl⟩
  cases hpage : s.cfg.save.bind Save.page with
  | none => exact ends s ⟨_, _, rfl⟩
  | some p => exact ends (s.interruptWrite (pageSize * p.index) p.sent) ⟨_, _, rfl⟩

theorem abandonWrites_of_none {s : State} (hsave : s.cfg.save = none) (htransfer : s.cfg.transfer = none) : s.abandonWrites = s := by
  simp only [State.abandonWrites, hsave, htransfer, Option.bind_none]

/-- A reset that starts, in closed form. -/
theorem startReset_eq (s : State) (k : ResetKind) : ∃ e n, s.startReset k = { s.afterReset s.pins.levels with
    resetHeld := some k, resetCause := resetFlags s.resetCause k, eeprom := e, free := n } := by
  obtain ⟨e, n, h⟩ := abandonWrites_eq s
  refine ⟨e, n, ?_⟩
  unfold State.startReset
  rw [h]
  rfl

/-- While a reset is held nothing is published (R40). -/
theorem publish_of_held {old new : State} (h : new.resetHeld.isNone = false) : publish old new = new := by
  have hpublishes : new.publishes = false := by rw [State.publishes, h, Bool.and_false]
  unfold publish
  rw [hpublishes]
  rfl

/-- Settles O47: by the closed forms of a reset's start and end. -/
theorem resetsGiveTheResetValues : Obligations.ResetsGiveTheResetValues := by
  intro s
  obtain ⟨e, n, hpower⟩ := startReset_eq s .power
  obtain ⟨e', n', hpin⟩ := startReset_eq s .pin
  obtain ⟨e'', n'', hsoft⟩ := startReset_eq s .soft
  refine ⟨⟨s.powerUp, rfl, ?_⟩, ⟨s.startReset .pin, rfl, ?_⟩, fun hrun => ⟨s.softReset, ?_, ?_⟩, fun hsave htransfer c hc t ht => ?_,
    fun i o x y hrun => ?_, fun i o x y hheld => ?_⟩
  · unfold State.powerUp
    rw [hpower]
    rfl
  · rw [hpin]
    rfl
  · rw [show exec .softReset s = act s State.softReset from rfl, act_running hrun, publish_of_held rfl]
  · unfold State.softReset
    rw [hsoft]
    rfl
  · have kept : ∀ k, (s.startReset k).eeprom = s.eeprom ∧ (s.startReset k).free = s.free := fun k => by
      unfold State.startReset
      rw [abandonWrites_of_none hsave htransfer]
      exact ⟨rfl, rfl⟩
    simp only [List.mem_cons, List.not_mem_nil, or_false] at hc
    rcases hc with rfl | rfl | rfl
    · cases ht; exact kept .power
    · cases ht; exact kept .pin
    · have ht : act s State.softReset = .next t := ht
      by_cases hheld : s.resetHeld.isSome = true
      · rw [act_held hheld] at ht
        cases ht
        exact ⟨rfl, rfl⟩
      · rw [act_running (by simpa using hheld), publish_of_held rfl] at ht
        cases ht
        exact kept .soft
  · exact congrArg Host.Outcome.next (if_neg (by rw [hrun]; nofun))
  · show Host.Outcome.next (s.endReset ⟨i, o, x, y⟩) = _
    unfold State.endReset State.writeAnchor
    rw [if_pos hheld]
    cases s.resetPower <;> rfl

end Sys2Proof.Machine
end

section
/-! PROOF. The host bus (R26, R187, R201 to R203): register writes and reads, and writes into the manifest RAM. -/

namespace Sys2Proof.Machine

/-! ### The STATUS register (section 12.2) -/

/-- The word of STATUS, from its mode and its flags. -/
def statusOf (m : Mode) (b3 b4 b5 b6 b7 b8 b9 b10 : Bool) : Word :=
  BitVec.ofNat 16 (m.code + bit b3 3 + bit b4 4 + bit b5 5 + bit b6 6 + bit b7 7 + bit b8 8 + bit b9 9 + bit b10 10)

theorem statusOf_flags (m : Mode) : ∀ b3 b4 b5 b6 b7 b8 b9 b10 : Bool,
    (statusOf m b3 b4 b5 b6 b7 b8 b9 b10 &&& 7#16) = BitVec.ofNat 16 m.code
      ∧ (statusOf m b3 b4 b5 b6 b7 b8 b9 b10).getLsbD 3 = b3 ∧ (statusOf m b3 b4 b5 b6 b7 b8 b9 b10).getLsbD 4 = b4
      ∧ (statusOf m b3 b4 b5 b6 b7 b8 b9 b10).getLsbD 5 = b5 ∧ (statusOf m b3 b4 b5 b6 b7 b8 b9 b10).getLsbD 6 = b6
      ∧ (statusOf m b3 b4 b5 b6 b7 b8 b9 b10).getLsbD 7 = b7 ∧ (statusOf m b3 b4 b5 b6 b7 b8 b9 b10).getLsbD 8 = b8
      ∧ (statusOf m b3 b4 b5 b6 b7 b8 b9 b10).getLsbD 9 = b9 ∧ (statusOf m b3 b4 b5 b6 b7 b8 b9 b10).getLsbD 10 = b10 := by
  cases m <;> decide +kernel

theorem bit_le (b : Bool) (k : Nat) : bit b k ≤ 2 ^ k := by
  cases b <;> simp [bit]

/-- No bit above 10 is set. -/
theorem statusOf_high (m : Mode) (b3 b4 b5 b6 b7 b8 b9 b10 : Bool) {k : Nat} (hk : 11 ≤ k) :
    (statusOf m b3 b4 b5 b6 b7 b8 b9 b10).getLsbD k = false := by
  have hmode : m.code ≤ 4 := by cases m <;> decide
  have h3 := bit_le b3 3
  have h4 := bit_le b4 4
  have h5 := bit_le b5 5
  have h6 := bit_le b6 6
  have h7 := bit_le b7 7
  have h8 := bit_le b8 8
  have h9 := bit_le b9 9
  have h10 := bit_le b10 10
  unfold statusOf
  rw [BitVec.getLsbD_ofNat, Nat.testBit_lt_two_pow (i := k) (Nat.lt_of_lt_of_le (m := 2 ^ 11) (by omega) (Nat.pow_le_pow_right (by decide) hk)),
    Bool.and_false]

theorem cfgBusy_iff (s : State) : s.cfgBusy = true ↔ s.cfg.preload = .running ∨ s.cfg.transfer.isSome = true
    ∨ (s.cfg.save.bind Save.page).isSome = true := by
  unfold State.cfgBusy
  cases s.cfg.save with
  | none => simp
  | some x => simp [or_assoc]

/-! ### CONTROL (R187, R202) -/

theorem requestedMode_code {w : Word} {m : Mode} (h : (w &&& 7#16).toNat = m.code) : requestedMode w = some m := by
  unfold requestedMode
  rw [h]
  cases m <;> rfl

theorem requestedMode_none {w : Word} (h : ∀ m : Mode, (w &&& 7#16).toNat ≠ m.code) : requestedMode w = none := by
  unfold requestedMode
  split
  · rename_i hcode; exact absurd hcode (h .config)
  · rename_i hcode; exact absurd hcode (h .run)
  · rename_i hcode; exact absurd hcode (h .hold)
  · rename_i hcode; exact absurd hcode (h .service)
  · rfl

theorem controlMode_of_code {s : State} {w : Word} {m : Mode} (h : (w &&& 7#16).toNat = m.code) : s.controlMode w = s.requestMode m := by
  rw [State.controlMode, requestedMode_code h]

theorem controlMode_of_none {s : State} {w : Word} (h : ∀ m : Mode, (w &&& 7#16).toNat ≠ m.code) : s.controlMode w = s := by
  rw [State.controlMode, requestedMode_none h]

theorem writeControl_reset {s : State} {w : Word} (h : w.getLsbD 15 = true) : s.writeControl w = s.softReset := if_pos h

theorem writeControl_fields {s : State} {w : Word} (h : w.getLsbD 15 = false) : s.writeControl w =
    if w.getLsbD 5 = true then (if w.getLsbD 4 = true then (s.controlMode w).requestScan else s.controlMode w).trackClear
    else if w.getLsbD 4 = true then (s.controlMode w).requestScan else s.controlMode w := by
  unfold State.writeControl
  rw [if_neg (by rw [h]; nofun)]

theorem reloadOf_eq (w : Word) : reloadOf w = max 1 (w.toNat % 256) := by
  unfold reloadOf lowByte
  rw [BitVec.toNat_setWidth]

theorem writeReload_eq (s : State) (w : Word) : s.writeReload w = { s with manifest := { s.manifest with
    scanReload := max 1 (w.toNat % 256)
    scanTimer := s.manifest.scanTimer.map fun _ => s.now + 10 * max 1 (w.toNat % 256) } } := by
  rw [← reloadOf_eq]
  unfold State.writeReload State.startScanTimer
  dsimp only
  cases h : s.manifest.scanTimer <;> rfl

/-! ### The statement -/

/-- A register that is not written, and an offset without a register (R202). -/
theorem writeRegister_ignored {s : State} {offset : Word} (w : Word)
    (h : offset = 0x00#16 ∨ offset = 0x04#16 ∨ offset = 0x0C#16 ∨ 0x14 < offset.toNat) : s.writeRegister offset w = s := by
  have hne : offset ≠ 0x02#16 ∧ offset ≠ 0x06#16 ∧ offset ≠ 0x08#16 ∧ offset ≠ 0x0A#16 ∧ offset ≠ 0x0E#16 ∧ offset ≠ 0x10#16
      ∧ offset ≠ 0x12#16 ∧ offset ≠ 0x14#16 := by
    refine ⟨?_, ?_, ?_, ?_, ?_, ?_, ?_, ?_⟩ <;> (rintro rfl; revert h; decide)
  obtain ⟨h02, h06, h08, h0A, h0E, h10, h12, h14⟩ := hne
  simp only [State.writeRegister, if_neg h02, if_neg h06, if_neg h08, if_neg h0A, if_neg h0E, if_neg h10, if_neg h12, if_neg h14]

/-- Words the host stores at an even address (R201). -/
theorem storeWord_reads (s : State) {address : Word} (w : Word) (heven : address.toNat % 2 = 0) :
    (s.storeWord address w).ram.word address.toNat = w
      ∧ ∀ a, a ≠ address.toNat → a ≠ address.toNat + 1 → (s.storeWord address w).ram.read a = s.ram.read a := by
  have haddr : 2 * (address.toNat / 2) = address.toNat := by omega
  have hram : (s.storeWord address w).ram = s.ram.writeBytes address.toNat (bytesOfWord w) := by
    unfold State.storeWord
    rw [haddr]
  rw [hram]
  refine ⟨Memory.word_writeBytes .., fun a h0 h1 => Memory.read_writeBytes_of_outside ?_⟩
  rw [length_bytesOfWord]
  omega

theorem readRegister_unused {s : State} {offset : Word} (h : 0x14 < offset.toNat) : s.readRegister offset = 0 := by
  have hne : ∀ k : Word, k.toNat ≤ 0x14 → offset ≠ k := fun k hk heq => by rw [heq] at h; omega
  unfold State.readRegister
  split
  · rfl
  · rw [if_neg (hne _ (by decide)), if_neg (hne _ (by decide)), if_neg (hne _ (by decide)), if_neg (hne _ (by decide)),
      if_neg (hne _ (by decide)), if_neg (hne _ (by decide)), if_neg (hne _ (by decide)), if_neg (hne _ (by decide)),
      if_neg (hne _ (by decide)), if_neg (hne _ (by decide))]

theorem readRegister_running {s : State} (h : s.running) (offset : Word) : s.readRegister offset =
    if offset = 0x00#16 then Config.ident
    else if offset = 0x04#16 then s.statusWord
    else if offset = 0x06#16 then s.cause
    else if offset = 0x08#16 then s.enable
    else if offset = 0x0A#16 then BitVec.ofNat 16 s.manifest.scanReload
    else if offset = 0x0C#16 then BitVec.ofNat 16 s.manifest.cursor
    else if offset = 0x0E#16 then s.resetCause
    else if offset = 0x10#16 then s.cfg.addr
    else if offset = 0x12#16 then s.cfg.dataLo
    else if offset = 0x14#16 then s.cfg.dataHi
    else 0 := by
  unfold State.readRegister
  rw [if_neg (by rw [h]; nofun)]

theorem writeRegister_control (s : State) (w : Word) : s.writeRegister 0x02#16 w = s.writeControl w := if_pos rfl

/-- Settles O48: writes register by register, the fields of a CONTROL write, stores into the RAM, and reads register by register. -/
theorem hostWritesReachTheRegistersAndTheRam : Obligations.HostWritesReachTheRegistersAndTheRam := by
  intro s w
  have register : ∀ {u} offset, s.running → s.writeRegister offset w = u → Reaches (.registerWrite offset w) s u := fun offset hrun h =>
    reaches_of_act (f := fun s => s.writeRegister offset w) rfl hrun h
  have control : ∀ {f : State → State}, (∀ s, s.writeControl w = f s) → exec (.registerWrite 0x02#16 w) s = act s f := by
    intro f h
    have hwrite : (fun u : State => u.writeRegister 0x02#16 w) = f := funext fun u => (writeRegister_control u w).trans (h u)
    rw [← hwrite]
    rfl
  refine ⟨fun hrun => ⟨?_, ?_, ?_, ?_, register _ hrun rfl, register _ hrun rfl, fun offset hoffset => register _ hrun ?_⟩, rfl, rfl, rfl,
    rfl, rfl, fun h15 => ?_, fun m hm => ?_, fun hw => ?_, fun hw => ?_, fun hrun h15 h4 h5 hnone => register _ hrun ?_,
    fun hrun => ⟨fun m => reaches_of_act (exec_requestOf m s) hrun rfl, reaches_of_act (f := State.requestScan) rfl hrun rfl,
      reaches_of_act (f := State.trackClear) rfl hrun rfl⟩,
    fun hrun h15 y z hy hnone hz => register _ hrun ?_, fun address heven => ⟨s.storeWord address w, rfl, ?_, storeWord_reads s w heven⟩,
    fun hheld offset => if_pos hheld, fun hrun => ?_, fun hrun status hstatus => ?_⟩
  · exact reaches_of_act (f := fun s => s.clearCauses w) rfl hrun rfl
  · exact reaches_of_act (f := fun s => s.writeEnable w) rfl hrun rfl
  · exact reaches_of_act (f := fun s => s.clearResetFlags w) rfl hrun rfl
  · exact reaches_of_act (f := fun s => s.writeReload w) rfl hrun (writeReload_eq s w)
  · exact writeRegister_ignored w hoffset
  · exact control fun s => writeControl_reset h15
  · obtain rfl : w = BitVec.ofNat 16 m.code := BitVec.eq_of_toNat_eq (hm.trans (by cases m <;> rfl))
    cases m <;> rfl
  · subst hw; rfl
  · subst hw; rfl
  · refine (if_pos rfl).trans ?_
    rw [writeControl_fields h15, h4, h5, controlMode_of_none hnone]
    rfl
  · have hmode : s.controlMode w = y := by
      by_cases h : ∃ m : Mode, (w &&& 7#16).toNat = m.code
      · obtain ⟨m, hm⟩ := h
        rw [controlMode_of_code hm, hy m hm]
      · push Not at h
        rw [controlMode_of_none h, hnone h]
    refine (if_pos rfl).trans ?_
    rw [writeControl_fields h15, hmode, hz]
  · unfold State.storeWord
    generalize s.ram.writeBytes _ _ = m
    rfl
  · rw [readRegister_running hrun, readRegister_running hrun, readRegister_running hrun, readRegister_running hrun,
      readRegister_running hrun, readRegister_running hrun, readRegister_running hrun, readRegister_running hrun,
      readRegister_running hrun, readRegister_running hrun]
    exact ⟨rfl, rfl, rfl, rfl, BitVec.toNat_ofNat _ 16, BitVec.toNat_ofNat _ 16, rfl, rfl, rfl, rfl, fun offset h => readRegister_unused h⟩
  · have hword : status = statusOf s.mode s.modeRefused s.cfgBusy s.cfg.fault (s.cfg.preload == .running) s.geometryValid s.latch s.feedHold
        s.cfg.save.isSome := by
      rw [← hstatus, readRegister_running hrun]
      rfl
    have hhold : s.feedHold = s.holds.any := by
      unfold State.feedHold
      rw [hrun]
      rfl
    rw [hword, ← hhold]
    obtain ⟨hm, h3, h4, h5, h6, h7, h8, h9, h10⟩ := statusOf_flags s.mode s.modeRefused s.cfgBusy s.cfg.fault
      (s.cfg.preload == .running) s.geometryValid s.latch s.feedHold s.cfg.save.isSome
    refine ⟨hm.trans (by cases s.mode <;> rfl), h3, h4, cfgBusy_iff s, h5, h6.trans (by rfl), h7, h8, h9, h10, fun k hk => statusOf_high _ _ _ _ _ _ _ _ _ hk⟩

end Sys2Proof.Machine
end

section
/-! PROOF. The memory's link and the access port (R192, R199): the bytes of its commands, and the two ends of a transfer. -/

namespace Sys2Proof.Machine

theorem addressBytes_eq (a : Nat) : addressBytes a = [BitVec.ofNat 8 (a / 256), BitVec.ofNat 8 (a % 256)] := by
  have hlow : BitVec.ofNat 8 a = BitVec.ofNat 8 (a % 256) := BitVec.eq_of_toNat_eq (by simp)
  rw [addressBytes, hlow]

theorem statusReady_eq (status : Byte) : statusReady status = !status.getLsbD 0 := by
  by_cases h : status = 0xFF#8
  · subst h; rfl
  · rw [statusReady, bne_iff_ne.mpr h, Bool.true_and]

/-! ### What is in progress -/

theorem memoryCommands_preload {s : State} (h : s.cfg.preload = .running) : s.memoryCommands = [.statusRead] := if_pos h

theorem memoryCommands_transfer {s : State} {x : Transfer} (hpreload : s.cfg.preload ≠ .running) (hx : s.cfg.transfer = some x) :
    s.memoryCommands = x.commands := by
  unfold State.memoryCommands
  rw [if_neg hpreload, hx]

theorem memoryCommands_page {s : State} {x : Save} {p : SavePage} (hpreload : s.cfg.preload ≠ .running)
    (htransfer : s.cfg.transfer = none) (hx : s.cfg.save = some x) (hp : x.page = some p) : s.memoryCommands = p.commands := by
  unfold State.memoryCommands
  rw [if_neg hpreload, htransfer, hx, Option.bind_some, hp]

theorem statusAnswer_preload {s : State} (h : s.cfg.preload = .running) (status : Byte) (worn : List (Nat × Byte)) :
    s.statusAnswer status worn = if status.getLsbD 0 then none else some .preloadEnd := by
  unfold State.statusAnswer
  rw [statusReady_eq, Bool.not_not, if_pos h]

theorem statusAnswer_transfer {s : State} {x : Transfer} (hpreload : s.cfg.preload ≠ .running) (hx : s.cfg.transfer = some x)
    (status : Byte) (worn : List (Nat × Byte)) :
    s.statusAnswer status worn = if x.write ∧ status.getLsbD 0 = false then some .accessTransferDone else none := by
  unfold State.statusAnswer
  rw [statusReady_eq, Bool.not_not, if_neg hpreload, hx]
  cases status.getLsbD 0 <;> simp

theorem statusAnswer_page {s : State} {x : Save} {p : SavePage} (hpreload : s.cfg.preload ≠ .running)
    (htransfer : s.cfg.transfer = none) (hx : s.cfg.save = some x) (hp : x.page = some p) (status : Byte)
    (worn : List (Nat × Byte)) :
    s.statusAnswer status worn = if status.getLsbD 0 then none else some (.savePageDone worn) := by
  unfold State.statusAnswer
  rw [statusReady_eq, Bool.not_not, if_neg hpreload, htransfer, hx, Option.bind_some, hp]

/-! ### A write that does not come to its end -/

@[simp] theorem length_mixBytes (n : Nat) (old new : List Byte) : (mixBytes n old new).length = new.length := by
  rw [mixBytes, List.length_map, List.length_range]

theorem interruptWrite_fields (s : State) (a : Nat) (bs : List Byte) :
    { s.interruptWrite a bs with eeprom := s.eeprom, free := s.free } = s := rfl

theorem read_interruptWrite (s : State) {a b : Nat} {bs : List Byte} (h : b < a ∨ a + bs.length ≤ b) :
    (s.interruptWrite a bs).eeprom.read b = s.eeprom.read b :=
  Memory.read_writeBytes_of_outside (by rwa [length_mixBytes])

/-! ### The save that waits for a transfer's end -/

/-- `begun` is the act of `s`'s save once no transfer runs: a save that waits begins its page 1 (R197). -/
def BeginsSaveOf (s : State) (begun : State → State) : Prop :=
  (∀ u, begun u = u) ∨ ∃ y : Save, ∀ u : State, begun u = { u with cfg := { u.cfg with save := some { y with
    page := some ⟨1, s.geometry.toBytes.take 64, u.now + 10⟩
    sum := y.sum + sumWords (s.geometry.toBytes.take 64)
    geometry := s.geometry.toBytes } } }

theorem startSave_of_page {s : State} (h : s.cfg.save.bind Save.page ≠ none ∨ s.cfg.save = none) : s.startSave = s := by
  unfold State.startSave
  cases hsave : s.cfg.save with
  | none => rfl
  | some y =>
    rw [hsave] at h
    obtain ⟨p, hp⟩ := Option.ne_none_iff_exists'.mp (h.resolve_right (by simp))
    rw [Option.bind_some] at hp
    simp only [hp, Option.isNone_some, Bool.false_and, Bool.false_eq_true, if_false]

theorem startSave_of_waiting {s : State} {y : Save} (hsave : s.cfg.save = some y) (hpage : y.page = none)
    (htransfer : s.cfg.transfer = none) : s.startSave = { s with cfg := { s.cfg with save := some { y with
      page := some ⟨1, s.geometry.toBytes.take 64, s.now + 10⟩
      sum := y.sum + sumWords (s.geometry.toBytes.take 64)
      geometry := s.geometry.toBytes } } } := by
  unfold State.startSave
  rw [hsave]
  dsimp only
  rw [if_pos (by rw [hpage, htransfer]; rfl)]
  rfl

/-- A transfer's end starts a waiting save, and nothing else. -/
theorem startSave_begun {s : State} {begun : State → State}
    (hstays : s.cfg.save.bind Save.page ≠ none ∨ s.cfg.save = none → ∀ u, begun u = u)
    (hwaits : ∀ y, s.cfg.save = some y → y.page = none → ∀ u : State, begun u = { u with cfg := { u.cfg with
      save := some { y with
        page := some ⟨1, s.geometry.toBytes.take 64, u.now + 10⟩
        sum := y.sum + sumWords (s.geometry.toBytes.take 64)
        geometry := s.geometry.toBytes } } }) :
    BeginsSaveOf s begun ∧ ∀ u : State, u.cfg.save = s.cfg.save → u.geometry = s.geometry → u.cfg.transfer = none →
      u.startSave = begun u := by
  by_cases h : s.cfg.save.bind Save.page ≠ none ∨ s.cfg.save = none
  · exact ⟨.inl (hstays h), fun u hsave _ _ => (startSave_of_page (by rwa [hsave])).trans (hstays h u).symm⟩
  · push Not at h
    obtain ⟨hpage, hsome⟩ := h
    obtain ⟨y, hy⟩ := Option.ne_none_iff_exists'.mp hsome
    rw [hy, Option.bind_some] at hpage
    refine ⟨.inr ⟨y, hwaits y hy hpage⟩, fun u hsave hgeometry htransfer => ?_⟩
    rw [startSave_of_waiting (hsave.trans hy) hpage htransfer, hwaits y hy hpage, hgeometry]

/-- The act of a save does not depend on the memories or the free values. -/
theorem BeginsSaveOf.withMemories {s : State} {begun : State → State} (h : BeginsSaveOf s begun) (u : State) (e : Memory) (n : Nat)
    (m : Memory) : { begun u with eeprom := e, free := n, ram := m } = begun { u with eeprom := e, free := n, ram := m } := by
  rcases h with h | ⟨y, h⟩
  · rw [h, h]
  · rw [h, h]

theorem BeginsSaveOf.ram {s : State} {begun : State → State} (h : BeginsSaveOf s begun) (u : State) : (begun u).ram = u.ram := by
  rcases h with h | ⟨y, h⟩
  · rw [h]
  · rw [h]

theorem BeginsSaveOf.eeprom {s : State} {begun : State → State} (h : BeginsSaveOf s begun) (u : State) :
    (begun u).eeprom = u.eeprom := by
  rcases h with h | ⟨y, h⟩
  · rw [h]
  · rw [h]

/-! ### The two ends of a transfer -/

theorem transferAnswered_read {s : State} {x : Transfer} (hx : s.cfg.transfer = some x) (haddress : x.address < 65536)
    (hread : x.write = false) : s.transferAnswered = State.startSave { s with cfg := { s.cfg with
      addr := s.cfg.addr ||| 0x8000#16, dataLo := s.eeprom.word x.address, dataHi := s.eeprom.word (x.address + 2)
      transfer := none } } := by
  have hcommands : x.commands = [.read x.address] := by rw [Transfer.commands, hread]; rfl
  unfold State.transferAnswered State.transferDone
  simp only [hx, hcommands, sendAll_read, readMemory_eq s haddress]
  rw [bytesWord_readBytes _ _ _ _ (by decide), bytesWord_readBytes _ _ _ _ (by decide)]
  unfold State.endTransfer
  rw [hread]
  rfl

theorem transferAnswered_write {s : State} {x : Transfer} (hx : s.cfg.transfer = some x) (haddress : x.address < 65536)
    (hwrite : x.write = true) : s.transferAnswered = State.startSave { s with
      eeprom := s.eeprom.writeBytes x.address x.bytes
      cfg := { s.cfg with addr := s.cfg.addr &&& 0x7FFF#16, transfer := none } } := by
  have hcommands : x.commands = writeCommands x.address x.bytes := by rw [Transfer.commands, hwrite]; rfl
  unfold State.transferAnswered State.transferDone
  simp only [hx, hcommands, sendAll_write s [] haddress, applyWorn_nil]
  unfold State.endTransfer
  rw [hwrite]
  generalize s.eeprom.writeBytes _ _ = e
  rfl

theorem transferExpired_read {s : State} {x : Transfer} (hx : s.cfg.transfer = some x) (hread : x.write = false) :
    s.transferExpired = State.startSave { s with
      now := max s.now x.deadline
      cfg := { s.cfg with
        addr := s.cfg.addr ||| 0x8000#16, dataLo := 0xFFFF#16, dataHi := 0xFFFF#16, fault := true, transfer := none } } := by
  unfold State.transferExpired State.transferTimeout State.endTransfer
  simp only [hx, hread, Bool.false_eq_true, if_false]
  rfl

theorem transferExpired_write {s : State} {x : Transfer} (hx : s.cfg.transfer = some x) (hwrite : x.write = true) :
    s.transferExpired = State.startSave { s with
      eeprom := (s.interruptWrite x.address x.bytes).eeprom
      free := s.free + 1
      now := max s.now x.deadline
      cfg := { s.cfg with addr := s.cfg.addr &&& 0x7FFF#16, fault := true, transfer := none } } := by
  unfold State.transferExpired State.transferTimeout State.endTransfer
  simp only [hx, hwrite, if_true]
  rfl

theorem portWord_of_read {w : Word} (h : w.getLsbD 15 = false) : portWord w = w &&& 0x1FFC#16 := by
  have masks : ∀ i < 16, i ≠ 15 → (0x9FFC#16).getLsbD i = (0x1FFC#16).getLsbD i := by decide
  refine BitVec.eq_of_getLsbD_eq fun i hi => ?_
  rw [portWord, BitVec.getLsbD_and, BitVec.getLsbD_and]
  by_cases h15 : i = 15
  · rw [h15, h, Bool.false_and, Bool.false_and]
  · rw [masks i hi h15]

/-- A write to CFG_ADDR that finds the memory not busy (R199). -/
theorem writePort_free {s : State} (h : s.cfgBusy = false) (w : Word) : s.writePort w = s.startTransfer w := by
  unfold State.writePort
  rw [h]
  rfl

/-- Settles O50: by the bytes of the commands, the start of a transfer, and its two ends. -/
theorem accessPortMovesFourBytes : Obligations.AccessPortMovesFourBytes := by
  refine ⟨fun a bytes _ => ⟨rfl, rfl, ?_, ?_⟩, fun s w hrun => ⟨fun hbusy => ?_, fun hfree hflag => ?_, fun hfree hflag => ?_,
    memoryCommands_preload, fun hnone => ⟨?_, ?_⟩, fun x hx hbound => ⟨fun hpreload => ?_, fun hpreload => ?_,
      fun begun hstays hwaits => ?_⟩⟩⟩
  · rw [MemoryCommand.sent, addressBytes_eq]
  · rw [MemoryCommand.sent, addressBytes_eq]
    rfl
  · exact reaches_of_act (f := fun s => s.writePort w) rfl hrun (if_pos hbusy)
  · refine reaches_of_act (f := fun s => s.writePort w) rfl hrun ((writePort_free hfree w).trans ?_)
    unfold State.startTransfer portFlag
    rw [hflag, portWord_of_read hflag]
    rfl
  · refine reaches_of_act (f := fun s => s.writePort w) rfl hrun ((writePort_free hfree w).trans ?_)
    unfold State.startTransfer portFlag
    rw [hflag]
    rfl
  · exact reaches_of_act (f := State.transferAnswered) rfl hrun (by unfold State.transferAnswered; rw [hnone])
  · exact reaches_of_act (f := State.transferExpired) rfl hrun (by unfold State.transferExpired; rw [hnone])
  · exact memoryCommands_transfer hpreload hx
  · exact statusAnswer_transfer hpreload hx
  · have haddress : x.address < 65536 := by omega
    obtain ⟨hbegins, hstart⟩ := startSave_begun hstays hwaits
    refine ⟨fun hread => ?_, fun hwrite => ?_, fun hread => ?_, fun hwrite => ?_⟩
    · exact reaches_of_act (f := State.transferAnswered) rfl hrun ((transferAnswered_read hx haddress hread).trans (hstart _ rfl rfl rfl))
    · exact reaches_of_act (f := State.transferAnswered) rfl hrun
        ((transferAnswered_write hx haddress hwrite).trans (hstart _ rfl rfl rfl))
    · exact reaches_of_act (f := State.transferExpired) rfl hrun ((transferExpired_read hx hread).trans (hstart _ rfl rfl rfl))
    · refine answers_of_act (f := State.transferExpired) rfl hrun ?_
      have hends := (transferExpired_write hx hwrite).trans (hstart _ rfl rfl rfl)
      have hpublished := (publish_publishedFrom s s.transferExpired).1
      refine ⟨(congrArg (fun z : State => { z with eeprom := s.eeprom, free := s.free, ram := s.ram }) (hpublished.trans hends)).trans
        (hbegins.withMemories _ _ _ _), fun a ha => ?_, fun a ha => ?_⟩
      · rw [congrArg State.eeprom (hpublished.trans hends), hbegins.eeprom]
        exact read_interruptWrite s ha
      · rw [publish_ticketFramesKept s s.transferExpired a ha, hends, hbegins.ram]

end Sys2Proof.Machine
end

section
/-! PROOF. The pages of a save (R197, R198): a page reported done or not, and the closure of the ticket. -/

namespace Sys2Proof.Machine

/-- A closure does not read or write the configuration memory controller. -/
theorem closeFrame_withCfg (s : State) (c : CfgMem) (f : Nat) (tag : Word) (res : Result) (detail : Nat)
    (fields : List (Nat × List Byte)) : State.closeFrame { s with cfg := c } f tag res detail fields =
      { s.closeFrame f tag res detail fields with cfg := c } := by
  unfold State.closeFrame
  dsimp only
  by_cases h : s.frameState f = 2
  · rw [if_pos h, if_pos (show State.frameState { s with cfg := c } f = 2 from h)]
    generalize outcomeSection _ _ _ _ _ _ = bs
    rfl
  · rw [if_neg h, if_neg (show ¬ State.frameState { s with cfg := c } f = 2 from h)]
    rfl

theorem closeFrame_withStore (s : State) (e : Memory) (n f : Nat) (tag : Word) (res : Result) (detail : Nat)
    (fields : List (Nat × List Byte)) : State.closeFrame { s with eeprom := e, free := n } f tag res detail fields =
      { s.closeFrame f tag res detail fields with eeprom := e, free := n } := by
  unfold State.closeFrame
  dsimp only
  by_cases h : s.frameState f = 2
  · rw [if_pos h, if_pos (show State.frameState { s with eeprom := e, free := n } f = 2 from h)]
    generalize outcomeSection _ _ _ _ _ _ = bs
    rfl
  · rw [if_neg h, if_neg (show ¬ State.frameState { s with eeprom := e, free := n } f = 2 from h)]
    rfl

/-- A save's closure: the ticket's outcome, the memory no longer busy, and the SAVE cause (R198). -/
theorem closeSave_eq (s : State) (x : Save) (res : Result) (detail : Nat) (fields : List (Nat × List Byte)) :
    s.closeSave x res detail fields =
      (State.closeFrame { s with cfg := { s.cfg with save := none } } x.frame x.tag res detail fields).raise .save := by
  have hcloses := closeFrame_withCfg s { s.cfg with save := none } x.frame x.tag res detail fields
  have hcfg := cfg_closeFrame s x.frame x.tag res detail fields
  calc s.closeSave x res detail fields
      = State.raise { s.closeFrame x.frame x.tag res detail fields with cfg := { s.cfg with save := none } } .save :=
        congrArg (fun c : CfgMem =>
          State.raise { s.closeFrame x.frame x.tag res detail fields with cfg := { c with save := none } } .save) hcfg
    _ = _ := congrArg (fun z : State => z.raise .save) hcloses.symm

/-- The page is written in one write, and compared with what was sent (R192, R198). -/
theorem pageDone_eq (s : State) (x : Save) {p : SavePage} (h : p.index ≤ 34) (worn : List (Nat × Byte)) :
    s.pageDone x p worn =
      if applyWorn p.sent worn = p.sent then
        State.nextPage { s with eeprom := s.eeprom.writeBytes (64 * p.index) (applyWorn p.sent worn) } x p.index
      else
        State.closeSave { s with eeprom := s.eeprom.writeBytes (64 * p.index) (applyWorn p.sent worn) } x .failed p.index [] := by
  have haddress : 64 * p.index < 65536 := by omega
  unfold State.pageDone SavePage.commands pageSize
  dsimp only
  rw [sendAll_write s worn haddress, readMemory_eq _ haddress,
    Memory.readBytes_writeBytes_of_length _ _ (length_applyWorn p.sent worn)]

theorem pageAnswered_of {s : State} {x : Save} {p : SavePage} (hx : s.cfg.save = some x) (hp : x.page = some p)
    (worn : List (Nat × Byte)) : s.pageAnswered worn = s.pageDone x p worn := by
  simp only [State.pageAnswered, hx, hp]

theorem pageExpired_of {s : State} {x : Save} {p : SavePage} (hx : s.cfg.save = some x) (hp : x.page = some p) :
    s.pageExpired = (s.reachTime p.deadline).pageTimeout x p := by
  simp only [State.pageExpired, hx, hp]

theorem pageAnswered_of_none {s : State} (h : s.cfg.save.bind Save.page = none) (worn : List (Nat × Byte)) :
    s.pageAnswered worn = s ∧ s.pageExpired = s := by
  cases hx : s.cfg.save with
  | none => simp only [State.pageAnswered, State.pageExpired, hx, and_self]
  | some x =>
    rw [hx, Option.bind_some] at h
    simp only [State.pageAnswered, State.pageExpired, hx, h, and_self]

/-- A page that reads back as sent is followed by the save's next act. -/
theorem pageAnswered_good {s : State} {x : Save} {p : SavePage} (hx : s.cfg.save = some x) (hp : x.page = some p)
    (h : p.index ≤ 34) :
    s.pageAnswered [] = State.nextPage { s with eeprom := s.eeprom.writeBytes (64 * p.index) p.sent } x p.index := by
  rw [pageAnswered_of hx hp, pageDone_eq s x h, applyWorn_nil, if_pos rfl]

/-- A page that reads back otherwise closes the ticket FAILED. -/
theorem pageAnswered_worn {s : State} {x : Save} {p : SavePage} {worn : List (Nat × Byte)} (hx : s.cfg.save = some x)
    (hp : x.page = some p) (h : p.index ≤ 34) (hworn : applyWorn p.sent worn ≠ p.sent) : s.pageAnswered worn =
      (State.closeFrame { s with
        eeprom := s.eeprom.writeBytes (64 * p.index) (applyWorn p.sent worn)
        cfg := { s.cfg with save := none } } x.frame x.tag .failed p.index []).raise .save := by
  rw [pageAnswered_of hx hp, pageDone_eq s x h, if_neg hworn, closeSave_eq]

/-- A page that is not reported done closes the ticket FAILED, its bytes left open. -/
theorem pageExpired_eq {s : State} {x : Save} {p : SavePage} (hx : s.cfg.save = some x) (hp : x.page = some p) :
    s.pageExpired = { (State.closeFrame { s with
        now := max s.now p.deadline
        cfg := { s.cfg with save := none } } x.frame x.tag .failed p.index []).raise .save with
      eeprom := (s.interruptWrite (64 * p.index) p.sent).eeprom
      free := s.free + 1 } := by
  rw [pageExpired_of hx hp, State.pageTimeout, closeSave_eq]
  have hstore := closeFrame_withStore { s with now := max s.now p.deadline, cfg := { s.cfg with save := none } }
    (s.interruptWrite (64 * p.index) p.sent).eeprom (s.free + 1) x.frame x.tag .failed p.index []
  exact congrArg (fun z : State => z.raise .save) hstore

theorem nextPage_last (s : State) (x : Save) : s.nextPage x 0 = s.closeSave x .done 0 [(140, bytesOfWord x.sum)] := rfl

theorem nextPage_of_row (s : State) (x : Save) {k : Nat} (hlow : 2 ≤ k) (hhigh : k ≤ 33) : s.nextPage x k =
    { s with cfg := { s.cfg with save := some { x with
      page := some ⟨k + 1, (s.row (k + 1 - 3)).toBytes, s.now + 10⟩
      sum := x.sum + sumWords (s.row (k + 1 - 3)).toBytes } } } := by
  have hpage : s.pageBytes x (k + 1) = (s.row (k + 1 - 3)).toBytes := by
    unfold State.pageBytes
    rw [if_neg (by omega), if_neg (by omega), if_neg (by omega)]
  unfold State.nextPage State.beginPage
  rw [if_neg (by omega), if_neg (by omega), if_neg (by omega)]
  dsimp only
  rw [if_neg (by omega), hpage]
  rfl

/-- Settles O51: by what a page reported done, spoilt, or not reported leaves. -/
theorem saveWritesItsPagesInOrder : Obligations.SaveWritesItsPagesInOrder := by
  intro s hrun
  have answered : ∀ {worn u}, s.pageAnswered worn = u → Reaches (.savePageDone worn) s u := fun {worn _} h =>
    reaches_of_act (f := fun s => s.pageAnswered worn) rfl hrun h
  refine ⟨fun hnone => ⟨fun worn => answered (pageAnswered_of_none hnone worn).1,
      reaches_of_act (f := State.pageExpired) rfl hrun (pageAnswered_of_none hnone []).2⟩,
    fun x p hx hp hindex => ⟨fun hpreload htransfer => memoryCommands_page hpreload htransfer hx hp,
      fun hpreload htransfer => statusAnswer_page hpreload htransfer hx hp, fun k hk hlow hhigh bytes hbytes => answered ?_,
      fun hk => answered ?_, fun hk => answered ?_, fun hk => answered ?_,
      fun worn hworn => answered (pageAnswered_worn hx hp hindex hworn), ?_⟩⟩
  · subst hk
    rw [pageAnswered_good hx hp hindex, nextPage_of_row _ _ hlow hhigh, hbytes]
    generalize s.eeprom.writeBytes _ _ = e
    rfl
  · rw [pageAnswered_good hx hp hindex, hk]
    generalize s.eeprom.writeBytes _ _ = e
    rfl
  · rw [pageAnswered_good hx hp hindex, hk]
    generalize s.eeprom.writeBytes _ _ = e
    rfl
  · rw [pageAnswered_good hx hp hindex, hk, nextPage_last, closeSave_eq]
  · refine answers_of_act (f := State.pageExpired) rfl hrun ?_
    intro u hu
    have hends : s.pageExpired =
        { u with eeprom := (s.interruptWrite (64 * p.index) p.sent).eeprom, free := s.free + 1 } := hu ▸ pageExpired_eq hx hp
    have hpublished := (publish_publishedFrom s s.pageExpired).1.trans hends
    refine ⟨congrArg (fun z : State => { z with eeprom := u.eeprom, free := u.free, ram := u.ram }) hpublished, fun a ha => ?_,
      fun a ha => ?_⟩
    · rw [publish_ticketFramesKept s s.pageExpired a ha, hends]
    · rw [congrArg State.eeprom hpublished]
      exact read_interruptWrite s ha

end Sys2Proof.Machine
end

section
/-! PROOF. The end of the preload (R193, R194): the judgment of the stored image, the tables it installs, and the first publication. -/

namespace Sys2Proof.Machine

/-! ### The judgment of the stored image -/

theorem preloadResult_fst {s : State} {stored : Geometry} (h : stored = .ofWords fun k => s.eeprom.word (64 + 2 * k)) :
    s.preloadResult.1 = if s.eeprom.word 0 ≠ 0x4B41#16 then .marker
      else if s.eeprom.word 2 ≠ 2176#16 then .length
      else if sumWords (s.eeprom.readBytes 64 2176) ≠ s.eeprom.word 4 then .check
      else if stored.firstFailed.isSome then .geometry
      else .good := by
  unfold State.preloadResult
  rw [storedGeometry_eq, ← h, storedSum_eq]
  dsimp only
  rw [storedHeader_word s (by decide), storedHeader_word s (by decide), storedHeader_word s (by decide)]
  unfold imageMarker imageLength
  split_ifs with hmarker hlength hcheck hfailed
  · rfl
  · rfl
  · rfl
  · obtain ⟨k, hk⟩ := Option.isSome_iff_exists.mp hfailed
    rw [hk]
  · rw [Option.not_isSome_iff_eq_none.mp hfailed]

theorem preloadResult_snd {s : State} {stored : Geometry} (h : stored = .ofWords fun k => s.eeprom.word (64 + 2 * k)) :
    s.preloadResult.2 = if s.preloadResult.1 = .geometry then stored.firstFailed.getD 0 else 0 := by
  unfold State.preloadResult
  rw [storedGeometry_eq, ← h]
  dsimp only
  by_cases hmarker : bytesWord (s.storedPage 0) 0 ≠ imageMarker
  · rw [if_pos hmarker]; rfl
  rw [if_neg hmarker]
  by_cases hlength : bytesWord (s.storedPage 0) 2 ≠ imageLength
  · rw [if_pos hlength]; rfl
  rw [if_neg hlength]
  by_cases hcheck : s.storedSum ≠ bytesWord (s.storedPage 0) 4
  · rw [if_pos hcheck]; rfl
  rw [if_neg hcheck]
  cases stored.firstFailed with
  | none => rfl
  | some k => rfl

theorem preloadResult_not_running (s : State) : s.preloadResult.1 ≠ .running := by
  rw [preloadResult_fst rfl]
  split_ifs <;> decide

/-! ### The tables it installs -/

/-- From `s` to `t` the tables and what follows from them may differ; the link, the reader, the clock and the RAM do not. -/
structure TablesOnly (s t : State) : Prop where
  now : t.now = s.now
  resetHeld : t.resetHeld = s.resetHeld
  manifest : t.manifest = s.manifest
  cfg : t.cfg = s.cfg
  ram : t.ram = s.ram

/-- The rows written one by one. -/
theorem foldl_setRow (s : State) (f : Nat → SpeciesRow) (n : Nat) (hn : n ≤ 32) :
    ∃ v : Vector SpeciesRow 32, (List.range n).foldl (fun t k => t.setRow k (f k)) s = { s with species := v }
      ∧ ∀ k (hk : k < 32), v[k] = if k < n then f k else s.species[k] := by
  induction n with
  | zero => exact ⟨s.species, rfl, fun k hk => (if_neg (Nat.not_lt_zero k)).symm⟩
  | succ n ih =>
    obtain ⟨v, hfold, hget⟩ := ih (by omega)
    refine ⟨v.set n (f n), ?_, fun k hk => ?_⟩
    · rw [List.range_succ, List.foldl_append, hfold, List.foldl_cons, List.foldl_nil, setRow_of_lt _ (by omega)]
    · rw [Vector.getElem_set]
      by_cases hkn : n = k
      · rw [if_pos hkn, if_pos (by omega), hkn]
      · rw [if_neg hkn, hget]
        exact if_congr (by omega) rfl rfl

/-- The rows that a GOOD preload installs. -/
theorem installRows_eq (s : State) : ∃ v : Vector SpeciesRow 32, s.installRows = { s with species := v }
    ∧ ∀ k, k < 32 → State.row { s with species := v } k = installedRow k (s.storedRow k) := by
  obtain ⟨v, hfold, hget⟩ := foldl_setRow s (fun k => installedRow k (s.storedRow k)) 32 (by omega)
  refine ⟨v, hfold, fun k hk => ?_⟩
  rw [row_of_lt _ hk]
  exact (hget k hk).trans (if_pos hk)

/-- A geometry that is installed changes, besides the flow, the geometry, the edges, the held logs and the slots. -/
theorem installGeometry_flowOnly (s : State) (g : Geometry) : FlowOnly { s with
      geometry := g
      geometryValid := true
      feed := { s.feed with edges := if g.encoderResolution = s.geometry.encoderResolution then s.feed.edges else 0 }
      temp := { s.temp with heldLogs := min s.temp.heldLogs g.tempHoldLimit }
      arbiter := { s.arbiter with slots := slotsFor g s.supply.level } } (s.installGeometry g) :=
  (FlowOnly.elevateAged _).trans ((FlowOnly.foldl .newRelease allArms _).trans (.arbitrate _))

theorem FlowOnly.geometryValid {s t : State} (h : FlowOnly s t) : t.geometryValid = s.geometryValid := by
  have k := congrArg State.geometryValid h.1
  exact k

theorem installGeometry_tablesOnly (s : State) (g : Geometry) : TablesOnly s (s.installGeometry g) where
  now := (installGeometry_flowOnly s g).now
  resetHeld := (installGeometry_flowOnly s g).resetHeld
  manifest := (installGeometry_flowOnly s g).manifest
  cfg := (installGeometry_flowOnly s g).cfg
  ram := (installGeometry_flowOnly s g).2

theorem storedRow_congr {s t : State} (h : t.eeprom = s.eeprom) (k : Nat) : t.storedRow k = s.storedRow k := by
  unfold State.storedRow State.storedPage State.readMemory
  rw [h]

/-- The tables after a preload's end. -/
theorem installTables_good (s : State) : TablesOnly s (s.installTables .good) ∧ (s.installTables .good).geometry = s.storedGeometry
    ∧ (s.installTables .good).geometryValid = true
    ∧ ∀ k, k < 32 → (s.installTables .good).row k = installedRow k (s.storedRow k) := by
  have hinstall : s.installTables .good = (s.installGeometry s.storedGeometry).installRows := if_pos rfl
  have hflow := installGeometry_flowOnly s s.storedGeometry
  have tables := installGeometry_tablesOnly s s.storedGeometry
  have hvalid := hflow.geometryValid
  have hgeometry := hflow.geometry
  have heeprom := hflow.eeprom
  rw [hinstall]
  generalize s.installGeometry s.storedGeometry = u at tables hvalid hgeometry heeprom
  obtain ⟨now, resetHeld, manifest, cfg, ram⟩ := tables
  obtain ⟨v, hrows, hrow⟩ := installRows_eq u
  rw [hrows]
  exact ⟨⟨now, resetHeld, manifest, cfg, ram⟩, hgeometry, hvalid,
    fun k hk => (hrow k hk).trans (congrArg (installedRow k) (storedRow_congr heeprom k))⟩

theorem installTables_bad (s : State) {result : Preload} (h : result ≠ .good) : s.installTables result = { s with
    geometry := .default
    geometryValid := false
    species := speciesReset
    arbiter := { s.arbiter with slots := slotsFor .default s.supply.level } } := if_neg h

theorem installTables_tablesOnly (s : State) (result : Preload) : TablesOnly s (s.installTables result) := by
  by_cases h : result = .good
  · rw [h]; exact (installTables_good s).1
  · rw [installTables_bad s h]; exact ⟨rfl, rfl, rfl, rfl, rfl⟩

/-! ### The end -/

/-- The state in which the tables are installed: the preload's result stands. -/
def State.judged (s : State) (result : Preload) (detail : Nat) : State :=
  { s with cfg := { s.cfg with preload := result, preloadDetail := detail } }

/-- The end of a preload, when no scan is in progress. -/
theorem endPreload_eq {s : State} {result : Preload} {detail : Nat} (hresult : result ≠ .running)
    (hidle : s.manifest.scanning = false) : ∃ T, T = (s.judged result detail).installTables result ∧ s.endPreload result detail = { T with
      cause := (T.raise .preload).cause
      manifest := { s.manifest with scanning := true, scanRequest := false
                                    scanTimer := some (s.now + 10 * s.manifest.scanReload) } } := by
  refine ⟨_, rfl, ?_⟩
  obtain ⟨now, resetHeld, manifest, cfg, ram⟩ := installTables_tablesOnly (s.judged result detail) result
  show ((((s.judged result detail).installTables result).raise .preload).requestScan).startScanTimer = _
  generalize (s.judged result detail).installTables result = T at now resetHeld manifest cfg ram ⊢
  have hpreload : (T.raise .preload).cfg.preload ≠ .running := by
    rw [State.cfg_raise, cfg]
    exact hresult
  have hscanning : (T.raise .preload).manifest.scanning = false := by
    rw [State.manifest_raise, manifest]
    exact hidle
  have hmanifest : T.manifest = s.manifest := manifest
  have hnow : T.now = s.now := now
  rw [requestScan_of_idle hpreload hscanning, ← hmanifest, ← hnow]
  rfl

/-- The first publication writes frames 240 to 250 in full. -/
theorem publish_of_first {old new : State} (hold : old.publishes = false) (hnew : new.publishes = true) :
    publish old new = new.rewriteAll := by
  unfold publish
  rw [hold, hnew]
  rfl

/-- What the end of a preload leaves, published. -/
structure PreloadLeaves (s : State) (result : Preload) (detail : Nat) (t : State) : Prop where
  preload : t.cfg.preload = result
  detail : t.cfg.preloadDetail = detail
  valid : t.geometryValid = decide (result = .good)
  geometry : result = .good → t.geometry = s.storedGeometry
  rows : result = .good → ∀ k, k < 32 → t.row k = installedRow k (s.storedRow k)
  defaults : result ≠ .good → t.geometry = .default ∧ t.species = speciesReset
  now : t.now = s.now
  pending : t.pendingCause .preload = true
  scanning : t.manifest.scanning = true
  timer : t.manifest.scanTimer = some (s.now + 10 * s.manifest.scanReload)
  image : t.imageStands
  kept : TicketFramesKept s t

theorem publish_endPreload {s₀ s : State} {result : Preload} {detail : Nat} (hrun : s.running) (hbefore : s₀.publishes = false)
    (hresult : result ≠ .running) (hidle : s.manifest.scanning = false) :
    PreloadLeaves s result detail (publish s₀ (s.endPreload result detail)) := by
  obtain ⟨T, hT, hend⟩ := endPreload_eq (detail := detail) hresult hidle
  obtain ⟨now, resetHeld, -, cfg, ram⟩ := installTables_tablesOnly (s.judged result detail) result
  rw [← hT] at now resetHeld cfg ram
  have hvalid : T.geometryValid = decide (result = .good) := by
    rw [hT]
    by_cases h : result = .good
    · rw [h]; exact (installTables_good _).2.2.1
    · rw [installTables_bad _ h, decide_eq_false h]
  have hgood : result = .good → T.geometry = s.storedGeometry ∧ ∀ k, k < 32 → T.row k = installedRow k (s.storedRow k) := by
    rintro rfl
    rw [hT]
    obtain ⟨-, hgeometry, -, hrow⟩ := installTables_good (s.judged .good detail)
    exact ⟨hgeometry, hrow⟩
  have hbad : result ≠ .good → T.geometry = .default ∧ T.species = speciesReset := by
    intro h
    rw [hT, installTables_bad _ h]
    exact ⟨rfl, rfl⟩
  have hpublishes : (s.endPreload result detail).publishes = true := by
    rw [hend]
    unfold State.publishes
    dsimp only
    rw [cfg, resetHeld, show (s.judged result detail).resetHeld = none from hrun, Option.isNone_none, Bool.and_true]
    exact bne_iff_ne.mpr hresult
  have himage : (publish s₀ (s.endPreload result detail)).imageStands := by
    rw [publish_of_first hbefore hpublishes]
    exact imageStands_rewriteAll _
  have hkept : TicketFramesKept s (publish s₀ (s.endPreload result detail)) := fun a ha => by
    rw [publish_ticketFramesKept s₀ _ a ha, hend]
    exact congrArg (fun m : Memory => m.read a) ram
  have hpending : (s.endPreload result detail).pendingCause .preload = true := by
    have h : (T.raise .preload).pendingCause .preload = true := by rw [State.pendingCause_raise, decide_eq_true rfl, Bool.true_or]
    rw [hend]
    exact h
  obtain ⟨m, ht⟩ : ∃ m, publish s₀ (s.endPreload result detail) = { s.endPreload result detail with ram := m } := by
    obtain ⟨m, h, -⟩ := publish_ram s₀ (s.endPreload result detail)
    exact ⟨m, h⟩
  rw [ht] at himage hkept ⊢
  refine ⟨?_, ?_, ?_, fun h => ?_, fun h => ?_, fun h => ?_, ?_, hpending, ?_, ?_, himage, hkept⟩
  · rw [hend]; exact congrArg CfgMem.preload cfg
  · rw [hend]; exact congrArg CfgMem.preloadDetail cfg
  · rw [hend]; exact hvalid
  · rw [hend]; exact (hgood h).1
  · rw [hend]; exact (hgood h).2
  · rw [hend]; exact hbad h
  · rw [hend]; exact now
  · rw [hend]
  · rw [hend]

/-- Settles O52: by the judgment of the image and what the end of a preload leaves. -/
theorem preloadInstallsTheStoredTables : Obligations.PreloadInstallsTheStoredTables := by
  intro s hrun
  have before : s.cfg.preload = .running → s.publishes = false := fun h => by
    unfold State.publishes
    rw [h]
    rfl
  refine ⟨fun h => ⟨reaches_of_act (f := State.preloadRead) rfl hrun (if_neg h),
      reaches_of_act (f := State.preloadUnanswered) rfl hrun (if_neg h)⟩, fun h => statusAnswer_preload h, fun h hidle => ⟨?_, ?_⟩⟩
  · have hread : s.preloadRead = s.endPreload s.preloadResult.1 s.preloadResult.2 := if_pos h
    refine answers_of_act (f := State.preloadRead) rfl hrun ?_
    have leaves := publish_endPreload (detail := s.preloadResult.2) hrun (before h) (preloadResult_not_running s) hidle
    rw [← hread] at leaves
    generalize publish s s.preloadRead = t at leaves
    intro stored row hstored hrow
    have hrows : ∀ k, k < 32 → s.storedRow k = row k := fun k hk => (storedRow_eq s (by omega)).trans (hrow k).symm
    have installed (k : Nat) : (rowCheck k (row k)).isNone = true ↔ rowCheck k (row k) = none := Option.isNone_iff_eq_none
    rw [leaves.preload]
    refine ⟨preloadResult_fst hstored, ?_, leaves.valid, fun hgood => ?_, fun hgood => ?_, fun hgood k hlow hk => ?_, leaves.defaults,
      leaves.pending, leaves.scanning, leaves.timer, leaves.image, leaves.kept⟩
    · rw [leaves.detail, preloadResult_snd hstored]
    · rw [leaves.geometry hgood, storedGeometry_eq, hstored]
    · rw [leaves.rows hgood 0 (by decide), hrows 0 (by decide), installedRow, if_pos rfl]
      exact if_congr (installed 0) rfl rfl
    · rw [leaves.rows hgood k hk, hrows k hk, installedRow, if_neg (by omega)]
      exact if_congr (installed k) rfl rfl
  · have hread : s.preloadUnanswered = (s.reachTime s.cfg.preloadDeadline).endPreload .noResponse 0 := if_pos h
    refine answers_of_act (f := State.preloadUnanswered) rfl hrun ?_
    have leaves := publish_endPreload (s := s.reachTime s.cfg.preloadDeadline) (result := .noResponse) (detail := 0) hrun (before h)
      (by decide) hidle
    rw [← hread] at leaves
    generalize publish s s.preloadUnanswered = t at leaves
    obtain ⟨hgeometry, hspecies⟩ := leaves.defaults (by decide)
    exact ⟨leaves.preload, leaves.detail, leaves.valid, hgeometry, hspecies, leaves.now, leaves.pending, leaves.scanning, leaves.timer,
      leaves.image, leaves.kept⟩

end Sys2Proof.Machine
end

section
/-! PROOF. The impact monitors' count (chapter 8): pulses, burst windows and decays away from the threshold. -/

namespace Sys2Proof.Machine

theorem impactPulse_of_not {s : State} {a : ArmId}
    (h : (s.arm a).state ≠ .engaged ∨ (s.arm a).monitor.counting = false ∨ (s.arm a).monitor.burst.isSome = true) :
    s.impactPulse a = s := by
  have hcounts : ¬ ((s.arm a).state = .engaged ∧ (s.arm a).monitor.counting ∧ (s.arm a).monitor.burst = none) := by
    rintro ⟨hstate, hcounting, hburst⟩
    rcases h with h | h | h
    · exact h hstate
    · rw [h] at hcounting; exact absurd hcounting (by decide)
    · rw [hburst] at h; exact absurd h (by decide)
  exact if_neg hcounts

theorem impactPulse_of_counts {s : State} {a : ArmId} {p : MonitorParams} (hstate : (s.arm a).state = .engaged)
    (hcounting : (s.arm a).monitor.counting = true) (hburst : (s.arm a).monitor.burst = none)
    (hparams : (s.arm a).monitor.params = some p) : s.impactPulse a = s.countPulse a p := by
  unfold State.impactPulse
  dsimp only
  rw [if_pos ⟨hstate, hcounting, hburst⟩, hparams]

theorem burstClosed_none {s : State} {a : ArmId} (h : (s.arm a).monitor.burst = none) : s.burstClosed a = s := by
  unfold State.burstClosed
  rw [h]

theorem burstClosed_some {s : State} {a : ArmId} {w : Nat} (h : (s.arm a).monitor.burst = some w) : s.burstClosed a =
    ({ s with now := max s.now w }.setArm a { s.arm a with monitor := { (s.arm a).monitor with burst := none } }) := by
  unfold State.burstClosed
  rw [h]
  rfl

theorem decayExpired_none {s : State} {a : ArmId} (h : (s.arm a).monitor.decay = none) : s.decayExpired a = s := by
  unfold State.decayExpired
  rw [h]

/-- A decay lowers the count, and clears relief where it stood at the threshold. -/
theorem decayExpired_some {s : State} {a : ArmId} {w : Nat} {p : MonitorParams} (hdecay : (s.arm a).monitor.decay = some w)
    (hparams : (s.arm a).monitor.params = some p) : s.decayExpired a =
      if (s.arm a).monitor.counter = p.threshold then
        State.clearRelief ({ s with now := max s.now w }.setArm a { s.arm a with
          monitor := (s.arm a).monitor.decayed p (max s.now w) }) a
      else { s with now := max s.now w }.setArm a { s.arm a with monitor := (s.arm a).monitor.decayed p (max s.now w) } := by
  unfold State.decayExpired
  rw [hdecay, hparams]
  rfl

/-- The monitor after a pulse that counts. -/
theorem Monitor.count_eq (m : Monitor) (p : MonitorParams) (now : Nat) : m.count p now = { m with
    counter := if m.counter < p.maxDepth then m.counter + 1 else m.counter
    burst := some (now + p.burstWindow)
    decay := if m.counter = 0 ∧ 0 < p.maxDepth then some (now + p.decayInterval) else m.decay } := by
  have hstarts : (m.counter = 0 ∧ m.counter < p.maxDepth) ↔ (m.counter = 0 ∧ 0 < p.maxDepth) :=
    ⟨fun ⟨h, k⟩ => ⟨h, h ▸ k⟩, fun ⟨h, k⟩ => ⟨h, h ▸ k⟩⟩
  unfold Monitor.count
  rw [if_congr hstarts rfl rfl]

/-- Settles O37: each command away from the threshold, by the monitor it leaves. -/
theorem impactCountLeaks : Obligations.ImpactCountLeaks := by
  intro s a hrun
  have pulse : ∀ {u}, s.impactPulse a = u → Reaches (.impactPulse a) s u := fun h =>
    reaches_of_act (f := fun s => s.impactPulse a) rfl hrun h
  have closes : ∀ {u}, s.burstClosed a = u → Reaches (.burstWindowClose a) s u := fun h =>
    reaches_of_act (f := fun s => s.burstClosed a) rfl hrun h
  have decays : ∀ {u}, s.decayExpired a = u → Reaches (.decayExpiry a) s u := fun h =>
    reaches_of_act (f := fun s => s.decayExpired a) rfl hrun h
  refine ⟨fun h => pulse (impactPulse_of_not h), fun p hstate hcounting hburst hparams haway => pulse ?_,
    fun w hw => closes (burstClosed_some hw), fun h => closes (burstClosed_none h), fun w p hw hp haway => decays ?_,
    fun h => decays (decayExpired_none h)⟩
  · rw [impactPulse_of_counts hstate hcounting hburst hparams]
    unfold State.countPulse
    dsimp only
    rw [if_neg haway, ← Monitor.count_eq]
    rfl
  · rw [decayExpired_some hw hp, if_neg haway]
    rfl

end Sys2Proof.Machine
end

section
/-! PROOF. The grants (R116, R144): what one leaves, that they go on until none can be made, and that an arm is changed by its own only. -/

namespace Sys2Proof.Machine

/-! ### Granted and nothing else -/

theorem GrantedFrom.refl (u t : State) (a : ArmId) : GrantedFrom u t a (t.arm a) := .inl rfl

theorem GrantedOnly.refl (s : State) (a : ArmId) : GrantedOnly s s a := .inl rfl

theorem GrantedOnly.of_arm {s t : State} {a : ArmId} (h : t.arm a = s.arm a) : GrantedOnly s t a := .inl h

theorem flow_granted (c : Arm) (q : FlowRequest) (now timeout : Nat) : (c.granted q now timeout).flow = .inFlight q now timeout := by
  unfold Arm.granted
  cases q.kind <;> rfl

/-- An arm that may have been granted is granted at most once. -/
theorem GrantedFrom.then_only {u v t : State} {a : ArmId} {c : Arm} (h : GrantedFrom u v a c) (hnow : v.now = u.now)
    (hgeometry : v.geometry = u.geometry) (k : GrantedOnly v t a) : GrantedFrom u t a c := by
  rcases h with h | ⟨q, hq, h⟩
  · rcases k with k | ⟨x, hx, k⟩
    · exact .inl (k.trans h)
    · rw [hnow, hgeometry, h] at k
      rw [h] at hx
      exact .inr ⟨x, hx, k⟩
  · rcases k with k | ⟨x, hx, -⟩
    · exact .inr ⟨q, hq, k.trans h⟩
    · rw [h, flow_granted] at hx
      exact nomatch hx

theorem GrantedOnly.trans {s u t : State} {a : ArmId} (h : GrantedOnly s u a) (hnow : u.now = s.now)
    (hgeometry : u.geometry = s.geometry) (k : GrantedOnly u t a) : GrantedOnly s t a := GrantedFrom.then_only h hnow hgeometry k

/-! ### One grant -/

theorem isWaiting_iff {f : Flow} : f.isWaiting = true ↔ ∃ q, f = .waiting q := by
  cases f with
  | waiting q => exact ⟨fun _ => ⟨q, rfl⟩, fun _ => rfl⟩
  | idle => exact ⟨nofun, fun ⟨_, h⟩ => nomatch h⟩
  | inFlight q g w => exact ⟨nofun, fun ⟨_, h⟩ => nomatch h⟩
  | deferred v w => exact ⟨nofun, fun ⟨_, h⟩ => nomatch h⟩

theorem arm_grant_of_waiting {s : State} {a : ArmId} {q : FlowRequest} (h : (s.arm a).flow = .waiting q) :
    (s.grant a).arm a = (s.arm a).granted q s.now (moveTimeout s.geometry q) := by
  unfold State.arm
  rw [(grant_of_waiting h).2, Arms.get_set, if_pos rfl]
  rfl

theorem grantedOnly_grant (s : State) (a b : ArmId) : GrantedOnly s (s.grant a) b := by
  by_cases hb : b = a
  · subst hb
    by_cases hflow : (s.arm b).flow.isWaiting = true
    · obtain ⟨q, hq⟩ := isWaiting_iff.mp hflow
      exact .inr ⟨q, hq, arm_grant_of_waiting hq⟩
    · rw [grant_of_not_waiting (Bool.eq_false_iff.mpr hflow)]
      exact .refl s b
  · exact .of_arm (grant_others s a b hb)

theorem queue_startProtection (s : State) (r : RotorId) : (s.startProtection r).queue = s.queue := by
  unfold State.startProtection
  split
  · rfl
  · cases r <;> rfl

theorem queue_grant (s : State) (a : ArmId) : (s.grant a).queue = s.queue := by
  unfold State.grant
  split
  · dsimp only
    split
    · rw [queue_startProtection]
      rfl
    · rfl
  · rfl

/-- A grant drives the protection timer of the arm's rotor, and of a LIFT only (R143). -/
theorem rotor_startProtection (s : State) (r u : RotorId) : (s.startProtection r).rotor u = { s.rotor u with
    protection := if u = r ∧ s.geometry.protectionPeriod ≠ 0 then some (s.now + s.geometry.protectionPeriod)
      else (s.rotor u).protection } := by
  unfold State.startProtection
  by_cases hperiod : s.geometry.protectionPeriod = 0
  · rw [if_pos hperiod, if_neg (fun h => h.2 hperiod)]
  · rw [if_neg hperiod, State.rotor_updRotor]
    by_cases hr : r = u
    · subst hr
      rw [if_pos rfl, if_pos ⟨rfl, hperiod⟩]
    · rw [if_neg hr, if_neg (fun h => hr h.1.symm)]

theorem rotor_grant {s : State} {a : ArmId} {q : FlowRequest} (h : (s.arm a).flow = .waiting q) (r : RotorId) :
    (s.grant a).rotor r = { s.rotor r with
      protection := if r = rotorOf a ∧ q.kind = .lift ∧ s.geometry.protectionPeriod ≠ 0 then
          some (s.now + s.geometry.protectionPeriod)
        else (s.rotor r).protection } := by
  unfold State.grant
  rw [h]
  dsimp only
  by_cases hkind : q.kind = .lift
  · rw [if_pos hkind, rotor_startProtection]
    have hwhere : (r = rotorOf a ∧ q.kind = .lift ∧ s.geometry.protectionPeriod ≠ 0) ↔
        (r = rotorOf a ∧ s.geometry.protectionPeriod ≠ 0) := ⟨fun ⟨h, _, k⟩ => ⟨h, k⟩, fun ⟨h, k⟩ => ⟨h, hkind, k⟩⟩
    rw [if_congr hwhere rfl rfl]
    rfl
  · rw [if_neg hkind, if_neg (fun h => hkind h.2.1)]
    rfl

/-! ### Eligibility -/

theorem eligible_iff (s : State) (e : WaitEntry) : s.eligible e = true ↔ ∃ cls, s.waitingClass e.arm = some cls
    ∧ ¬ (s.supply.level = .low ∧ cls = .low)
    ∧ ¬ ((s.rotor (rotorOf e.arm)).protection.isSome = true ∧ e.elevated = false ∧ (cls = .normal ∨ cls = .low)) := by
  unfold State.eligible
  cases s.waitingClass e.arm with
  | none => exact ⟨nofun, fun ⟨_, h, _⟩ => nomatch h⟩
  | some cls =>
    simp only [Bool.and_eq_true, Bool.not_eq_true', Bool.and_eq_false_iff, beq_eq_false_iff_ne, Option.some.injEq, exists_eq_left',
      not_and_or, Bool.or_eq_false_iff, not_or, Bool.not_eq_false', Bool.not_eq_true, Bool.not_eq_false, ne_eq, or_assoc]

theorem eligible_class {s : State} {e : WaitEntry} (h : s.eligible e = true) : ∃ cls, s.waitingClass e.arm = some cls := by
  obtain ⟨cls, hcls, -⟩ := (eligible_iff s e).mp h
  exact ⟨cls, hcls⟩

theorem waiting_of_class {s : State} {a : ArmId} {cls : FlowClass} (h : s.waitingClass a = some cls) :
    ∃ q, (s.arm a).flow = .waiting q ∧ q.cls = cls := by
  unfold State.waitingClass at h
  split at h
  · rename_i q hq
    exact ⟨q, hq, Option.some.inj h⟩
  · exact nomatch h

/-! ### The choice -/

/-- The oldest eligible entry that is elevated. -/
def State.firstElevated (s : State) : Option WaitEntry := s.arbiter.wait.find? fun e => s.eligible e && e.elevated

/-- The oldest eligible entry of a class. -/
def State.firstOf (s : State) (cls : FlowClass) : Option WaitEntry :=
  s.arbiter.wait.find? fun e => s.eligible e && s.waitingClass e.arm == some cls

theorem choose_eq (s : State) : s.choose = s.firstElevated.or ((s.firstOf .urgent).or ((s.firstOf .high).or
    ((s.firstOf .normal).or (s.firstOf .low)))) := by
  unfold State.choose State.oldestOf State.firstElevated State.firstOf
  simp only [List.find?_filter, Bool.decide_and, Bool.decide_eq_true]

theorem firstOf_none {s : State} {cls : FlowClass} :
    s.firstOf cls = none ↔ ∀ e ∈ s.arbiter.wait, s.eligible e = true → s.waitingClass e.arm ≠ some cls := by
  unfold State.firstOf
  rw [List.find?_eq_none]
  exact forall₂_congr fun e _ => by rw [Bool.and_eq_true, beq_iff_eq, not_and]

theorem firstElevated_none {s : State} :
    s.firstElevated = none ↔ ∀ e ∈ s.arbiter.wait, s.eligible e = true → e.elevated = false := by
  unfold State.firstElevated
  rw [List.find?_eq_none]
  exact forall₂_congr fun e _ => by rw [Bool.and_eq_true, not_and, Bool.not_eq_true]

/-- Nothing is chosen exactly when nothing is eligible. -/
theorem choose_none {s : State} : s.choose = none ↔ ∀ e ∈ s.arbiter.wait, s.eligible e = false := by
  rw [choose_eq, Option.or_eq_none_iff, Option.or_eq_none_iff, Option.or_eq_none_iff, Option.or_eq_none_iff, firstElevated_none,
    firstOf_none, firstOf_none, firstOf_none, firstOf_none]
  constructor
  · rintro ⟨-, hurgent, hhigh, hnormal, hlow⟩ e he
    by_contra h
    rw [Bool.not_eq_false] at h
    obtain ⟨cls, hcls⟩ := eligible_class h
    cases cls with
    | urgent => exact hurgent e he h hcls
    | high => exact hhigh e he h hcls
    | normal => exact hnormal e he h hcls
    | low => exact hlow e he h hcls
  · intro h
    have never : ∀ {P : WaitEntry → Prop}, ∀ e ∈ s.arbiter.wait, s.eligible e = true → P e := fun e he hok => by
      rw [h e he] at hok
      exact nomatch hok
    exact ⟨never, never, never, never, never⟩

/-- The place of the entry chosen: the oldest elevated one, or the oldest of the highest class. -/
def State.Chosen (s : State) (e : WaitEntry) : Prop := s.eligible e = true ∧ ∃ before behind, s.arbiter.wait = before ++ e :: behind
  ∧ (e.elevated = true ∧ (∀ f ∈ before, s.eligible f = true → f.elevated = false)
    ∨ (∀ f ∈ s.arbiter.wait, s.eligible f = true → f.elevated = false)
      ∧ ∃ cls, s.waitingClass e.arm = some cls
        ∧ (∀ f ∈ s.arbiter.wait, s.eligible f = true → ∀ k, s.waitingClass f.arm = some k → cls.rank ≤ k.rank)
        ∧ ∀ f ∈ before, s.eligible f = true → s.waitingClass f.arm ≠ some cls)

theorem chosen_of_firstElevated {s : State} {e : WaitEntry} (h : s.firstElevated = some e) : s.Chosen e := by
  obtain ⟨hok, before, behind, hwait, hbefore⟩ := List.find?_eq_some_iff_append.mp h
  rw [Bool.and_eq_true] at hok
  refine ⟨hok.1, before, behind, hwait, .inl ⟨hok.2, fun f hf hel => ?_⟩⟩
  have hnot := hbefore f hf
  rwa [hel, Bool.true_and, Bool.not_eq_true'] at hnot

theorem chosen_of_firstOf {s : State} {e : WaitEntry} {cls : FlowClass} (helevated : s.firstElevated = none)
    (hhigher : ∀ k : FlowClass, k.rank < cls.rank → s.firstOf k = none) (h : s.firstOf cls = some e) : s.Chosen e := by
  obtain ⟨hok, before, behind, hwait, hbefore⟩ := List.find?_eq_some_iff_append.mp h
  rw [Bool.and_eq_true, beq_iff_eq] at hok
  refine ⟨hok.1, before, behind, hwait, .inr ⟨firstElevated_none.mp helevated, cls, hok.2, fun f hf hel k hk => ?_, fun f hf hel hcls => ?_⟩⟩
  · by_contra hrank
    exact firstOf_none.mp (hhigher k (Nat.lt_of_not_le hrank)) f hf hel hk
  · have hnot := hbefore f hf
    rw [hel, hcls, Bool.true_and, beq_self_eq_true] at hnot
    exact nomatch hnot

theorem choose_some {s : State} {e : WaitEntry} (h : s.choose = some e) : s.Chosen e := by
  rw [choose_eq] at h
  rcases Option.or_eq_some_iff.mp h with h | ⟨helevated, h⟩
  · exact chosen_of_firstElevated h
  rcases Option.or_eq_some_iff.mp h with h | ⟨hurgent, h⟩
  · exact chosen_of_firstOf helevated (fun k hk => absurd hk (Nat.not_lt_zero _)) h
  rcases Option.or_eq_some_iff.mp h with h | ⟨hhigh, h⟩
  · refine chosen_of_firstOf helevated (fun k hk => ?_) h
    cases k with
    | urgent => exact hurgent
    | high | normal | low => exact absurd hk (by decide)
  rcases Option.or_eq_some_iff.mp h with h | ⟨hnormal, h⟩
  · refine chosen_of_firstOf helevated (fun k hk => ?_) h
    cases k with
    | urgent => exact hurgent
    | high => exact hhigh
    | normal | low => exact absurd hk (by decide)
  · refine chosen_of_firstOf helevated (fun k hk => ?_) h
    cases k with
    | urgent => exact hurgent
    | high => exact hhigh
    | normal => exact hnormal
    | low => exact absurd hk (by decide)

/-! ### All the grants -/

/-- No further grant can be made: no slot is free, or nothing is eligible. -/
def State.grantsDone (s : State) : Prop := s.arbiter.slots ≤ s.arbiter.inFlight.length ∨ s.choose = none

theorem grantUpTo_of_done {s : State} (h : s.grantsDone) (n : Nat) : State.grantUpTo n s = s := by
  cases n with
  | zero => rfl
  | succ n =>
    unfold State.grantUpTo
    rcases h with h | h
    · rw [if_neg (by omega)]
    · rw [h]
      exact ite_self s

theorem grantUpTo_step {s : State} {e : WaitEntry} (hslot : s.arbiter.inFlight.length < s.arbiter.slots) (he : s.choose = some e)
    (n : Nat) : State.grantUpTo (n + 1) s = State.grantUpTo n (s.grant e.arm) := by
  rw [State.grantUpTo, if_pos hslot, he]

/-- A grant shortens the wait list. -/
theorem wait_grant_lt {s : State} {e : WaitEntry} (he : s.choose = some e) :
    (s.grant e.arm).arbiter.wait.length < s.arbiter.wait.length := by
  obtain ⟨hok, before, behind, hwait, -⟩ := choose_some he
  obtain ⟨cls, hcls⟩ := eligible_class hok
  obtain ⟨q, hq, -⟩ := waiting_of_class hcls
  rw [(grant_of_waiting hq).1]
  refine List.length_filter_lt_length_iff_exists.mpr ⟨e, ?_, by simp⟩
  rw [hwait]
  exact List.mem_append_right _ List.mem_cons_self

/-- With a number no less than the wait list's length the grants go on to their end. -/
theorem grantUpTo_done {n : Nat} {s : State} (h : s.arbiter.wait.length ≤ n) : (State.grantUpTo n s).grantsDone := by
  induction n generalizing s with
  | zero =>
    refine .inr (choose_none.mpr fun e he => ?_)
    rw [State.grantUpTo, List.eq_nil_of_length_eq_zero (Nat.le_zero.mp h)] at he
    exact nomatch he
  | succ n ih =>
    by_cases hslot : s.arbiter.inFlight.length < s.arbiter.slots
    · cases he : s.choose with
      | none =>
        rw [grantUpTo_of_done (.inr he)]
        exact .inr he
      | some e =>
        rw [grantUpTo_step hslot he]
        have := wait_grant_lt he
        exact ih (by omega)
    · rw [grantUpTo_of_done (.inl (by omega))]
      exact .inl (by omega)

/-- Numbers that suffice give the same grants. -/
theorem grantUpTo_congr {n m : Nat} {s : State} (hn : s.arbiter.wait.length ≤ n) (hm : s.arbiter.wait.length ≤ m) :
    State.grantUpTo n s = State.grantUpTo m s := by
  induction n generalizing s m with
  | zero =>
    have hdone : s.grantsDone := grantUpTo_done hn
    rw [grantUpTo_of_done hdone, grantUpTo_of_done hdone]
  | succ n ih =>
    by_cases hslot : s.arbiter.inFlight.length < s.arbiter.slots
    · cases he : s.choose with
      | none => rw [grantUpTo_of_done (.inr he), grantUpTo_of_done (.inr he)]
      | some e =>
        have hlt := wait_grant_lt he
        obtain ⟨k, rfl⟩ : ∃ k, m = k + 1 := ⟨m - 1, by omega⟩
        rw [grantUpTo_step hslot he, grantUpTo_step hslot he]
        exact ih (by omega) (by omega)
    · rw [grantUpTo_of_done (.inl (by omega)), grantUpTo_of_done (.inl (by omega))]

theorem arbitrate_done (s : State) : s.arbitrate.grantsDone := grantUpTo_done (Nat.le_refl _)

theorem arbitrate_of_done {s : State} (h : s.grantsDone) : s.arbitrate = s := grantUpTo_of_done h _

theorem arbitrate_step {s : State} {e : WaitEntry} (hslot : s.arbiter.inFlight.length < s.arbiter.slots) (he : s.choose = some e) :
    s.arbitrate = (s.grant e.arm).arbitrate := by
  have hlt := wait_grant_lt he
  unfold State.arbitrate
  obtain ⟨k, hk⟩ : ∃ k, s.arbiter.wait.length = k + 1 := ⟨s.arbiter.wait.length - 1, by omega⟩
  rw [hk, grantUpTo_step hslot he]
  exact grantUpTo_congr (by omega) (Nat.le_refl _)

/-- What every grant keeps, the grants keep. -/
theorem arbitrate_induction {P : State → Prop} (hgrant : ∀ s a, P s → P (s.grant a)) {s : State} (h : P s) : P s.arbitrate := by
  have upTo : ∀ n s, P s → P (State.grantUpTo n s) := by
    intro n
    induction n with
    | zero => exact fun s h => h
    | succ n ih =>
      intro s h
      by_cases hslot : s.arbiter.inFlight.length < s.arbiter.slots
      · cases he : s.choose with
        | none => rwa [grantUpTo_of_done (.inr he)]
        | some e =>
          rw [grantUpTo_step hslot he]
          exact ih _ (hgrant s e.arm h)
      · rwa [grantUpTo_of_done (.inl (by omega))]
  exact upTo _ s h

theorem queue_arbitrate (s : State) : s.arbitrate.queue = s.queue :=
  arbitrate_induction (P := fun u => u.queue = s.queue) (fun u a h => (queue_grant u a).trans h) rfl

/-- After the arbiter's grants an arm has been granted, if anything. -/
theorem grantedOnly_arbitrate (s : State) (a : ArmId) : GrantedOnly s s.arbitrate a :=
  (arbitrate_induction (P := fun u => FlowOnly s u ∧ GrantedOnly s u a)
    (fun u b ⟨hflow, h⟩ => ⟨hflow.trans (.grant u b), h.trans hflow.now hflow.geometry (grantedOnly_grant u b a)⟩)
    ⟨.refl s, .refl s a⟩).2

/-- Settles O35: the grants go on to their end, one leaves what R116 says, and the choice is the first of R144. -/
theorem arbiterGrantsAllItCanInItsOrder : Obligations.ArbiterGrantsAllItCanInItsOrder := by
  intro s
  refine ⟨arbitrate_done s, (FlowOnly.arbitrate s).1, queue_arbitrate s, (FlowOnly.arbitrate s).2, grantedOnly_arbitrate s,
    fun h => arbitrate_of_done h, fun e hslot he => arbitrate_step hslot he, fun a x hx => ⟨?_, (grant_of_waiting hx).1, rotor_grant hx⟩,
    fun eligible heligible => ?_⟩
  · rw [(grant_of_waiting hx).2]
    unfold Arm.granted moveTimeout
    cases x.kind <;> rfl
  · have agree : ∀ e, eligible e ↔ s.eligible e = true := fun e => (heligible e).trans (eligible_iff s e).symm
    simp only [agree, Bool.not_eq_true]
    exact ⟨choose_none, fun e he => choose_some he⟩

end Sys2Proof.Machine
end

section
/-! PROOF. Elevation by age and the expiry of a protection timer (R141, R143). -/

namespace Sys2Proof.Machine

theorem elevate_of_none {s : State} {a : ArmId} (h : (s.waitEntry? a).bind s.elevationTime = none) : s.elevate a = s := by
  unfold State.elevate
  rw [h]

/-- The request of an arm is judged at the moment its age reaches the limit of its class. -/
theorem elevate_of_some {s : State} {a : ArmId} {e : WaitEntry} {limit : Nat} (he : s.waitEntry? a = some e)
    (hplain : e.elevated = false) (hlimit : (s.waitingClass a).bind (fairnessLimit s.geometry) = some limit) :
    s.elevate a = ((s.reachTime (e.entered + limit)).judgeElevation a).arbitrate := by
  have harm : e.arm = a := by simpa using List.find?_some he
  have htime : s.elevationTime e = some (e.entered + limit) := by
    unfold State.elevationTime
    rw [hplain, harm, hlimit]
    rfl
  unfold State.elevate
  rw [he, Option.bind_some, htime]

theorem judgeElevation_eq {s : State} {a : ArmId} {limit : Nat}
    (hlimit : (s.waitingClass a).bind (fairnessLimit s.geometry) = some limit) :
    s.judgeElevation a = { s with arbiter := { s.arbiter with wait := s.arbiter.wait.map fun x =>
      if x.arm = a ∧ limit ≤ s.now - x.entered then { x with elevated := true } else x } } := by
  have judged : ∀ x : WaitEntry, (x.arm = a ∧ s.ageReached x = true) ↔ (x.arm = a ∧ limit ≤ s.now - x.entered) := by
    intro x
    refine and_congr_right fun hx => ?_
    unfold State.ageReached
    rw [hx, hlimit]
    exact decide_eq_true_iff
  unfold State.judgeElevation
  simp only [judged]

theorem protectionExpired_none {s : State} {r : RotorId} (h : (s.rotor r).protection = none) : s.protectionExpired r = s := by
  unfold State.protectionExpired
  rw [h]

theorem protectionExpired_some {s : State} {r : RotorId} {w : Nat} (h : (s.rotor r).protection = some w) : s.protectionExpired r =
    ({ s with now := max s.now w }.setRotor r { s.rotor r with protection := none }).arbitrate := by
  unfold State.protectionExpired
  rw [h]
  cases r <;> rfl

/-- Settles O36: by the elevation of an arm's entry and the end of a protection timer. -/
theorem elevationAndProtectionExpire : Obligations.ElevationAndProtectionExpire := by
  refine ⟨fun g => ⟨rfl, rfl, rfl, rfl⟩, fun s hrun => ?_⟩
  have elevates : ∀ {a u}, s.elevate a = u → Reaches (.fairnessElevation a) s u := fun {a _} h =>
    reaches_of_act (f := fun s => s.elevate a) rfl hrun h
  have expires : ∀ {r u}, s.protectionExpired r = u → Reaches (.protectionTimerExpiry r) s u := fun {r _} h =>
    reaches_of_act (f := fun s => s.protectionExpired r) rfl hrun h
  refine ⟨fun a e limit he hplain hlimit now hnow => elevates ?_, fun a e he helevated => elevates (elevate_of_none ?_),
    fun a h => elevates (elevate_of_none ?_), fun r h => expires (protectionExpired_none h),
    fun r w h => expires (protectionExpired_some h)⟩
  · subst hnow
    rw [elevate_of_some he hplain hlimit, judgeElevation_eq (s := s.reachTime (e.entered + limit)) hlimit]
    rfl
  · unfold State.waitEntry? State.elevationTime
    rw [he, Option.bind_some, helevated]
    rfl
  · cases he : s.waitEntry? a with
    | none => rfl
    | some e =>
      have harm : e.arm = a := by simpa using List.find?_some he
      have hlimit : (s.waitingClass a).bind (fairnessLimit s.geometry) = none := by
        rcases h with h | h | h
        · exact absurd harm (h e (List.mem_of_find?_eq_some he))
        · rw [h]; rfl
        · rw [h]; rfl
      rw [Option.bind_some]
      unfold State.elevationTime
      rw [harm, hlimit]
      exact ite_self _

end Sys2Proof.Machine
end

section
/-! PROOF. The computation of a target (section 5.3): the interpolated diameter and the ten steps. -/

namespace Sys2Proof.Machine

/-! ### The diameter (R96) -/

/-- Stations that lie before the section are passed over. -/
theorem diameterFrom_append {x : Int} (h p : Station) (pre post : List Station)
    (hbefore : ∀ n ∈ pre ++ [p], (n.distance : Int) < x) : diameterFrom x h (pre ++ p :: post) = diameterFrom x p post := by
  induction pre generalizing h with
  | nil => exact if_pos (hbefore p List.mem_cons_self)
  | cons n pre ih =>
    rw [List.cons_append, diameterFrom, if_pos (hbefore n List.mem_cons_self)]
    exact ih n fun k hk => hbefore k (List.mem_cons_of_mem _ hk)

/-- At a station the line from the one before it gives the station's diameter. -/
theorem interpolate_end (d e : Int) {k : Int} (h : k ≠ 0) : d + ((e - d) * k).tdiv k = e := by
  rw [Int.mul_tdiv_cancel _ h]
  omega

theorem diameterAt_first {stations post : List Station} {p : Station} {x : Int} (h : stations = p :: post) (hx : x ≤ p.distance) :
    diameterAt stations x = p.diameter := by
  rw [h]
  exact if_pos hx

theorem diameterAt_cons_of_lt {p : Station} {rest : List Station} {x : Int} (h : (p.distance : Int) < x) :
    diameterAt (p :: rest) x = diameterFrom x p rest := if_neg (Int.not_le.mpr h)

/-- Stations before one that the section has passed are passed too. -/
theorem passed_of_rising {pre rest : List Station} {p : Station} {x : Int} (hrising : strictlyRising (pre ++ p :: rest) = true)
    (hp : (p.distance : Int) < x) : ∀ n ∈ pre ++ [p], (n.distance : Int) < x := by
  have hpairs := List.pairwise_append.mp ((strictlyRising_iff _).mp hrising)
  obtain ⟨-, -, hcross⟩ := hpairs
  intro n hn
  rcases List.mem_append.mp hn with hn | hn
  · have hlt := hcross n hn p List.mem_cons_self
    omega
  · rw [List.mem_singleton.mp hn]
    exact hp

/-- Beyond a station the diameter is that of the line from it, or its own beyond the last. -/
theorem diameterAt_passed {pre rest : List Station} {p : Station} {x : Int} (hrising : strictlyRising (pre ++ p :: rest) = true)
    (hp : (p.distance : Int) < x) : diameterAt (pre ++ p :: rest) x = diameterFrom x p rest := by
  have hpassed := passed_of_rising hrising hp
  cases pre with
  | nil => exact diameterAt_cons_of_lt hp
  | cons n pre =>
    rw [List.cons_append, diameterAt_cons_of_lt (hpassed n List.mem_cons_self)]
    exact diameterFrom_append n p pre rest fun k hk => hpassed k (List.mem_cons_of_mem _ hk)

theorem diameterAt_between {pre post : List Station} {p p' : Station} {x : Int}
    (hrising : strictlyRising (pre ++ p :: p' :: post) = true) (hp : (p.distance : Int) < x) (hx : x ≤ p'.distance) :
    diameterAt (pre ++ p :: p' :: post) x =
      p.diameter + (((p'.diameter : Int) - p.diameter) * (x - p.distance)).tdiv ((p'.distance : Int) - p.distance) := by
  rw [diameterAt_passed hrising hp]
  exact if_neg (Int.not_lt.mpr hx)

theorem diameterAt_last {pre : List Station} {p : Station} {x : Int} (hrising : strictlyRising (pre ++ [p]) = true)
    (hx : (p.distance : Int) ≤ x) : diameterAt (pre ++ [p]) x = p.diameter := by
  rcases Int.lt_or_eq_of_le hx with hlt | heq
  · rw [diameterAt_passed hrising hlt]
    rfl
  · rcases List.eq_nil_or_concat pre with rfl | ⟨pre, n, rfl⟩
    · exact if_pos (Int.le_of_eq heq.symm)
    · rw [List.concat_eq_append, List.append_assoc, List.cons_append, List.nil_append] at hrising ⊢
      obtain ⟨-, hpair, -⟩ := List.pairwise_append.mp ((strictlyRising_iff _).mp hrising)
      have hlt : n.distance < p.distance := List.rel_of_pairwise_cons hpair List.mem_cons_self
      rw [diameterAt_between hrising (by omega) (Int.le_of_eq heq.symm), ← heq]
      exact interpolate_end _ _ (by omega)

/-! ### The ten steps (R97 to R101) -/

theorem bandPressure_of {row : SpeciesRow} {n base : Nat}
    (h : [row.band0, row.band1, row.band2, row.band3, row.band4, row.band5][n]? = some base) : row.bandPressure n = base := by
  match n, h with
  | 0, h | 1, h | 2, h | 3, h | 4, h | 5, h => exact Option.some.inj h
  | n + 6, h => exact nomatch h

theorem zoneFactor_eq (row : SpeciesRow) (o : Orientation) (working : Nat) (x : Int) {x' butt top : Int}
    (hx : x' = max 0 (min x ((working : Int) - 1))) (hbutt : butt = if o = .buttFirst then x' else (working : Int) - x' - 1)
    (htop : top = if o = .buttFirst then (working : Int) - x' - 1 else x') : zoneFactor row o working x =
      if butt < row.buttLength then row.buttFactor else if top < row.topLength then row.topFactor else 100 := by
  subst hx hbutt htop
  cases o <;> rfl

theorem clamped_cast (g : Geometry) (row : SpeciesRow) (v : Int) {upper lower : Int}
    (hupper : upper = min (row.maximum : Int) g.machineMax) (hlower : lower = min (row.minimum : Int) upper) :
    (clamped g row v : Int) = max lower (min v upper) := by
  unfold clamped
  dsimp only
  rw [Int.toNat_of_nonneg (by omega)]
  omega

theorem stalled_eq (g : Geometry) (m : Motion) (v : Int) :
    stalled g m v = if m = .standstill then min v g.stallPressure else v := by
  cases m <;> rfl

theorem shared_eq (row : SpeciesRow) (r : RotorId) (v : Int) :
    shared row r v = if r = .r2 then (v * row.rotor2Share).tdiv 100 else v := by
  cases r <;> rfl

theorem frozenStep_eq (row : SpeciesRow) (c : TempClass) (v : Int) :
    frozenStep row c v = if c = .frozen then v + row.frozenAdd else v := by
  cases c <;> rfl

theorem trim_eq (row : SpeciesRow) (c : TempClass) : row.trim c = if c = .frozen then row.trimFrozen else row.trimThawed := by
  cases c <;> rfl

/-- A clamped value lies between the clamp's bounds. -/
theorem clamped_bounds {lower upper v : Int} (h : lower ≤ upper) : lower ≤ max lower (min v upper) ∧ max lower (min v upper) ≤ upper := by
  omega

end Sys2Proof.Machine
end

section
/-! PROOF. What a delivered target makes an arm do (section 5.4), and the statement about targets. -/

namespace Sys2Proof.Machine

/-! ### The arm -/

/-- The act on a target, of an arm that holds it already. -/
theorem arm_actOnTarget {s : State} {a : ArmId} {v : Nat} (h : (s.arm a).target = v) (cls : FlowClass) :
    (s.actOnTarget a v cls).arm a = (s.arm a).workingToward (s.ventHeld a) v cls := by
  subst h
  unfold State.actOnTarget Arm.workingToward
  dsimp only
  by_cases hheld : s.ventHeld a = true
  · rw [if_pos hheld, if_pos (.inl hheld)]
  rw [if_neg hheld]
  by_cases haim : (s.arm a).target = (s.arm a).aim
  · rw [if_pos haim, if_pos (.inr haim)]
  rw [if_neg haim, if_neg (not_or.mpr ⟨hheld, haim⟩)]
  unfold Arm.aim
  cases hflow : (s.arm a).flow with
  | idle =>
    dsimp only
    split
    · exact arm_self_of_set (arms_enterRequest s a _)
    · exact arm_self_of_set (arms_vent s a _)
  | waiting x =>
    dsimp only
    split
    · exact arm_self_of_set (arms_replaceRequest s a x _)
    · exact arm_self_of_set (arms_vent s a _)
  | inFlight x g w =>
    dsimp only
    split
    · exact State.arm_setArm_self ..
    · exact arm_self_of_set (arms_vent s a _)
  | deferred p w =>
    dsimp only
    rw [← hflow]

theorem workingToward_target (c : Arm) (held : Bool) (v : Nat) (cls : FlowClass) :
    ({ c with target := v } : Arm).workingToward held v cls = c.workingToward held v cls := rfl

theorem queue_actOnTarget (s : State) (a : ArmId) (v : Nat) (cls : FlowClass) : (s.actOnTarget a v cls).queue = s.queue := by
  unfold State.actOnTarget
  dsimp only
  split
  · rfl
  split
  · rfl
  split
  · split <;> rfl
  · split
    · unfold State.replaceRequest
      dsimp only
      split <;> rfl
    · rfl
  · split <;> rfl
  · rfl

/-- The state in which a target is acted on: it is the arm's target, and counts among the record's. -/
def State.targeted (s : State) (a : ArmId) (q : Record) (v : Nat) : State :=
  (s.updArm a fun c => { c with target := v }).updView (rotorOf a) q.tag fun w => { w with maxTarget := max w.maxTarget v }

theorem arm_targeted (s : State) (a : ArmId) (q : Record) (v : Nat) : (s.targeted a q v).arm a = { s.arm a with target := v } :=
  arm_self_of_set (s := s) rfl

theorem dropped_iff {deadBand aim v : Nat} {forced : Bool} :
    dropped deadBand aim v forced = true ↔ forced = false ∧ ((v : Int) - aim).natAbs < deadBand := by
  rw [dropped, Bool.and_eq_true, Bool.not_eq_true', decide_eq_true_iff]

/-- A result that an arm does not take. -/
theorem deliver_of_not_taken {s : State} {a : ArmId} {deadBand v : Nat} {forced : Bool}
    (h : (s.arm a).isLifting = true ∨ forced = false ∧ ((v : Int) - (s.arm a).aim).natAbs < deadBand) (q : Record) (cls : FlowClass) :
    s.deliver a q deadBand v forced cls = s :=
  if_pos (by rw [Bool.or_eq_true, dropped_iff]; exact h)

/-- A result that an arm takes. -/
theorem deliver_of_taken {s : State} {a : ArmId} {deadBand v : Nat} {forced : Bool} (hlift : (s.arm a).isLifting = false)
    (h : forced = true ∨ deadBand ≤ ((v : Int) - (s.arm a).aim).natAbs) (q : Record) (cls : FlowClass) :
    s.deliver a q deadBand v forced cls = (s.targeted a q v).actOnTarget a v cls := by
  refine if_neg ?_
  rw [Bool.or_eq_true, dropped_iff, hlift]
  rintro (hlift | ⟨hforced, hnear⟩)
  · exact nomatch hlift
  · rcases h with h | h
    · rw [h] at hforced
      exact nomatch hforced
    · omega

theorem ventHeld_targeted (s : State) (a : ArmId) (q : Record) (v : Nat) : (s.targeted a q v).ventHeld a = s.ventHeld a := rfl

/-- An arm that takes a result works toward it. -/
theorem arm_deliver {s : State} {a : ArmId} {deadBand v : Nat} {forced : Bool} (hlift : (s.arm a).isLifting = false)
    (h : forced = true ∨ deadBand ≤ ((v : Int) - (s.arm a).aim).natAbs) (q : Record) (cls : FlowClass) :
    (s.deliver a q deadBand v forced cls).arm a = (s.arm a).workingToward (s.ventHeld a) v cls := by
  rw [deliver_of_taken hlift h, arm_actOnTarget (by rw [arm_targeted]), arm_targeted, workingToward_target, ventHeld_targeted]

theorem target_workingToward (c : Arm) (held : Bool) (v : Nat) (cls : FlowClass) : (c.workingToward held v cls).target = v := by
  unfold Arm.workingToward
  dsimp only
  split
  · rfl
  split
  · split <;> rfl
  · split <;> rfl
  · split <;> rfl
  · rfl

theorem state_workingToward (c : Arm) (held : Bool) (v : Nat) (cls : FlowClass) : (c.workingToward held v cls).state = c.state := by
  unfold Arm.workingToward
  dsimp only
  split
  · rfl
  split
  · split <;> rfl
  · split <;> rfl
  · split <;> rfl
  · rfl

/-! ### The arbiter -/

theorem actOnTarget_same {s : State} {a : ArmId} {v : Nat} (h : s.ventHeld a = true ∨ v = (s.arm a).aim) (cls : FlowClass) :
    s.actOnTarget a v cls = s := by
  unfold State.actOnTarget
  dsimp only
  by_cases hheld : s.ventHeld a = true
  · rw [if_pos hheld]
  · rw [if_neg hheld, if_pos (h.resolve_left hheld)]

/-- The act on a target that differs from the aim, of an arm that is not held. -/
theorem actOnTarget_free {s : State} {a : ArmId} {v : Nat} (hheld : s.ventHeld a = false) (haim : v ≠ (s.arm a).aim) (cls : FlowClass) :
    s.actOnTarget a v cls = match (s.arm a).flow with
      | .idle => if (s.arm a).commanded < v then s.enterRequest a ⟨.charge, v, cls, false⟩ else s.vent a v
      | .waiting q =>
        if q.value < v ∨ (s.arm a).commanded < v then s.replaceRequest a q { q with value := v, cls := q.cls.higher cls } else s.vent a v
      | .inFlight q granted timeout =>
        if q.value < v then s.setArm a ((s.arm a).retargetCharge q granted timeout v) else s.vent a v
      | .deferred _ _ => s := by
  unfold State.actOnTarget
  dsimp only
  rw [if_neg (by rw [hheld]; nofun), if_neg haim]
  unfold Arm.aim
  cases (s.arm a).flow <;> rfl

theorem actOnTarget_targeted {s : State} {a : ArmId} {v : Nat} {q : Record} {cls : FlowClass} (hheld : s.ventHeld a = false)
    (haim : v ≠ (s.arm a).aim) : (s.targeted a q v).actOnTarget a v cls = match (s.arm a).flow with
      | .idle =>
        if (s.arm a).commanded < v then (s.targeted a q v).enterRequest a ⟨.charge, v, cls, false⟩ else (s.targeted a q v).vent a v
      | .waiting x =>
        if x.value < v ∨ (s.arm a).commanded < v then
          (s.targeted a q v).replaceRequest a x { x with value := v, cls := x.cls.higher cls }
        else (s.targeted a q v).vent a v
      | .inFlight x granted timeout =>
        if x.value < v then (s.targeted a q v).setArm a (({ s.arm a with target := v } : Arm).retargetCharge x granted timeout v)
        else (s.targeted a q v).vent a v
      | .deferred _ _ => s.targeted a q v := by
  rw [actOnTarget_free (by rw [ventHeld_targeted]; exact hheld) (by rw [arm_targeted]; exact haim), arm_targeted]

theorem workingToward_same {c : Arm} {held : Bool} {v : Nat} (h : held = true ∨ v = c.aim) (cls : FlowClass) :
    c.workingToward held v cls = { c with target := v } := if_pos h

theorem workingToward_free {c : Arm} {v : Nat} (h : v ≠ c.aim) {cls : FlowClass} : c.workingToward false v cls = match c.flow with
    | .idle =>
      if c.commanded < v then { c with target := v, flow := .waiting ⟨.charge, v, cls, false⟩ }
      else { c.ventedTo v with target := v }
    | .waiting x =>
      if x.value < v ∨ c.commanded < v then
        { c with target := v, flow := .waiting { x with value := v, cls := if x.cls.rank ≤ cls.rank then x.cls else cls } }
      else { c.ventedTo v with target := v }
    | .inFlight x g w =>
      if x.value < v then
        { c with target := v, flow := .inFlight { x with value := v } g w, commanded := v, valve := .charge v, settled := false }
      else { c.ventedTo v with target := v }
    | .deferred _ _ => { c with target := v } := if_neg (not_or.mpr ⟨nofun, h⟩)

/-- The wait list after a replacement in place: the same entries, judged anew where the class has risen (R140). -/
theorem arbiter_replaceRequest {s : State} {a : ArmId} (x : FlowRequest) (v : Nat) (cls : FlowClass) :
    (s.replaceRequest a x { x with value := v, cls := x.cls.higher cls }).arbiter = { s.arbiter with
      wait := s.arbiter.wait.map fun e => { e with elevated := e.elevated || (decide (e.arm = a)
        && decide (cls.rank < x.cls.rank) && match fairnessLimit s.geometry cls with
          | some limit => decide (limit ≤ s.now - e.entered)
          | none => false) } } := by
  by_cases hrank : x.cls.rank ≤ cls.rank
  · have hsame : x.cls.higher cls = x.cls := if_pos hrank
    have hnot : decide (cls.rank < x.cls.rank) = false := decide_eq_false (Nat.not_lt.mpr hrank)
    unfold State.replaceRequest
    dsimp only
    rw [if_pos hsame]
    simp only [hnot, Bool.and_false, Bool.false_and, Bool.or_false]
    exact congrArg (fun l => { s.arbiter with wait := l }) (List.map_id' s.arbiter.wait).symm
  · have hraised : x.cls.higher cls = cls := if_neg hrank
    have hne : ¬ x.cls.higher cls = x.cls := fun h => hrank (by rw [← hraised, h])
    have hlt : decide (cls.rank < x.cls.rank) = true := decide_eq_true (Nat.lt_of_not_le hrank)
    unfold State.replaceRequest
    dsimp only
    rw [if_neg hne, hraised]
    refine congrArg (fun l => { s.arbiter with wait := l }) (List.map_congr_left fun e _ => ?_)
    rw [hlt, Bool.and_true]
    by_cases harm : e.arm = a
    · rw [decide_eq_true harm, Bool.true_and]
      have hjudged : State.ageReached (s.updArm a fun c => { c with flow := .waiting { x with value := v, cls := cls } }) e =
          match fairnessLimit s.geometry cls with
            | some limit => decide (limit ≤ s.now - e.entered)
            | none => false := by
        have hclass : State.waitingClass (s.updArm a fun c => { c with flow := .waiting { x with value := v, cls := cls } }) e.arm =
            some cls := by
          unfold State.waitingClass State.updArm
          rw [harm, State.arm_setArm_self]
        unfold State.ageReached
        rw [hclass]
        rfl
      rw [hjudged]
      cases (match fairnessLimit s.geometry cls with
        | some limit => decide (limit ≤ s.now - e.entered)
        | none => false) with
      | true => rw [if_pos ⟨harm, rfl⟩, Bool.or_true]
      | false => rw [if_neg (fun h => nomatch h.2), Bool.or_false]
    · rw [if_neg (fun h => harm h.1), decide_eq_false harm, Bool.false_and, Bool.or_false]

/-- The computed targets. -/
theorem targets_eq (s : State) (a : ArmId) (row : SpeciesRow) (c : TempClass) (q : Record)
    (x d x' butt top upper lower v3 v4 v5 v6 v7 v8 v9 : Int) (base factor : Nat)
    (hx : x = posDiff s.feed.position q.head - s.geometry.toolPlane (rotorOf a)) (hd : d = diameterAt q.stations x)
    (hbase : [row.band0, row.band1, row.band2, row.band3, row.band4, row.band5][
      ([s.geometry.band1, s.geometry.band2, s.geometry.band3, s.geometry.band4, s.geometry.band5].filter
        fun (b : Nat) => decide ((b : Int) ≤ d)).length]? = some base)
    (hx' : x' = max 0 (min x ((q.working : Int) - 1)))
    (hbutt : butt = (if q.orientation = .buttFirst then x' else (q.working : Int) - x' - 1))
    (htop : top = (if q.orientation = .buttFirst then (q.working : Int) - x' - 1 else x'))
    (hfactor : factor = (if butt < row.buttLength then row.buttFactor else if top < row.topLength then row.topFactor else 100))
    (h3 : v3 = ((base : Int) * factor).tdiv 100) (h4 : v4 = (if c = .frozen then v3 + row.frozenAdd else v3))
    (h5 : v5 = v4 + (if c = .frozen then row.trimFrozen else row.trimThawed) * row.trimStep)
    (h6 : v6 = (if rotorOf a = .r2 then (v5 * row.rotor2Share).tdiv 100 else v5))
    (h7 : v7 = (v6 * 5).tdiv (max (s.activeCount (rotorOf a)) 3 : Nat))
    (h8 : v8 = (if (s.arm a).relief then v7 - row.reliefStep else v7))
    (h9 : v9 = (if s.feed.motion = .standstill then min v8 s.geometry.stallPressure else v8))
    (hupper : upper = min (row.maximum : Int) s.geometry.machineMax) (hlower : lower = min (row.minimum : Int) upper) :
    (s.bodyTarget a row c q : Int) = max lower (min v9 upper)
      ∧ (s.entryTarget row : Int) =
        max lower (min (if s.feed.motion = .standstill then min (row.entry : Int) s.geometry.stallPressure else row.entry) upper) := by
  have hpressure : basePressure s.geometry row q (s.sectionDistance (rotorOf a) q) = v3 := by
    unfold basePressure percent State.sectionDistance bandOf
    rw [← hx, ← hd, bandPressure_of hbase, zoneFactor_eq row q.orientation q.working x hx' hbutt htop, ← hfactor, h3]
  constructor
  · unfold State.bodyTarget
    dsimp only
    rw [clamped_cast _ _ _ hupper hlower, stalled_eq, hpressure, shared_eq, trimmed, frozenStep_eq, trim_eq, ← h4, ← h5, ← h6, scaled,
      ← h7, ← h8, ← h9]
  · unfold State.entryTarget
    rw [clamped_cast _ _ _ hupper hlower, stalled_eq]

/-- Settles O30: the interpolation, the ten steps, and the table of R104 (`arm_deliver`). -/
theorem targetsFollowTheTenStepsAndActOnTheArm : Obligations.TargetsFollowTheTenStepsAndActOnTheArm := by
  refine ⟨fun stations pre post p p' x => ⟨diameterAt_first, fun h hrising hx => ?_, fun h hrising hp hx => ?_⟩,
    fun s a row c q x d x' butt top upper lower v3 v4 v5 v6 v7 v8 v9 base factor hx hd hbase hx' hbutt htop hfactor h3 h4 h5 h6 h7 h8 h9
      hupper hlower => ?_,
    fun s t a q deadBand v forced cls ht => ⟨fun h => ht.trans (deliver_of_not_taken h q cls), fun hlift htaken => ?_⟩⟩
  · rw [h] at hrising ⊢
    exact diameterAt_last hrising hx
  · rw [h] at hrising ⊢
    exact diameterAt_between hrising hp hx
  · obtain ⟨hbody, hentry⟩ := targets_eq s a row c q x d x' butt top upper lower v3 v4 v5 v6 v7 v8 v9 base factor hx hd hbase hx' hbutt htop
      hfactor h3 h4 h5 h6 h7 h8 h9 hupper hlower
    have hle : lower ≤ upper := hlower ▸ Int.min_le_right ..
    rw [hbody, hentry]
    exact ⟨rfl, rfl, (clamped_bounds hle).1, (clamped_bounds hle).2, (clamped_bounds hle).1, (clamped_bounds hle).2, rfl⟩
  · have hdeliver := ht.trans (deliver_of_taken hlift htaken q cls)
    have harm : t.arm a = (s.arm a).workingToward (s.ventHeld a) v cls := by rw [ht]; exact arm_deliver hlift htaken q cls
    have hflow : FlowOnly s t := ht ▸ FlowOnly.deliver s a q deadBand v forced cls
    refine ⟨by rw [harm]; exact target_workingToward .., by rw [harm]; exact state_workingToward .., fun b hb => ?_, hflow.1, hflow.2, ?_,
      fun hsame => ?_, fun hheld haim => ⟨fun hidle hup => ?_, fun x hx hup => ?_, fun x g w hx hup => ?_, fun hdown => ?_⟩⟩
    · rw [ht]; exact (OneArm.deliver s a q deadBand v forced cls).others b hb
    · rw [hdeliver, queue_actOnTarget]
      exact List.map_congr_left fun x _ => if_congr beq_iff_eq rfl rfl
    · rw [harm, workingToward_same hsame, hdeliver, actOnTarget_same (by rw [ventHeld_targeted, arm_targeted]; exact hsame)]
      exact ⟨rfl, rfl⟩
    · rw [harm, hheld, workingToward_free haim, hdeliver, actOnTarget_targeted hheld haim, hidle]
      dsimp only
      rw [if_pos hup, if_pos hup]
      exact ⟨rfl, rfl⟩
    · rw [harm, hheld, workingToward_free haim, hdeliver, actOnTarget_targeted hheld haim, hx]
      dsimp only
      rw [if_pos hup, if_pos hup, arbiter_replaceRequest, List.map_map, List.map_map]
      exact ⟨rfl, rfl, rfl, rfl⟩
    · rw [harm, hheld, workingToward_free haim, hdeliver, actOnTarget_targeted hheld haim, hx]
      dsimp only
      rw [if_pos hup, if_pos hup]
      exact ⟨rfl, rfl⟩
    · have hvent : t = (s.targeted a q v).vent a v ∧ (s.arm a).workingToward false v cls = { s.arm a with
          target := v
          flow := .idle
          commanded := min (s.arm a).commanded v
          valve := .vent (min (s.arm a).commanded v)
          vents := min ((s.arm a).vents + 1) 255 } := by
        rw [hdeliver, actOnTarget_targeted hheld haim, workingToward_free haim]
        rcases hdown with ⟨hidle, hlt⟩ | ⟨x, hx, hlt, hle⟩ | ⟨x, g, w, hx, hlt⟩
        · rw [hidle]
          exact ⟨if_neg (by omega), if_neg (by omega)⟩
        · rw [hx]
          exact ⟨if_neg (by omega), if_neg (by omega)⟩
        · rw [hx]
          exact ⟨if_neg (by omega), if_neg (by omega)⟩
      obtain ⟨hvented, harmed⟩ := hvent
      rw [harm, hheld, harmed, hvented]
      exact ⟨rfl, rfl, rfl⟩

end Sys2Proof.Machine
end

section
/-! PROOF. Recomputes (R105): a target does not depend on what requests, moves and other arms' recomputes change, so that the arms may be
recomputed in any order. -/

namespace Sys2Proof.Machine

/-! ### What a target depends on -/

/-- A record without what no target depends on: of its fields for a rotor the phase alone is left. -/
def Record.bare (q : Record) : Record :=
  { q with
    view1 := { RotorView.initial with phase := q.view1.phase }
    view2 := { RotorView.initial with phase := q.view2.phase }
    stall := false
    rotorDown := false }

theorem bare_withoutTargets (q : Record) : q.withoutTargets.bare = q.bare := rfl

/-- From `u` to `v` nothing changes that the target of any arm depends on, but for the arms' own relief. -/
structure TargetsKept (u v : State) : Prop where
  now : v.now = u.now
  geometry : v.geometry = u.geometry
  feed : v.feed = u.feed
  count : ∀ r, v.activeCount r = u.activeCount r
  held : ∀ a, v.ventHeld a = u.ventHeld a
  queue : v.queue.map Record.bare = u.queue.map Record.bare

theorem TargetsKept.refl (u : State) : TargetsKept u u := ⟨rfl, rfl, rfl, fun _ => rfl, fun _ => rfl, rfl⟩

theorem TargetsKept.trans {u v w : State} (h : TargetsKept u v) (k : TargetsKept v w) : TargetsKept u w where
  now := k.now.trans h.now
  geometry := k.geometry.trans h.geometry
  feed := k.feed.trans h.feed
  count r := (k.count r).trans (h.count r)
  held a := (k.held a).trans (h.held a)
  queue := k.queue.trans h.queue

theorem queue_bare_of_flowOnly {u v : State} (h : FlowOnly u v) : v.queue.map Record.bare = u.queue.map Record.bare := by
  have hqueue : v.queue.map Record.withoutTargets = u.queue.map Record.withoutTargets := congrArg State.queue h.1
  have hbare : ∀ l : List Record, l.map Record.bare = (l.map Record.withoutTargets).map Record.bare := fun l => by
    rw [List.map_map]
    exact List.map_congr_left fun q _ => (bare_withoutTargets q).symm
  rw [hbare v.queue, hbare u.queue, hqueue]

theorem TargetsKept.of_flow {u v : State} (h : FlowOnly u v) (k : StandingKept u v) : TargetsKept u v where
  now := h.now
  geometry := h.geometry
  feed := h.feed
  count := k.activeCount
  held := h.ventHeld
  queue := queue_bare_of_flowOnly h

theorem TargetsKept.recompute (u : State) (forced : Bool) (k : RecomputeClass) (a : ArmId) : TargetsKept u (u.recompute forced k a) :=
  .of_flow (.recompute u forced k a) (.recompute u forced k a)

/-- The records of a tag agree. -/
theorem record?_bare {u v : State} (h : v.queue.map Record.bare = u.queue.map Record.bare) (t : Tag) :
    (v.record? t).map Record.bare = (u.record? t).map Record.bare := by
  have hfind : ∀ l : List Record, (l.find? fun q => q.tag == t).map Record.bare = (l.map Record.bare).find? fun q => q.tag == t :=
    fun l => by rw [List.find?_map]; rfl
  unfold State.record?
  rw [hfind, hfind, h]

theorem phase_bare (q : Record) (r : RotorId) : q.bare.phase r = q.phase r := by cases r <;> rfl

theorem targetFor_bare (s : State) (a : ArmId) (q : Record) : s.targetFor a q.bare = s.targetFor a q := by
  unfold State.targetFor
  rw [phase_bare]
  rfl

/-- The target of an arm is the same where nothing it depends on has changed. -/
theorem targetFor_congr {u v : State} (h : TargetsKept u v) {a : ArmId} (harm : v.arm a = u.arm a) {p q : Record}
    (hpq : p.bare = q.bare) : v.targetFor a p = u.targetFor a q := by
  rw [← targetFor_bare v, ← targetFor_bare u, hpq]
  generalize q.bare = q
  have hbody : ∀ row c, v.bodyTarget a row c q = u.bodyTarget a row c q := fun row c => by
    unfold State.bodyTarget State.sectionDistance
    dsimp only
    rw [h.geometry, h.feed, h.count, harm]
  have hentry : ∀ row, v.entryTarget row = u.entryTarget row := fun row => by
    unfold State.entryTarget
    rw [h.geometry, h.feed]
  unfold State.targetFor
  simp only [hbody, hentry]

/-! ### One arm's recompute -/

theorem recompute_of_not_engaged {s : State} {a : ArmId} (h : (s.arm a).state ≠ .engaged) (forced : Bool) (k : RecomputeClass) :
    s.recompute forced k a = s := if_neg h

theorem recompute_of_no_record {s : State} {a : ArmId} (h : (s.arm a).tag.bind s.record? = none) (forced : Bool) (k : RecomputeClass) :
    s.recompute forced k a = s := by
  unfold State.recompute
  rw [h]
  exact ite_self s

theorem targetFor_row {s : State} {a : ArmId} {q : Record} {v : Nat} (h : s.targetFor a q = some v) : ∃ row, q.row = some row := by
  unfold State.targetFor at h
  split at h
  · exact ⟨_, by assumption⟩
  · exact ⟨_, by assumption⟩
  · exact nomatch h

theorem recompute_of_no_target {s : State} {a : ArmId} {q : Record} (hq : (s.arm a).tag.bind s.record? = some q)
    (h : s.targetFor a q = none) (forced : Bool) (k : RecomputeClass) : s.recompute forced k a = s := by
  unfold State.recompute
  rw [hq]
  dsimp only
  rw [h]
  split
  · cases q.row <;> rfl
  · rfl

theorem recompute_of_target {s : State} {a : ArmId} {q : Record} {row : SpeciesRow} {v : Nat} (hstate : (s.arm a).state = .engaged)
    (hq : (s.arm a).tag.bind s.record? = some q) (hrow : q.row = some row) (hv : s.targetFor a q = some v) (forced : Bool)
    (k : RecomputeClass) : s.recompute forced k a = s.deliver a q row.deadBand v forced (k.get (q.phase (rotorOf a))) := by
  unfold State.recompute
  rw [if_pos hstate, hq]
  dsimp only
  rw [hrow, hv]

/-- The arm that a recompute leaves does not depend on what requests, moves and other arms' recomputes change. -/
theorem arm_recompute_congr {u v : State} (h : TargetsKept u v) {a : ArmId} (harm : v.arm a = u.arm a) (forced : Bool)
    (k : RecomputeClass) : (v.recompute forced k a).arm a = (u.recompute forced k a).arm a := by
  by_cases hstate : (u.arm a).state = .engaged
  swap
  · rw [recompute_of_not_engaged hstate, recompute_of_not_engaged (by rwa [harm]), harm]
  have hrecords : ((v.arm a).tag.bind v.record?).map Record.bare = ((u.arm a).tag.bind u.record?).map Record.bare := by
    rw [harm]
    cases (u.arm a).tag with
    | none => rfl
    | some t => exact record?_bare h.queue t
  cases hq : (u.arm a).tag.bind u.record? with
  | none =>
    rw [hq] at hrecords
    rw [recompute_of_no_record hq, recompute_of_no_record (Option.map_eq_none_iff.mp hrecords), harm]
  | some q =>
    rw [hq] at hrecords
    obtain ⟨p, hp, hpq⟩ := Option.map_eq_some_iff.mp hrecords
    have htarget := targetFor_congr h harm hpq
    cases hv : u.targetFor a q with
    | none => rw [recompute_of_no_target hq hv, recompute_of_no_target hp (htarget.trans hv), harm]
    | some x =>
      obtain ⟨row, hrow⟩ := targetFor_row hv
      have hprow : p.row = some row := (congrArg Record.row hpq).trans hrow
      have hphase : p.phase (rotorOf a) = q.phase (rotorOf a) := by rw [← phase_bare p, hpq, phase_bare]
      rw [recompute_of_target hstate hq hrow hv, recompute_of_target (by rwa [harm]) hp hprow (htarget.trans hv), hphase]
      by_cases htaken : (u.arm a).isLifting = true ∨ forced = false ∧ ((x : Int) - (u.arm a).aim).natAbs < row.deadBand
      · rw [deliver_of_not_taken htaken, deliver_of_not_taken (by rwa [harm]), harm]
      · obtain ⟨hlift, hnear⟩ := not_or.mp htaken
        have hact : forced = true ∨ row.deadBand ≤ ((x : Int) - (u.arm a).aim).natAbs := by
          by_cases hforced : forced = true
          · exact .inl hforced
          · exact .inr (Nat.le_of_not_lt fun hlt => hnear ⟨Bool.eq_false_iff.mpr hforced, hlt⟩)
        rw [arm_deliver (Bool.eq_false_iff.mpr hlift) hact, arm_deliver (by rw [harm]; exact Bool.eq_false_iff.mpr hlift)
          (by rw [harm]; exact hact), harm, h.held]

/-! ### Several arms -/

theorem arm_recomputeAll {u v : State} (h : TargetsKept u v) (forced : Bool) (k : RecomputeClass) :
    ∀ {as : List ArmId}, as.Nodup → (∀ a ∈ as, v.arm a = u.arm a) →
      (∀ a, a ∉ as → (v.recomputeAll as forced k).arm a = v.arm a)
        ∧ ∀ a ∈ as, (v.recomputeAll as forced k).arm a = (u.recompute forced k a).arm a := by
  intro as
  induction as generalizing v with
  | nil => exact fun _ _ => ⟨fun _ _ => rfl, nofun⟩
  | cons b as ih =>
    intro hnodup harms
    obtain ⟨hb, hnodup⟩ := List.nodup_cons.mp hnodup
    have hothers := (OneArm.recompute v forced k b).others
    obtain ⟨hkept, hdone⟩ := ih (h.trans (.recompute v forced k b)) hnodup fun a ha =>
      (hothers a (fun hab => hb (hab ▸ ha))).trans (harms a (List.mem_cons_of_mem b ha))
    refine ⟨fun a ha => ?_, fun a ha => ?_⟩
    · rw [List.mem_cons, not_or] at ha
      exact (hkept a ha.2).trans (hothers a ha.1)
    · rcases List.mem_cons.mp ha with rfl | ha
      · exact (hkept a hb).trans (arm_recompute_congr h (harms a List.mem_cons_self) forced k)
      · exact hdone a ha

/-! ### The form of the statements -/

theorem get_byPhase : RecomputeClass.byPhase.get = phaseClass := rfl

theorem GrantedFrom.of_eq {u t : State} {a : ArmId} {c : Arm} (h : t.arm a = c) : GrantedFrom u t a c := .inl h

theorem GrantedFrom.congr_arm {u t t' : State} {a : ArmId} {c : Arm} (h : GrantedFrom u t a c) (k : t'.arm a = t.arm a) :
    GrantedFrom u t' a c := by
  unfold GrantedFrom
  rw [k]
  exact h

theorem state_granted (c : Arm) (q : FlowRequest) (now timeout : Nat) : (c.granted q now timeout).state = c.state := by
  unfold Arm.granted
  cases q.kind <;> rfl

theorem GrantedFrom.state {u t : State} {a : ArmId} {c : Arm} (h : GrantedFrom u t a c) : (t.arm a).state = c.state := by
  rcases h with h | ⟨q, -, h⟩
  · rw [h]
  · rw [h, state_granted]

/-- Arms that have been recomputed, each from `u`, and granted. -/
theorem retargeted_of {u t : State} {on : ArmId → Prop} {forced : Bool} {k : RecomputeClass}
    (hon : ∀ a, on a → GrantedFrom u t a ((u.recompute forced k a).arm a)) (hoff : ∀ a, ¬ on a → GrantedOnly u t a) :
    Retargeted u t on forced k.get := by
  refine ⟨fun a ha => ?_, fun a ha hstate => ⟨?_, fun hnone => ?_, fun q row v hq hrow hv => ⟨fun hnot => ?_, fun hlift htaken => ?_⟩⟩⟩
  · by_cases hona : on a
    · have h := hon a hona
      rwa [recompute_of_not_engaged fun hstate => ha ⟨hona, hstate⟩] at h
    · exact hoff a hona
  · rw [(hon a ha).state, (StandingKept.recompute u forced k a).state, hstate]
  · have h := hon a ha
    cases hq : (u.arm a).tag.bind u.record? with
    | none => rwa [recompute_of_no_record hq] at h
    | some q =>
      rwa [recompute_of_no_target hq (Option.eq_none_iff_forall_ne_some.mpr fun v => hnone q v hq)] at h
  · have h := hon a ha
    rwa [recompute_of_target hstate hq hrow hv, deliver_of_not_taken hnot] at h
  · have h := hon a ha
    rwa [recompute_of_target hstate hq hrow hv, arm_deliver hlift htaken] at h

/-- Arms recomputed one after another, then granted. -/
theorem retargeted_recomputeAll {u v t : State} (h : TargetsKept u v) {as : List ArmId} (hnodup : as.Nodup) {forced : Bool}
    {k : RecomputeClass} (harms : ∀ a, v.arm a = u.arm a) (ht : ∀ a, GrantedOnly (v.recomputeAll as forced k) t a) :
    Retargeted u t (· ∈ as) forced k.get := by
  obtain ⟨hkept, hdone⟩ := arm_recomputeAll h forced k hnodup fun a _ => harms a
  have hflow : FlowOnly v (v.recomputeAll as forced k) := .recomputeAll ..
  have hnow := hflow.now.trans h.now
  have hgeometry := hflow.geometry.trans h.geometry
  refine retargeted_of (fun a ha => ?_) fun a ha => ?_
  · exact (GrantedFrom.of_eq (hdone a ha)).then_only hnow hgeometry (ht a)
  · exact (GrantedOnly.of_arm ((hkept a ha).trans (harms a))).trans hnow hgeometry (ht a)

theorem Retargeted.congr_on {u t : State} {on on' : ArmId → Prop} {forced : Bool} {cls : Phase → FlowClass}
    (h : Retargeted u t on forced cls) (k : ∀ a, on' a ↔ on a) : Retargeted u t on' forced cls := by
  have : on' = on := funext fun a => propext (k a)
  rwa [this]

end Sys2Proof.Machine
end

section
/-! PROOF. Relief (R156, R157): the pulse that reaches the threshold and the decay that leaves it. -/

namespace Sys2Proof.Machine

/-! ### Publication and the flow -/

theorem withoutFlow_publish (old new : State) : (publish old new).withoutFlow = new.withoutFlow := by
  obtain ⟨m, h, -⟩ := publish_ram old new
  rw [h]
  rfl

theorem arm_publish (old new : State) (a : ArmId) : (publish old new).arm a = new.arm a := by
  obtain ⟨m, h, -⟩ := publish_ram old new
  rw [h]
  rfl

theorem FlowOnly.withoutFlow_publish {u v : State} (h : FlowOnly u v) (old : State) : (publish old v).withoutFlow = u.withoutFlow :=
  (Machine.withoutFlow_publish old v).trans h.1

/-- Frames are kept where the flow alone has changed. -/
theorem FlowOnly.framesKept {u v : State} (h : FlowOnly u v) (old : State) {s : State} (hs : u.ram = s.ram) :
    TicketFramesKept s (publish old v) := fun b hb => by rw [publish_ticketFramesKept old v b hb, h.2, hs]

/-- A recompute of one arm with the grants after it, published. -/
theorem retargeted_publish_recompute (u old : State) (forced : Bool) (k : RecomputeClass) (a : ArmId) :
    Retargeted u (publish old (u.recompute forced k a).arbitrate) (fun b => b = a) forced k.get := by
  have hgrants : ∀ b, GrantedOnly (u.recompute forced k a) (publish old (u.recompute forced k a).arbitrate) b := fun b =>
    (grantedOnly_arbitrate _ b).congr_arm (arm_publish ..)
  have h := retargeted_recomputeAll (t := publish old (u.recompute forced k a).arbitrate) (.refl u) (List.nodup_singleton a)
    (fun _ => rfl) hgrants
  exact h.congr_on fun b => List.mem_singleton.symm

/-- The relief entries do not depend on the targets. -/
theorem reliefEntries_congr {u t : State} (h : t.withoutFlow = u.withoutFlow) (r : RotorId) :
    (t.queue.map fun q => (q.tag, (q.view r).reliefEntries)) = u.queue.map fun q => (q.tag, (q.view r).reliefEntries) := by
  have hqueue : t.queue.map Record.withoutTargets = u.queue.map Record.withoutTargets := congrArg State.queue h
  have hthrough : ∀ l : List Record, (l.map fun q => (q.tag, (q.view r).reliefEntries)) =
      (l.map Record.withoutTargets).map fun q => (q.tag, (q.view r).reliefEntries) := fun l => by
    rw [List.map_map]
    exact List.map_congr_left fun q _ => by cases r <;> rfl
  rw [hthrough t.queue, hthrough u.queue, hqueue]

theorem view_updView_self (q : Record) (r : RotorId) (f : RotorView → RotorView) : (q.updView r f).view r = f (q.view r) := by
  cases r <;> rfl

theorem tag_updView (q : Record) (r : RotorId) (f : RotorView → RotorView) : (q.updView r f).tag = q.tag := by
  cases r <;> rfl

/-! ### The threshold -/

/-- The state in which an arm in relief is recomputed: the pulse counted, relief set, and the entry raised (R156). -/
theorem setRelief_eq {s : State} {a : ArmId} {p : MonitorParams} {tag : Tag} (hbelow : (s.arm a).monitor.counter < p.maxDepth)
    (hreach : (s.arm a).monitor.counter + 1 = p.threshold) (htag : (s.arm a).monitor.tag = some tag) {u : State}
    (hu : u = { s.setArm a { s.arm a with
        relief := true
        monitor := { (s.arm a).monitor with
          counter := p.threshold
          burst := some (s.now + p.burstWindow)
          decay := if (s.arm a).monitor.counter = 0 then some (s.now + p.decayInterval) else (s.arm a).monitor.decay } } with
      queue := s.queue.map fun q => if q.tag = tag then
        q.updView (rotorOf a) fun w => { w with reliefEntries := min (w.reliefEntries + 1) 255 } else q }) :
    s.countPulse a p = (u.recompute true (.fixed .normal) a).arbitrate := by
  have hmonitor : (s.arm a).monitor.count p s.now = { (s.arm a).monitor with
      counter := p.threshold
      burst := some (s.now + p.burstWindow)
      decay := if (s.arm a).monitor.counter = 0 then some (s.now + p.decayInterval) else (s.arm a).monitor.decay } := by
    have hstarts : ((s.arm a).monitor.counter = 0 ∧ 0 < p.maxDepth) ↔ (s.arm a).monitor.counter = 0 :=
      ⟨And.left, fun h => ⟨h, by omega⟩⟩
    rw [Monitor.count_eq, if_pos hbelow, hreach, if_congr hstarts rfl rfl]
  have hset : State.setRelief (s.setArm a { s.arm a with monitor := (s.arm a).monitor.count p s.now }) a =
      (u.recompute true (.fixed .normal) a).arbitrate := by
    refine congrArg (fun v : State => (v.recompute true (.fixed .normal) a).arbitrate) ?_
    rw [hmonitor]
    unfold State.updArm
    rw [State.arm_setArm_self, State.arm_setArm_self]
    dsimp only
    rw [htag, hu]
    dsimp only
    unfold State.updView State.updRecord State.mapQueue State.setArm
    simp only [Arms.set_set, beq_iff_eq, ← htag]
    rfl
  unfold State.countPulse
  exact (if_pos ⟨hbelow, hreach⟩).trans hset

/-- The state in which an arm is recomputed once relief is cleared (R157). -/
theorem clearRelief_eq {s : State} {a : ArmId} {p : MonitorParams} {now : Nat} (hat : (s.arm a).monitor.counter = p.threshold) {u : State}
    (hu : u = s.setArm a { s.arm a with
      relief := false
      monitor := { (s.arm a).monitor with
        counter := p.threshold - 1
        decay := if 1 < p.threshold then some (now + p.decayInterval) else none } }) :
    (s.setArm a { s.arm a with monitor := (s.arm a).monitor.decayed p now }).clearRelief a =
      (u.recompute true (.fixed .low) a).arbitrate := by
  refine congrArg (fun v : State => (v.recompute true (.fixed .low) a).arbitrate) ?_
  unfold State.updArm Monitor.decayed
  rw [State.arm_setArm_self, hat, hu]
  unfold State.setArm
  rw [Arms.set_set]

theorem relief_recompute {u v : State} (h : StandingKept u v) (a : ArmId) : (v.arm a).relief = (u.arm a).relief := by
  have k := congrArg Arm.relief (h.arm a)
  exact k

/-- Settles O38: both recomputes, in the form of `Retargeted`. -/
theorem reliefFollowsTheThreshold : Obligations.ReliefFollowsTheThreshold := by
  intro s a p hrun hp
  refine ⟨fun tag hstate hcounting hburst hbelow hreach htag => ?_, fun w hw hat => ?_⟩
  · refine answers_of_act (f := fun s => s.impactPulse a) rfl hrun ?_
    obtain ⟨u, hu⟩ : ∃ u : State, u = { s.setArm a { s.arm a with
        relief := true
        monitor := { (s.arm a).monitor with
          counter := p.threshold
          burst := some (s.now + p.burstWindow)
          decay := if (s.arm a).monitor.counter = 0 then some (s.now + p.decayInterval) else (s.arm a).monitor.decay } } with
      queue := s.queue.map fun q => if q.tag = tag then
        q.updView (rotorOf a) fun w => { w with reliefEntries := min (w.reliefEntries + 1) 255 } else q } := ⟨_, rfl⟩
    have hpulse : s.impactPulse a = (u.recompute true (.fixed .normal) a).arbitrate :=
      (impactPulse_of_counts hstate hcounting hburst hp).trans (setRelief_eq hbelow hreach htag hu)
    have hflow : FlowOnly u (u.recompute true (.fixed .normal) a).arbitrate := (FlowOnly.recompute ..).trans (.arbitrate _)
    have hstanding : StandingKept u (u.recompute true (.fixed .normal) a).arbitrate := (StandingKept.recompute ..).trans (.arbitrate _)
    have hua : u.arm a = _ := (congrArg (fun u : State => u.arm a) hu).trans (arm_self_of_set (s := s) rfl)
    rw [hpulse]
    refine ⟨?_, ?_, ?_, ?_, ?_, hflow.framesKept s (by rw [hu]; rfl), fun u' hu' => ?_⟩
    · rw [arm_publish, relief_recompute hstanding, hua]
    · rw [arm_publish, hstanding.state, hua]; exact hstate
    · rw [arm_publish, hstanding.monitor, hua]
    · rw [arm_publish, hstanding.monitor, hua]
    · rw [reliefEntries_congr (hflow.withoutFlow_publish s), hu]
      dsimp only
      rw [List.map_map]
      refine List.map_congr_left fun q _ => ?_
      dsimp only [Function.comp]
      by_cases htagged : q.tag = tag
      · rw [if_pos htagged, if_pos htagged, tag_updView, view_updView_self]
      · rw [if_neg htagged, if_neg htagged]
    · rw [← hu.trans hu'.symm]
      exact ⟨hflow.withoutFlow_publish s, retargeted_publish_recompute u s true (.fixed .normal) a⟩
  · refine answers_of_act (f := fun s => s.decayExpired a) rfl hrun ?_
    obtain ⟨u, hu⟩ : ∃ u : State, u = State.setArm { s with now := max s.now w } a { s.arm a with
        relief := false
        monitor := { (s.arm a).monitor with
          counter := p.threshold - 1
          decay := if 1 < p.threshold then some (max s.now w + p.decayInterval) else none } } := ⟨_, rfl⟩
    have hdecay : s.decayExpired a = (u.recompute true (.fixed .low) a).arbitrate := by
      rw [decayExpired_some hw hp, if_pos hat]
      exact clearRelief_eq (s := { s with now := max s.now w }) hat hu
    have hflow : FlowOnly u (u.recompute true (.fixed .low) a).arbitrate := (FlowOnly.recompute ..).trans (.arbitrate _)
    have hstanding : StandingKept u (u.recompute true (.fixed .low) a).arbitrate := (StandingKept.recompute ..).trans (.arbitrate _)
    have hua : u.arm a = _ := (congrArg (fun u : State => u.arm a) hu).trans (arm_self_of_set (s := s) rfl)
    have hwithout := hflow.withoutFlow_publish s
    have hnow := congrArg State.now hwithout
    rw [hdecay]
    refine ⟨?_, ?_, ?_, ?_, hflow.framesKept s (by rw [hu]; rfl), fun u' hu' => ?_⟩
    · rw [arm_publish, relief_recompute hstanding, hua]
    · rw [arm_publish, hstanding.monitor, hua]
    · exact hnow.trans (congrArg State.now hu)
    · rw [reliefEntries_congr hwithout, hu]
      rfl
    · rw [← hu.trans hu'.symm]
      exact ⟨hwithout, retargeted_publish_recompute u s true (.fixed .low) a⟩

end Sys2Proof.Machine
end

section
/-! PROOF. A change of the active arm count, with all that follows it (R132, R169). -/

namespace Sys2Proof.Machine

/-! ### The count -/

theorem activeCount_le (s : State) (r : RotorId) : s.activeCount r ≤ 5 :=
  (List.length_filter_le _ _).trans (by cases r <;> decide)

theorem usability_iff {n : Nat} (h : n ≤ 5) : (usabilityOf n = .full ↔ n = 5) ∧ (usabilityOf n = .degraded ↔ n = 3 ∨ n = 4)
    ∧ (usabilityOf n = .unusable ↔ n ≤ 2) := by
  match n, h with
  | 0, _ | 1, _ | 2, _ | 3, _ | 4, _ | 5, _ => decide

theorem beq_unusable {n : Nat} (h : n ≤ 5) : (usabilityOf n == .unusable) = decide (n ≤ 2) :=
  Bool.eq_iff_iff.mpr (by rw [beq_iff_eq, decide_eq_true_iff]; exact (usability_iff h).2.2)

/-- One element that leaves a filter lowers its length by one. -/
theorem length_filter_of_left {α : Type} {p q : α → Bool} {a : α} : ∀ {l : List α}, l.Nodup → a ∈ l → p a = true → q a = false →
    (∀ b ∈ l, b ≠ a → q b = p b) → (l.filter q).length + 1 = (l.filter p).length
  | [], _, ha, _, _, _ => nomatch ha
  | b :: l, hnodup, ha, hp, hq, hothers => by
    obtain ⟨hb, hnodup⟩ := List.nodup_cons.mp hnodup
    by_cases hba : b = a
    · subst hba
      have hrest : l.filter q = l.filter p :=
        List.filter_congr fun c hc => hothers c (List.mem_cons_of_mem _ hc) fun h => hb (h ▸ hc)
      rw [List.filter_cons_of_neg (by rw [hq]; nofun), List.filter_cons_of_pos hp, List.length_cons, hrest]
    · have ih := length_filter_of_left hnodup ((List.mem_cons.mp ha).resolve_left (Ne.symm hba)) hp hq
        fun c hc => hothers c (List.mem_cons_of_mem _ hc)
      have hsame := hothers b List.mem_cons_self hba
      by_cases hpb : p b = true
      · rw [List.filter_cons_of_pos hpb, List.filter_cons_of_pos (hsame.trans hpb), List.length_cons, List.length_cons, ih]
      · rw [List.filter_cons_of_neg hpb, List.filter_cons_of_neg (by rwa [hsame]), ih]

/-- An arm that leaves service lowers its rotor's count by one. -/
theorem activeCount_left {s t : State} {a : ArmId} (hs : (s.arm a).state ≠ .out) (ht : (t.arm a).state = .out)
    (hothers : ∀ b, b ≠ a → (t.arm b).state = (s.arm b).state) :
    t.activeCount (rotorOf a) + 1 = s.activeCount (rotorOf a) :=
  length_filter_of_left (nodup_armsOf _) ((mem_armsOf ..).mpr rfl) (bne_iff_ne.mpr hs) (by rw [ht]; rfl)
    fun b _ hb => by rw [hothers b hb]

theorem activeCount_of_states {s t : State} (h : ∀ a, (t.arm a).state = (s.arm a).state) (r : RotorId) :
    t.activeCount r = s.activeCount r := activeCount_congr fun a _ => by rw [h a]

/-! ### The records and usability -/

theorem lowerMinActive_eq (q : Record) (r : RotorId) (n : Nat) : q.updView r (RotorView.lowerMinActive n) = q.countedAt r n := by
  unfold Record.countedAt RotorView.lowerMinActive Record.phase
  cases r with
  | r1 => cases hphase : q.view1.phase <;> simp [Record.updView, Record.view, Record.setView, hphase, keepsStatistics]
  | r2 => cases hphase : q.view2.phase <;> simp [Record.updView, Record.view, Record.setView, hphase, keepsStatistics]

theorem countedAt_withoutTargets (q : Record) (r : RotorId) (n : Nat) :
    (q.countedAt r n).withoutTargets = (q.withoutTargets.countedAt r n).withoutTargets := by
  unfold Record.countedAt
  cases r with
  | r1 =>
    rw [show q.withoutTargets.phase .r1 = q.phase .r1 from rfl]
    split <;> rfl
  | r2 =>
    rw [show q.withoutTargets.phase .r2 = q.phase .r2 from rfl]
    split <;> rfl

theorem bare_countedAt (q : Record) (r : RotorId) (n : Nat) : (q.countedAt r n).bare = q.bare := by
  unfold Record.countedAt
  split
  · rfl
  · cases r <;> rfl

/-- The state in which the arms of a rotor are recomputed after a change of its count. -/
def State.counted (s : State) (r : RotorId) (old : Nat) : State :=
  (s.mapQueue fun q => q.countedAt r (s.activeCount r)).judgeUsability r old

theorem countChanged_eq (s : State) (r : RotorId) (old : Nat) :
    s.countChanged r old = (s.counted r old).recomputeAll (armsOf r) true .byPhase := by
  unfold State.countChanged State.counted
  simp only [lowerMinActive_eq]

theorem judgeUsability_same {s : State} {r : RotorId} {old : Nat} (h : usabilityOf (s.activeCount r) = usabilityOf old) :
    s.judgeUsability r old = s := if_pos h

theorem judgeUsability_changed {s : State} {r : RotorId} {old : Nat} (h : usabilityOf (s.activeCount r) ≠ usabilityOf old) :
    s.judgeUsability r old = (s.putHold (unusableCause r) (decide (s.activeCount r ≤ 2))).raise .rotor := by
  unfold State.judgeUsability
  dsimp only
  rw [if_neg h, beq_unusable (activeCount_le s r)]

theorem counted_same {s : State} {r : RotorId} {old : Nat} (h : usabilityOf (s.activeCount r) = usabilityOf old) :
    s.counted r old = s.mapQueue fun q => q.countedAt r (s.activeCount r) := judgeUsability_same h

theorem counted_changed {s : State} {r : RotorId} {old : Nat} (h : usabilityOf (s.activeCount r) ≠ usabilityOf old) :
    s.counted r old = ((s.mapQueue fun q => q.countedAt r (s.activeCount r)).putHold (unusableCause r)
      (decide (s.activeCount r ≤ 2))).raise .rotor := judgeUsability_changed h

/-- A changed count leaves all but the records, the UNUSABLE hold cause and ROTOR. -/
theorem counted_fields (s : State) (r : RotorId) (old : Nat) : ∃ (holds : HoldCauses) (cause : Word), s.counted r old = { s with
    queue := s.queue.map fun q => q.countedAt r (s.activeCount r), holds := holds, cause := cause } := by
  by_cases h : usabilityOf (s.activeCount r) = usabilityOf old
  · exact ⟨s.holds, s.cause, counted_same h⟩
  · exact ⟨_, _, counted_changed h⟩

/-! ### The statement's form -/

/-- From `w` to `t` the arbiter has made its grants, and nothing else has happened that a changed count brings. -/
structure GrantsFollow (w t : State) : Prop where
  now : t.now = w.now
  holds : t.holds = w.holds
  rotor : t.pendingCause .rotor = w.pendingCause .rotor
  queue : t.queue = w.queue
  arms : ∀ b, GrantedOnly w t b

theorem GrantsFollow.publish_arbitrate (old w : State) : GrantsFollow w (publish old w.arbitrate) := by
  obtain ⟨m, hpublish, -⟩ := publish_ram old w.arbitrate
  have hflow : FlowOnly w w.arbitrate := .arbitrate w
  rw [hpublish]
  exact ⟨hflow.now, hflow.holds, (congrArg (fun c : Word => c.getLsbD Cause.rotor.place) hflow.cause :), queue_arbitrate w,
    fun b => (grantedOnly_arbitrate w b).congr_arm rfl⟩

theorem GrantsFollow.of_raise {w t : State} {c : Cause} (hc : c ≠ .rotor) (h : GrantsFollow (w.raise c) t) : GrantsFollow w t where
  now := h.now
  holds := h.holds
  rotor := h.rotor.trans (by rw [State.pendingCause_raise, decide_eq_false hc, Bool.false_or])
  queue := h.queue
  arms := h.arms

/-- An arm that is neither ENGAGED nor waiting stays through a changed count. -/
theorem arm_of_counted {x t : State} {a : ArmId} {old : Nat} (hwait : (x.arm a).flow.isWaiting = false)
    (hengaged : (x.arm a).state ≠ .engaged) (ht : GrantsFollow (x.countChanged (rotorOf a) old) t) : t.arm a = x.arm a := by
  obtain ⟨holds, cause, hcounted⟩ := counted_fields x (rotorOf a) old
  have harm : (x.counted (rotorOf a) old).arm a = x.arm a := by rw [hcounted]; rfl
  have hstays : (x.countChanged (rotorOf a) old).arm a = x.arm a := by
    rw [countChanged_eq, (arm_recomputeAll (.refl (x.counted (rotorOf a) old)) true .byPhase (nodup_armsOf _) fun _ _ => rfl).2 a
      ((mem_armsOf ..).mpr rfl), recompute_of_not_engaged (by rwa [harm]), harm]
  rcases ht.arms a with h | ⟨q, hq, -⟩
  · exact h.trans hstays
  · rw [hstays] at hq
    rw [hq] at hwait
    exact nomatch hwait

theorem now_countChanged (x : State) (r : RotorId) (old : Nat) : (x.countChanged r old).now = x.now := by
  obtain ⟨holds, cause, hcounted⟩ := counted_fields x r old
  rw [countChanged_eq, (FlowOnly.recomputeAll ..).now, hcounted]

theorem ram_countChanged (x : State) (r : RotorId) (old : Nat) : (x.countChanged r old).ram = x.ram := by
  obtain ⟨holds, cause, hcounted⟩ := counted_fields x r old
  rw [countChanged_eq, (FlowOnly.recomputeAll ..).2, hcounted]

/-- A changed count and the grants after it leave the arms' states. -/
theorem state_of_counted {x t : State} {r : RotorId} {old : Nat} (ht : GrantsFollow (x.countChanged r old) t) (b : ArmId) :
    (t.arm b).state = (x.arm b).state := by
  obtain ⟨holds, cause, hcounted⟩ := counted_fields x r old
  rw [(ht.arms b).state, countChanged_eq, (StandingKept.recomputeAll ..).state, hcounted]
  rfl

/-- The form of the statements, of an arm that has left service or returned to it. -/
theorem countFollows_of {s x t : State} {a : ArmId} (hflow : FlowOnly { s with now := x.now } x)
    (hone : ∀ b, b ≠ a → x.arm b = s.arm b) (hwait : (x.arm a).flow.isWaiting = false) (hengaged : (x.arm a).state ≠ .engaged)
    (ht : GrantsFollow (x.countChanged (rotorOf a) (s.activeCount (rotorOf a))) t) : CountFollows s t a := by
  have harm := arm_of_counted hwait hengaged ht
  obtain ⟨holds, cause, hcounted⟩ := counted_fields x (rotorOf a) (s.activeCount (rotorOf a))
  have hchanged := countChanged_eq x (rotorOf a) (s.activeCount (rotorOf a))
  have hrecompute : FlowOnly (x.counted (rotorOf a) (s.activeCount (rotorOf a))) (x.countChanged (rotorOf a) (s.activeCount (rotorOf a))) :=
    hchanged ▸ .recomputeAll ..
  have harms : ∀ b, (x.counted (rotorOf a) (s.activeCount (rotorOf a))).arm b = x.arm b := fun b => by rw [hcounted]; rfl
  have hcount : t.activeCount (rotorOf a) = x.activeCount (rotorOf a) := activeCount_of_states (state_of_counted ht) _
  have hplaced : ∀ b, x.arm b = State.arm (State.setArm { s with now := t.now } a (t.arm a)) b := fun b => by
    rw [State.arm_setArm]
    by_cases hb : a = b
    · rw [if_pos hb, harm, hb]
    · rw [if_neg hb]; exact hone b (Ne.symm hb)
  have hnow : t.now = x.now := ht.now.trans (now_countChanged ..)
  refine ⟨fun hsame => ?_, fun hdiffers => ?_, ?_, ?_⟩
  · rw [hcount] at hsame
    rw [counted_same hsame] at hrecompute
    exact ⟨ht.holds.trans (hrecompute.holds.trans hflow.holds), ht.rotor.trans ((pendingCause_congr hrecompute.cause .rotor).trans
      (pendingCause_congr (t := x) (s := s) hflow.cause .rotor))⟩
  · rw [hcount] at hdiffers ⊢
    rw [counted_changed hdiffers] at hrecompute
    refine ⟨ht.holds.trans (hrecompute.holds.trans ?_), ht.rotor.trans ((pendingCause_congr hrecompute.cause .rotor).trans ?_)⟩
    · exact congrArg (fun h : HoldCauses => h.put _ _) hflow.holds
    · rw [State.pendingCause_raise, decide_eq_true rfl, Bool.true_or]
  · have hafter : t.queue.map Record.withoutTargets =
        (x.queue.map fun q => q.countedAt (rotorOf a) (x.activeCount (rotorOf a))).map Record.withoutTargets := by
      rw [ht.queue]
      exact (congrArg State.queue hrecompute.1).trans (by rw [hcounted]; rfl)
    have hbefore : x.queue.map Record.withoutTargets = s.queue.map Record.withoutTargets := congrArg State.queue hflow.1
    have through : ∀ l : List Record, (l.map fun q => q.countedAt (rotorOf a) (x.activeCount (rotorOf a))).map Record.withoutTargets =
        (l.map Record.withoutTargets).map fun q => (q.countedAt (rotorOf a) (x.activeCount (rotorOf a))).withoutTargets := fun l => by
      rw [List.map_map, List.map_map]
      exact List.map_congr_left fun q _ => countedAt_withoutTargets ..
    rw [hafter, hcount, through, hbefore, ← through, List.map_map]
    rfl
  · have hkept : TargetsKept (State.setArm { s with now := t.now } a (t.arm a)) (x.counted (rotorOf a) (s.activeCount (rotorOf a))) := by
      refine ⟨?_, ?_, ?_, fun r => ?_, fun b => ?_, ?_⟩
      · rw [hcounted]; exact hnow.symm
      · rw [hcounted]; exact hflow.geometry
      · rw [hcounted]; exact hflow.feed
      · refine activeCount_of_states (fun b => ?_) r
        rw [harms, hplaced]
      · rw [hcounted]; exact hflow.ventHeld b
      · rw [hcounted]
        have hbefore : x.queue.map Record.bare = s.queue.map Record.bare :=
          queue_bare_of_flowOnly (u := { s with now := x.now }) hflow
        refine Eq.trans ?_ hbefore
        dsimp only
        rw [List.map_map]
        exact List.map_congr_left fun q _ => bare_countedAt ..
    refine (retargeted_recomputeAll (t := t) (forced := true) (k := .byPhase) hkept (nodup_armsOf (rotorOf a)) (fun b => ?_)
      fun b => ?_).congr_on fun b => (mem_armsOf ..).symm
    · rw [harms, hplaced]
    · rw [← hchanged]; exact ht.arms b

end Sys2Proof.Machine
end

section
/-! PROOF. The ends of an arm's move: the settled report and the timeout (R117, R118); and presence (R128, R129). -/

namespace Sys2Proof.Machine

/-! ### The grants that follow -/

/-- An arm that neither waits nor moves is passed over by the grants. -/
theorem arbitrate_passes {s : State} {a : ArmId} (hwait : (s.arm a).flow.isWaiting = false) (hmove : a ∉ s.arbiter.inFlight) :
    s.arbitrate.arm a = s.arm a ∧ a ∉ s.arbitrate.arbiter.inFlight := by
  refine arbitrate_induction (P := fun u => u.arm a = s.arm a ∧ a ∉ u.arbiter.inFlight) (fun u b ⟨harm, hin⟩ => ?_) ⟨rfl, hmove⟩
  by_cases hb : (u.arm b).flow.isWaiting = true
  · obtain ⟨q, hq⟩ := isWaiting_iff.mp hb
    have hne : a ≠ b := fun h => by
      rw [← h, harm] at hb
      rw [hb] at hwait
      exact nomatch hwait
    refine ⟨(grant_others u b a hne).trans harm, ?_⟩
    rw [(grant_of_waiting hq).1]
    exact fun h => (List.mem_append.mp h).elim hin fun h => hne (List.mem_singleton.mp h)
  · rw [grant_of_not_waiting (Bool.eq_false_iff.mpr hb)]
    exact ⟨harm, hin⟩

theorem FlowOnly.parkTimer {s t : State} (h : FlowOnly s t) (r : RotorId) : (t.rotor r).park = (s.rotor r).park := by
  cases r
  · exact congrArg (fun x => x.rotor1.park) h.1
  · exact congrArg (fun x => x.rotor2.park) h.1

theorem arbiter_publish (old new : State) : (publish old new).arbiter = new.arbiter := by
  obtain ⟨m, h, -⟩ := publish_ram old new
  rw [h]

theorem rotor_publish (old new : State) (r : RotorId) : (publish old new).rotor r = new.rotor r := by
  obtain ⟨m, h, -⟩ := publish_ram old new
  rw [h]
  cases r <;> rfl

/-- One arm has changed, and neither waits nor moves; the grants that follow, published. -/
theorem grants_after {s v : State} {a : ArmId} (hothers : ∀ b, b ≠ a → v.arm b = s.arm b) (hwait : (v.arm a).flow.isWaiting = false)
    (hmove : a ∉ v.arbiter.inFlight) (hnow : v.now = s.now) (hgeometry : v.geometry = s.geometry) (hram : v.ram = s.ram) :
    (publish s v.arbitrate).arm a = v.arm a ∧ a ∉ (publish s v.arbitrate).arbiter.inFlight
      ∧ (publish s v.arbitrate).withoutFlow = v.withoutFlow ∧ TicketFramesKept s (publish s v.arbitrate)
      ∧ ∀ b, b ≠ a → GrantedOnly s (publish s v.arbitrate) b := by
  obtain ⟨harm, hin⟩ := arbitrate_passes hwait hmove
  refine ⟨by rw [arm_publish, harm], by rwa [arbiter_publish], (FlowOnly.arbitrate v).withoutFlow_publish s,
    (FlowOnly.arbitrate v).framesKept s hram, fun b hb => ?_⟩
  exact (GrantedOnly.of_arm (hothers b hb)).trans hnow hgeometry ((grantedOnly_arbitrate v b).congr_arm (arm_publish ..))

/-! ### The settled report -/

theorem leaveFlow_twice (s : State) (a : ArmId) (c : Arm) : ((s.leaveFlow a).setArm a c).leaveFlow a = (s.leaveFlow a).setArm a c := by
  unfold State.leaveFlow State.setArm
  dsimp only
  rw [List.filter_filter, List.filter_filter]
  simp only [Bool.and_self]

theorem not_mem_leaveFlow (s : State) (a : ArmId) : a ∉ (s.leaveFlow a).arbiter.inFlight := fun h => by
  simpa using List.of_mem_filter h

theorem settledReport_of_none {s : State} {a : ArmId} (h : (s.arm a).flow.isInFlight = false) : s.settledReport a = s := by
  unfold State.settledReport
  split
  · rename_i q g w hflow
    rw [hflow] at h
    exact nomatch h
  · rfl

theorem settledReport_of_move {s : State} {a : ArmId} {q : FlowRequest} {g w : Nat} (h : (s.arm a).flow = .inFlight q g w) :
    s.settledReport a =
      (State.openedIdle ((s.leaveFlow a).setArm a ((s.arm a).completed q.kind)) a q.kind).arbitrate := by
  unfold State.settledReport
  rw [h]
  rfl

theorem settledReport_charge {s : State} {a : ArmId} {q : FlowRequest} {g w : Nat} (h : (s.arm a).flow = .inFlight q g w)
    (hkind : q.kind = .charge) : s.settledReport a = ((s.leaveFlow a).setArm a { s.arm a with
      flow := .idle, settled := true, charges := min ((s.arm a).charges + 1) 255 }).arbitrate := by
  rw [settledReport_of_move h, State.openedIdle, if_neg (fun h => by rw [hkind] at h; exact nomatch h.1), hkind]
  rfl

theorem settledReport_lift {s : State} {a : ArmId} {q : FlowRequest} {g w : Nat} (h : (s.arm a).flow = .inFlight q g w)
    (hkind : q.kind = .lift) (hcurrent : (s.current? (rotorOf a)).isSome = true ∨ s.latch = true) : s.settledReport a =
      ((s.leaveFlow a).setArm a { s.arm a with flow := .idle, settled := true, state := .opened }).arbitrate := by
  have hnot : ¬ (q.kind = .lift ∧ s.current? (rotorOf a) = none ∧ s.latch = false) := by
    rintro ⟨-, hnone, hlatch⟩
    rcases hcurrent with hsome | hset
    · rw [hnone] at hsome; exact nomatch hsome
    · rw [hlatch] at hset; exact nomatch hset
  rw [settledReport_of_move h, State.openedIdle]
  refine congrArg State.arbitrate ((if_neg hnot).trans ?_)
  rw [hkind]
  rfl

/-- An arm whose LIFT has completed and that goes to STANDBY at once (R77, R120). -/
def Arm.settledToStandby (c : Arm) (release : Nat) : Arm :=
  { c with
    flow := .idle
    settled := true
    state := .standby
    tag := none
    target := release
    commanded := min c.commanded release
    valve := .vent (min c.commanded release)
    vents := min (c.vents + 1) 255 }

theorem settledReport_standby {s : State} {a : ArmId} {q : FlowRequest} {g w : Nat} (h : (s.arm a).flow = .inFlight q g w)
    (hkind : q.kind = .lift) (hcurrent : s.current? (rotorOf a) = none) (hlatch : s.latch = false) {release : Nat}
    (hrelease : release = min s.geometry.releasePressure s.geometry.machineMax) : s.settledReport a =
      (((s.leaveFlow a).setArm a ((s.arm a).settledToStandby release)).setRotor (rotorOf a)
          { s.rotor (rotorOf a) with park := some (s.now + s.geometry.parkDelay) }).arbitrate := by
  subst hrelease
  have hcompleted : (s.arm a).completed .lift = { s.arm a with flow := .idle, settled := true, state := .opened } := rfl
  rw [settledReport_of_move h, State.openedIdle]
  refine congrArg State.arbitrate ((if_pos ⟨hkind, hcurrent, hlatch⟩).trans ?_)
  rw [hkind, hcompleted]
  unfold State.toStandby
  rw [State.arm_setArm_self]
  dsimp only
  unfold State.vent
  rw [leaveFlow_twice]
  unfold State.updArm
  rw [State.arm_setArm_self, State.arm_setArm_self]
  unfold State.startPark State.updRotor State.setArm
  rw [Arms.set_set, Arms.set_set]
  cases rotorOf a <;> rfl

/-- Settles O31: the three ends of a settled report, and the grants that follow. -/
theorem settledReportCompletesTheMove : Obligations.SettledReportCompletesTheMove := by
  intro s a hrun
  have reports : ∀ {u}, s.settledReport a = u → Reaches (.moveComplete a) s u := fun h =>
    reaches_of_act (f := fun s => s.settledReport a) rfl hrun h
  have others : ∀ {c : Arm} b, b ≠ a → ((s.leaveFlow a).setArm a c).arm b = s.arm b := fun b hb =>
    (State.arm_setArm ..).trans (if_neg (Ne.symm hb))
  refine ⟨fun h => reports (settledReport_of_none h), fun v g w hflow => ⟨fun hkind => ?_, fun hkind hcurrent => ?_,
    fun hkind hcurrent hlatch => ?_, fun release hrelease u hu => ?_⟩⟩
  · refine answers_of_act (f := fun s => s.settledReport a) rfl hrun ?_
    rw [settledReport_charge hflow hkind]
    obtain ⟨harm, hmove, hwithout, hkept, hgrants⟩ := grants_after (v := (s.leaveFlow a).setArm a { s.arm a with
      flow := .idle, settled := true, charges := min ((s.arm a).charges + 1) 255 }) others (by rw [State.arm_setArm_self]; rfl)
      (not_mem_leaveFlow s a) rfl rfl rfl
    exact ⟨harm.trans (State.arm_setArm_self ..), hmove, hwithout, hkept, hgrants⟩
  · refine answers_of_act (f := fun s => s.settledReport a) rfl hrun ?_
    rw [settledReport_lift hflow hkind hcurrent]
    obtain ⟨harm, hmove, hwithout, hkept, hgrants⟩ := grants_after (v := (s.leaveFlow a).setArm a { s.arm a with
      flow := .idle, settled := true, state := .opened }) others (by rw [State.arm_setArm_self]; rfl)
      (not_mem_leaveFlow s a) rfl rfl rfl
    exact ⟨harm.trans (State.arm_setArm_self ..), hmove, hwithout, hkept, hgrants⟩
  · refine answers_of_act (f := fun s => s.settledReport a) rfl hrun ?_
    rw [settledReport_standby hflow hkind hcurrent hlatch rfl]
    obtain ⟨v, hv⟩ : ∃ v : State, v = ((s.leaveFlow a).setArm a ((s.arm a).settledToStandby
        (min s.geometry.releasePressure s.geometry.machineMax))).setRotor (rotorOf a)
          { s.rotor (rotorOf a) with park := some (s.now + s.geometry.parkDelay) } := ⟨_, rfl⟩
    have hself : v.arm a = (s.arm a).settledToStandby (min s.geometry.releasePressure s.geometry.machineMax) := by
      rw [hv]
      exact (congrArg (fun x : Arms => x.get a) (arms_setRotor ..)).trans (State.arm_setArm_self ..)
    have hothers : ∀ b, b ≠ a → v.arm b = s.arm b := fun b hb => by
      rw [hv]
      exact (congrArg (fun x : Arms => x.get b) (arms_setRotor ..)).trans (others b hb)
    have hmove : a ∉ v.arbiter.inFlight := by
      rw [hv, arbiter_setRotor]
      exact not_mem_leaveFlow s a
    rw [← hv]
    obtain ⟨harm, hin, -, hkept, hgrants⟩ := grants_after hothers (by rw [hself]; rfl) hmove
      (by rw [hv]; cases rotorOf a <;> rfl) (by rw [hv]; cases rotorOf a <;> rfl) (by rw [hv]; cases rotorOf a <;> rfl)
    refine ⟨by rw [harm, hself]; rfl, by rw [harm, hself]; rfl, by rw [harm, hself]; rfl, hin, ?_, hkept, hgrants⟩
    rw [rotor_publish, (FlowOnly.arbitrate v).parkTimer, hv, State.rotor_setRotor_self]
  · subst hu
    exact ⟨fun hkind => reports (settledReport_charge hflow hkind), fun hkind hcurrent => reports (settledReport_lift hflow hkind hcurrent),
      fun hkind hcurrent hlatch => reports (settledReport_standby hflow hkind hcurrent hlatch hrelease)⟩

end Sys2Proof.Machine
end

section
/-! PROOF. An arm that goes out of service (R127): the timeout of a move and presence (R118, R128, R129). -/

namespace Sys2Proof.Machine

/-! ### Going OUT -/

/-- Leaving ENGAGED touches relief and the monitor only. -/
theorem leave_eq (c : Arm) : ∃ relief monitor, c.leave = { c with relief := relief, monitor := monitor } := by
  unfold Arm.leave
  split
  · exact ⟨_, _, rfl⟩
  · exact ⟨c.relief, c.monitor, rfl⟩

/-- The state with an arm newly OUT, before the count's change is delivered (R127). -/
def State.leftService (s : State) (a : ArmId) (cause : OutCause) : State :=
  (s.vent a 0).updArm a fun c => { c.leave with
    state := .out
    outCause := some cause
    returnPending := false
    inserted := false
    tag := none
    target := 0
    aperture := 0
    valve := .deEnergized }

theorem putOut_inService {s : State} {a : ArmId} (h : (s.arm a).state ≠ .out) (cause : OutCause) :
    s.putOut a cause = (s.leftService a cause).countChanged (rotorOf a) (s.activeCount (rotorOf a)) := if_neg h

theorem putOut_out {s : State} {a : ArmId} (h : (s.arm a).state = .out) (cause : OutCause) :
    s.putOut a cause = s.setArm a { s.arm a with outCause := some cause, returnPending := false, inserted := false } := if_pos h

theorem flowOnly_leftService (s : State) (a : ArmId) (cause : OutCause) : FlowOnly s (s.leftService a cause) :=
  (FlowOnly.vent s a 0).trans (.updArm _ a _)

theorem arm_leftService_of_ne (s : State) {a b : ArmId} (h : b ≠ a) (cause : OutCause) : (s.leftService a cause).arm b = s.arm b :=
  ((OneArm.vent s a 0).trans (.updArm _ a _)).others b h

/-- What an arm newly OUT holds. -/
structure Arm.IsOut (c d : Arm) (cause : OutCause) : Prop where
  state : d.state = .out
  outCause : d.outCause = some cause
  flow : d.flow = .idle
  commanded : d.commanded = 0
  target : d.target = 0
  aperture : d.aperture = 0
  tag : d.tag = none
  valve : d.valve = .deEnergized
  returnPending : d.returnPending = false
  inserted : d.inserted = false
  present : d.present = c.present

theorem arm_leftService (s : State) (a : ArmId) (cause : OutCause) : (s.arm a).IsOut ((s.leftService a cause).arm a) cause := by
  have hvented : (s.vent a 0).arm a = { s.arm a with
      flow := .idle
      commanded := min (s.arm a).commanded 0
      valve := .vent (min (s.arm a).commanded 0)
      vents := satSucc (s.arm a).vents } := arm_self_of_set (arms_vent s a 0)
  obtain ⟨relief, monitor, hleave⟩ := leave_eq ((s.vent a 0).arm a)
  unfold State.leftService State.updArm
  rw [State.arm_setArm_self]
  dsimp only
  rw [hleave, hvented]
  exact ⟨rfl, rfl, rfl, Nat.min_zero _, rfl, rfl, rfl, rfl, rfl, rfl, rfl⟩

/-- An arm that has gone OUT, with all that follows the count's change. -/
theorem left_follows {s t : State} {a : ArmId} {cause : OutCause} (hs : (s.arm a).state ≠ .out)
    (ht : GrantsFollow (s.putOut a cause) t) :
    (s.arm a).IsOut (t.arm a) cause ∧ t.now = s.now ∧ t.activeCount (rotorOf a) + 1 = s.activeCount (rotorOf a) ∧ CountFollows s t a := by
  have hout := arm_leftService s a cause
  rw [putOut_inService hs] at ht
  have hwait : ((s.leftService a cause).arm a).flow.isWaiting = false := by rw [hout.flow]; rfl
  have hengaged : ((s.leftService a cause).arm a).state ≠ .engaged := by rw [hout.state]; decide
  have harm := arm_of_counted hwait hengaged ht
  have hnow : (s.leftService a cause).now = s.now := (flowOnly_leftService s a cause).now
  refine ⟨by rwa [harm], ht.now.trans ((now_countChanged ..).trans hnow), activeCount_left hs (by rw [harm, hout.state]) fun b hb => ?_, ?_⟩
  · rw [state_of_counted ht, arm_leftService_of_ne s hb]
  · exact countFollows_of (flowOnly_leftService s a cause) (fun b hb => arm_leftService_of_ne s hb cause) hwait hengaged ht

theorem ram_putOut (s : State) (a : ArmId) (cause : OutCause) : (s.putOut a cause).ram = s.ram := by
  by_cases h : (s.arm a).state = .out
  · rw [putOut_out h]; rfl
  · rw [putOut_inService h, ram_countChanged, (flowOnly_leftService s a cause).2]

/-! ### The grants after it -/

theorem pendingCause_publish_arbitrate (old w : State) (c : Cause) : (publish old w.arbitrate).pendingCause c = w.pendingCause c :=
  pendingCause_congr ((cause_publish old w.arbitrate).trans (FlowOnly.arbitrate w).cause) c

theorem framesKept_publish_arbitrate {s w : State} (h : w.ram = s.ram) : TicketFramesKept s (publish s w.arbitrate) :=
  (FlowOnly.arbitrate w).framesKept s h

/-! ### The timeout -/

theorem moveExpired_of_none {s : State} {a : ArmId} (h : (s.arm a).flow.isInFlight = false) : s.moveExpired a = s := by
  unfold State.moveExpired
  split
  · rename_i q g w hflow
    rw [hflow] at h
    exact nomatch h
  · rfl

theorem moveExpired_of_move {s : State} {a : ArmId} {q : FlowRequest} {g w : Nat} (h : (s.arm a).flow = .inFlight q g w) :
    s.moveExpired a = (((s.reachTime (g + w)).putOut a .valveFault).raise .arm).arbitrate := by
  unfold State.moveExpired
  rw [h]

theorem CountFollows.of_now {s t : State} {a : ArmId} {now : Nat} (h : CountFollows { s with now := now } t a) : CountFollows s t a := h

/-- Settles O32: by the arm that goes OUT (`left_follows`) at the timeout. -/
theorem moveTimeoutPutsTheArmOut : Obligations.MoveTimeoutPutsTheArmOut := by
  refine ⟨fun n hn => usability_iff hn, fun s a hrun hidle => ⟨fun h =>
    reaches_of_act (f := fun s => s.moveExpired a) rfl hrun (moveExpired_of_none h), fun v g w hflow => ?_⟩⟩
  refine answers_of_act (f := fun s => s.moveExpired a) rfl hrun ?_
  have hin : (s.arm a).state ≠ .out := fun h => by
    rw [hidle a h] at hflow
    exact nomatch hflow
  rw [moveExpired_of_move hflow]
  have hgrants : GrantsFollow ((s.reachTime (g + w)).putOut a .valveFault)
      (publish s (((s.reachTime (g + w)).putOut a .valveFault).raise .arm).arbitrate) :=
    (GrantsFollow.publish_arbitrate s _).of_raise (by decide)
  obtain ⟨hout, hnow, hcount, hfollows⟩ := left_follows (s := s.reachTime (g + w)) hin hgrants
  refine ⟨hout.state, hout.outCause, hout.flow, hout.commanded, hout.target, hout.aperture, hout.tag, hout.valve, ?_, hnow, hcount,
    hfollows.of_now, ?_⟩
  · rw [pendingCause_publish_arbitrate, State.pendingCause_raise, decide_eq_true rfl, Bool.true_or]
  · exact framesKept_publish_arbitrate (ram_putOut ..)

/-! ### Presence -/

theorem presenceLost_of_absent {s : State} {a : ArmId} (h : (s.arm a).present = false) : s.presenceLost a = s :=
  if_neg (by rw [h]; nofun)

/-- The state in which an arm whose presence is lost goes OUT. -/
def State.absent (s : State) (a : ArmId) : State := s.setArm a { s.arm a with present := false }

theorem presenceLost_service {s : State} {a : ArmId} (h : (s.arm a).present = true) (hmode : s.mode = .service) :
    s.presenceLost a = ((s.absent a).putOut a .removed).arbitrate := by
  refine (if_pos h).trans ?_
  dsimp only
  rw [State.mode_updArm, hmode]
  rfl

theorem presenceLost_other {s : State} {a : ArmId} (h : (s.arm a).present = true) (hmode : s.mode ≠ .service) :
    s.presenceLost a = (((s.absent a).putOut a .presenceLost).raise .arm).arbitrate := by
  refine (if_pos h).trans ?_
  dsimp only
  rw [State.mode_updArm]
  cases hm : s.mode with
  | service => exact absurd hm hmode
  | run => rfl
  | hold => rfl
  | config => rfl

theorem arm_absent (s : State) (a : ArmId) : (s.absent a).arm a = { s.arm a with present := false } := State.arm_setArm_self ..

theorem arm_absent_of_ne (s : State) {a b : ArmId} (h : b ≠ a) : (s.absent a).arm b = s.arm b :=
  (State.arm_setArm ..).trans (if_neg (Ne.symm h))

theorem activeCount_absent (s : State) (a : ArmId) (r : RotorId) : (s.absent a).activeCount r = s.activeCount r := by
  refine activeCount_of_states (fun b => ?_) r
  by_cases hb : b = a
  · rw [hb, arm_absent]
  · rw [arm_absent_of_ne s hb]

/-- The form of the statements does not see the presence of the arm itself. -/
theorem CountFollows.of_absent {s t : State} {a : ArmId} (h : CountFollows (s.absent a) t a) : CountFollows s t a := by
  obtain ⟨hsame, hchanged, hqueue, hretargeted⟩ := h
  rw [activeCount_absent] at hsame hchanged
  refine ⟨hsame, hchanged, hqueue, ?_⟩
  have hset : State.setArm { s.absent a with now := t.now } a (t.arm a) = State.setArm { s with now := t.now } a (t.arm a) :=
    congrArg (fun x : Arms => ({ s with now := t.now, arms := x } : State)) (Arms.set_set ..)
  rwa [hset] at hretargeted

/-- The arm that goes OUT, or takes the new cause, when its presence is lost. -/
theorem presence_lost {s t : State} {a : ArmId} {cause : OutCause} (ht : GrantsFollow ((s.absent a).putOut a cause) t)
    (hstanding : ∀ b, (t.arm b).standing = (((s.absent a).putOut a cause).arm b).standing) :
    (t.arm a).state = .out ∧ (t.arm a).present = false ∧ (t.arm a).returnPending = false ∧ (t.arm a).inserted = false
      ∧ (t.arm a).outCause = some cause
      ∧ ((s.arm a).state ≠ .out → t.activeCount (rotorOf a) + 1 = s.activeCount (rotorOf a) ∧ CountFollows s t a)
      ∧ ((s.arm a).state = .out → t.holds = s.holds ∧ t.queue = s.queue
        ∧ t.pendingCause .rotor = s.pendingCause .rotor ∧ ∀ b, b ≠ a → GrantedOnly s t b) := by
  have hstate : ((s.absent a).arm a).state = (s.arm a).state := by rw [arm_absent]
  by_cases hout : (s.arm a).state = .out
  · have hput := putOut_out (hstate.trans hout) cause
    rw [hput] at ht hstanding
    have hself := hstanding a
    rw [State.arm_setArm_self, arm_absent] at hself
    refine ⟨(congrArg Arm.state hself).trans hout, congrArg Arm.present hself, congrArg Arm.returnPending hself,
      congrArg Arm.inserted hself, congrArg Arm.outCause hself, fun h => absurd hout h, fun _ => ⟨ht.holds, ht.queue, ht.rotor,
        fun b hb => ?_⟩⟩
    have hbefore : GrantedOnly s (State.setArm (s.absent a) a { (s.absent a).arm a with
        outCause := some cause, returnPending := false, inserted := false }) b :=
      .of_arm ((State.arm_setArm ..).trans ((if_neg (Ne.symm hb)).trans (arm_absent_of_ne s hb)))
    exact hbefore.trans rfl rfl (ht.arms b)
  · obtain ⟨hleft, -, hcount, hfollows⟩ := left_follows (by rwa [hstate]) ht
    rw [activeCount_absent] at hcount
    refine ⟨hleft.state, hleft.present.trans (by rw [arm_absent]), hleft.returnPending, hleft.inserted, hleft.outCause,
      fun _ => ⟨hcount, hfollows.of_absent⟩, fun h => absurd h hout⟩

theorem standing_publish_arbitrate (old w : State) (b : ArmId) : ((publish old w.arbitrate).arm b).standing = (w.arm b).standing := by
  rw [arm_publish, (StandingKept.arbitrate w).arm]

theorem CausesKeptButRotor.putOut (s : State) (a : ArmId) (cause : OutCause) : CausesKeptButRotor s (s.putOut a cause) := by
  by_cases h : (s.arm a).state = .out
  · rw [putOut_out h]
    exact .of_cause rfl
  · rw [putOut_inService h]
    exact .trans (.of_flowOnly (flowOnly_leftService s a cause)) (.countChanged _ _ _)

theorem presenceBack_of_present {s : State} {a : ArmId} (h : (s.arm a).present = true) : s.presenceBack a = s := if_pos h

theorem presenceBack_out {s : State} {a : ArmId} (h : (s.arm a).present = false) (hout : (s.arm a).state = .out) :
    s.presenceBack a = (s.setArm a { s.arm a with present := true, inserted := true }).raise .arm := by
  refine (if_neg (by rw [h]; nofun)).trans ?_
  dsimp only
  unfold State.updArm
  rw [State.arm_setArm_self, if_pos hout]
  unfold State.setArm
  rw [Arms.set_set]

theorem presenceBack_inService {s : State} {a : ArmId} (h : (s.arm a).present = false) (hin : (s.arm a).state ≠ .out) :
    s.presenceBack a = s.setArm a { s.arm a with present := true } := by
  refine (if_neg (by rw [h]; nofun)).trans ?_
  dsimp only
  unfold State.updArm
  rw [State.arm_setArm_self, if_neg hin]

/-- Settles O33: by the arm that goes OUT (`presence_lost`), and the presence alone. -/
theorem presenceChangesAreTaken : Obligations.PresenceChangesAreTaken := by
  intro s a hrun
  refine ⟨fun hpresent => ?_, fun h => reaches_of_act (f := fun s => s.presenceLost a) rfl hrun (presenceLost_of_absent h),
    fun h => reaches_of_act (f := fun s => s.presenceBack a) rfl hrun (presenceBack_of_present h),
    fun h hout => reaches_of_act (f := fun s => s.presenceBack a) rfl hrun (presenceBack_out h hout),
    fun h hin => reaches_of_act (f := fun s => s.presenceBack a) rfl hrun (presenceBack_inService h hin)⟩
  refine answers_of_act (f := fun s => s.presenceLost a) rfl hrun ?_
  by_cases hmode : s.mode = .service
  · rw [presenceLost_service hpresent hmode, if_pos hmode]
    obtain ⟨hstate, habsent, hreturn, hinserted, hcause, hleft, hstays⟩ :=
      presence_lost (GrantsFollow.publish_arbitrate s _) (standing_publish_arbitrate s _)
    refine ⟨hstate, habsent, hreturn, hinserted, hcause, fun h => absurd hmode h, fun _ => ?_, hleft, hstays, ?_⟩
    · rw [pendingCause_publish_arbitrate]
      exact CausesKeptButRotor.putOut (s.absent a) a .removed .arm (by decide)
    · exact framesKept_publish_arbitrate (ram_putOut ..)
  · rw [presenceLost_other hpresent hmode, if_neg hmode]
    obtain ⟨hstate, habsent, hreturn, hinserted, hcause, hleft, hstays⟩ :=
      presence_lost ((GrantsFollow.publish_arbitrate s _).of_raise (c := .arm) (by decide)) (standing_publish_arbitrate s _)
    refine ⟨hstate, habsent, hreturn, hinserted, hcause, fun _ => ?_, fun h => absurd h hmode, hleft, hstays, ?_⟩
    · rw [pendingCause_publish_arbitrate, State.pendingCause_raise, decide_eq_true rfl, Bool.true_or]
    · exact framesKept_publish_arbitrate (ram_putOut ..)

end Sys2Proof.Machine
end

section
/-! PROOF. Vent hold (R125, R126): what its beginning and its end make of each arm. -/

namespace Sys2Proof.Machine

/-! ### One arm after another -/

/-- Acts on one arm after another, each of which leaves the other arms: an arm is as its own act leaves it, from a state related to the
first. -/
theorem foldl_oneArm {f : State → ArmId → State} {R : State → State → Prop} (hrefl : ∀ s, R s s)
    (htrans : ∀ s t u, R s t → R t u → R s u) (hf : ∀ s a, R s (f s a)) (hone : ∀ s a, OneArm a s (f s a)) :
    ∀ {as : List ArmId} (s : State), as.Nodup → (∀ a, a ∉ as → (as.foldl f s).arm a = s.arm a)
      ∧ ∀ a ∈ as, ∃ u, R s u ∧ u.arm a = s.arm a ∧ (as.foldl f s).arm a = (f u a).arm a := by
  intro as
  induction as with
  | nil => exact fun s _ => ⟨fun _ _ => rfl, nofun⟩
  | cons b as ih =>
    intro s hnodup
    obtain ⟨hb, hnodup⟩ := List.nodup_cons.mp hnodup
    obtain ⟨hkept, hdone⟩ := ih (f s b) hnodup
    refine ⟨fun a ha => ?_, fun a ha => ?_⟩
    · rw [List.mem_cons, not_or] at ha
      exact (hkept a ha.2).trans ((hone s b).others a ha.1)
    · rcases List.mem_cons.mp ha with rfl | ha
      · exact ⟨s, hrefl s, rfl, hkept a hb⟩
      · obtain ⟨u, hR, harm, heq⟩ := hdone a ha
        exact ⟨u, htrans _ _ _ (hf s b) hR, harm.trans ((hone s b).others a fun hab => hb (hab ▸ ha)), heq⟩

/-! ### The beginning -/

/-- An arm that comes under vent hold (R125). -/
def Arm.heldVented (c : Arm) : Arm :=
  if c.state = .parked ∨ c.state = .out then c
  else { c with flow := c.flow.deferLift, commanded := 0, valve := .vent 0, vents := min (c.vents + 1) 255 }

theorem heldVented_iff (c d : Arm) : HeldVented c d ↔ d = c.heldVented := by
  unfold HeldVented Arm.heldVented
  have hkept : c.flow.deferLift = match c.flow with
      | .waiting x => if x.kind = .lift then .deferred x.value x.wake else .idle
      | .inFlight x _ _ => if x.kind = .lift then .deferred x.value x.wake else .idle
      | .deferred aperture wake => .deferred aperture wake
      | .idle => .idle := by cases c.flow <;> rfl
  rw [hkept]
  by_cases h : c.state = .parked ∨ c.state = .out
  · rw [if_pos h]
    exact ⟨fun hd => hd.1 h, fun hd => ⟨fun _ => hd, fun hp ho => absurd h (not_or.mpr ⟨hp, ho⟩)⟩⟩
  · rw [if_neg h]
    exact ⟨fun hd => hd.2 (not_or.mp h).1 (not_or.mp h).2, fun hd => ⟨fun hpo => absurd hpo h, fun _ _ => hd⟩⟩

theorem arm_beginHold (s : State) (a : ArmId) : (s.beginHold a).arm a = (s.arm a).heldVented := by
  have hvented : (s.vent a 0).arm a = { s.arm a with
      flow := .idle
      commanded := min (s.arm a).commanded 0
      valve := .vent (min (s.arm a).commanded 0)
      vents := satSucc (s.arm a).vents } := arm_self_of_set (arms_vent s a 0)
  have hacts : (State.updArm (s.vent a 0) a fun c => { c with flow := (s.arm a).flow.deferLift }).arm a = { s.arm a with
      flow := (s.arm a).flow.deferLift, commanded := 0, valve := .vent 0, vents := min ((s.arm a).vents + 1) 255 } := by
    unfold State.updArm
    rw [State.arm_setArm_self, hvented, Nat.min_zero]
    rfl
  unfold State.beginHold Arm.heldVented
  by_cases h : (s.arm a).state = .parked ∨ (s.arm a).state = .out
  · rw [if_pos h]
    rcases h with h | h
    · rw [h]
    · rw [h]
  · rw [if_neg h, ← hacts]
    obtain ⟨hparked, hout⟩ := not_or.mp h
    split
    · exact absurd (by assumption) hparked
    · exact absurd (by assumption) hout
    · rfl

theorem arm_beginHolds (s : State) {as : List ArmId} (hnodup : as.Nodup) : (∀ a, a ∉ as → (as.foldl State.beginHold s).arm a = s.arm a)
    ∧ ∀ a ∈ as, (as.foldl State.beginHold s).arm a = (s.arm a).heldVented := by
  obtain ⟨hkept, hdone⟩ := foldl_oneArm (R := fun _ _ => True) (fun _ => trivial) (fun _ _ _ _ _ => trivial) (fun _ _ => trivial)
    OneArm.beginHold s hnodup
  refine ⟨hkept, fun a ha => ?_⟩
  obtain ⟨u, -, harm, heq⟩ := hdone a ha
  rw [heq, arm_beginHold, harm]

theorem queue_beginHolds (as : List ArmId) (s : State) : (as.foldl State.beginHold s).queue = s.queue := by
  induction as generalizing s with
  | nil => rfl
  | cons a as ih =>
    have hone : (s.beginHold a).queue = s.queue := by
      unfold State.beginHold
      split <;> rfl
    exact (ih _).trans hone

/-- An arm in service under vent hold neither waits nor moves, its commanded pressure 0. -/
theorem heldVented_quiet {c : Arm} (hparked : c.state ≠ .parked) (hout : c.state ≠ .out) :
    c.heldVented.commanded = 0 ∧ c.heldVented.flow.isWaiting = false ∧ c.heldVented.flow.isInFlight = false := by
  unfold Arm.heldVented
  rw [if_neg (not_or.mpr ⟨hparked, hout⟩)]
  refine ⟨rfl, ?_⟩
  cases c.flow with
  | idle => exact ⟨rfl, rfl⟩
  | deferred p w => exact ⟨rfl, rfl⟩
  | waiting q =>
    show Flow.isWaiting (if q.kind = .lift then _ else _) = false ∧ Flow.isInFlight (if q.kind = .lift then _ else _) = false
    split
    · exact ⟨rfl, rfl⟩
    · exact ⟨rfl, rfl⟩
  | inFlight q g w =>
    show Flow.isWaiting (if q.kind = .lift then _ else _) = false ∧ Flow.isInFlight (if q.kind = .lift then _ else _) = false
    split
    · exact ⟨rfl, rfl⟩
    · exact ⟨rfl, rfl⟩

/-! ### The end -/

theorem arm_endHold_deferred {s : State} {a : ArmId} {aperture : Nat} {wake : Bool} (h : (s.arm a).flow = .deferred aperture wake) :
    (s.endHold a).arm a = { s.arm a with flow := .waiting ⟨.lift, aperture, .urgent, wake⟩ } := by
  unfold State.endHold
  rw [h]
  exact arm_self_of_set (arms_enterRequest s a _)

theorem endHold_of_idle {s : State} {a : ArmId} (h : (s.arm a).flow = .idle) : s.endHold a = s.recompute true .byPhase a := by
  unfold State.endHold
  rw [h]

theorem TargetsKept.endHold (s : State) (a : ArmId) : TargetsKept s (s.endHold a) := .of_flow (.endHold s a) (.endHold s a)

theorem GrantedFrom.of_idle {u t : State} {a : ArmId} {c : Arm} (h : GrantedFrom u t a c) (hflow : c.flow = .idle) : t.arm a = c := by
  rcases h with h | ⟨q, hq, -⟩
  · exact h
  · rw [hflow] at hq
    exact nomatch hq

theorem GrantedFrom.of_waiting {u t : State} {a : ArmId} {c : Arm} {x : FlowRequest} (h : GrantedFrom u t a { c with flow := .waiting x }) :
    t.arm a = { c with flow := .waiting x } ∨ t.arm a = c.granted x u.now (moveTimeout u.geometry x) := by
  rcases h with h | ⟨q, hq, h⟩
  · exact .inl h
  · obtain rfl := Flow.waiting.inj hq
    refine .inr (h.trans ?_)
    unfold Arm.granted
    cases x.kind <;> rfl

/-- What an arm does that leaves vent hold, and what it is granted after. -/
theorem holdReleased_of {u v w t : State} {a : ArmId} (hkept : TargetsKept v w) (hw : w.arm a = v.arm a) (hfree : v.ventHeld a = false)
    (harm : v.arm a = u.arm a) (hrecord : ∀ x, v.record? x = u.record? x) (htarget : ∀ q, v.targetFor a q = u.targetFor a q)
    (ht : GrantedFrom u t a ((w.endHold a).arm a)) : HoldReleased u t a := by
  have hwu := hw.trans harm
  refine ⟨fun aperture wake hflow x hx => ?_, fun hflow hstate => ?_, fun hflow hstate q x hq hx c y hc hy => ?_⟩
  · subst hx
    rw [arm_endHold_deferred (hwu ▸ hflow), hwu] at ht
    exact ht.of_waiting
  · rw [endHold_of_idle (hwu ▸ hflow), recompute_of_not_engaged (hwu ▸ hstate), hwu] at ht
    exact ht.of_idle hflow
  · have hbind : (v.arm a).tag.bind v.record? = some q := by
      rw [harm, ← hq]
      cases (u.arm a).tag with
      | none => rfl
      | some tag => exact hrecord tag
    have hxv := (htarget q).trans hx
    obtain ⟨row, hrow⟩ := targetFor_row hxv
    have hlift : (v.arm a).isLifting = false := by
      unfold Arm.isLifting
      rw [harm, hflow]
    have haim : (u.arm a).aim = (u.arm a).commanded := by
      unfold Arm.aim
      rw [hflow]
    rw [endHold_of_idle (hwu ▸ hflow), arm_recompute_congr hkept hw, recompute_of_target (harm ▸ hstate) hbind hrow hxv,
      arm_deliver hlift (.inl rfl), harm, hfree] at ht
    subst hc hy
    refine ⟨fun hsame => ?_, fun hup => ?_⟩
    · rw [workingToward_same (.inr (hsame.trans haim.symm))] at ht
      exact ht.of_idle hflow
    · have hup : (u.arm a).commanded < x := hup
      rw [workingToward_free (by rw [haim]; omega), hflow] at ht
      dsimp only at ht
      rw [if_pos hup] at ht
      exact ht.of_waiting (c := { u.arm a with target := x })

/-- The arms that leave vent hold, one after another. -/
theorem arm_endHolds (s : State) {as : List ArmId} (hnodup : as.Nodup) : (∀ a, a ∉ as → (as.foldl State.endHold s).arm a = s.arm a)
    ∧ ∀ a ∈ as, ∃ w, TargetsKept s w ∧ w.arm a = s.arm a ∧ (as.foldl State.endHold s).arm a = (w.endHold a).arm a :=
  foldl_oneArm (R := TargetsKept) .refl (fun _ _ _ => .trans) .endHold .endHold s hnodup

end Sys2Proof.Machine
end

section
/-! PROOF. The supply (chapter 9): the arms under vent hold while the level is CRITICAL, and the slots of a level. -/

namespace Sys2Proof.Machine

theorem supplyReading_eq (g : Geometry) (i : Nat) : supplyReading g i =
    if i < 3600 then none else some ((max 4000 (min i 20000) - 4000) * g.supplySpan / 16000) := by
  unfold supplyReading
  by_cases hfault : i < 3600
  · rw [if_pos hfault, if_pos hfault]
  rw [if_neg hfault, if_neg hfault]
  by_cases hlow : i ≤ 4000
  · have hzero : max 4000 (min i 20000) - 4000 = 0 := by omega
    rw [if_pos hlow, hzero, Nat.zero_mul, Nat.zero_div]
  rw [if_neg hlow]
  by_cases hhigh : 20000 < i
  · have hspan : max 4000 (min i 20000) - 4000 = 16000 := by omega
    rw [if_pos hhigh, hspan, Nat.mul_div_cancel_left _ (by decide)]
  · have hin : max 4000 (min i 20000) - 4000 = i - 4000 := by omega
    rw [if_neg hhigh, hin]

/-- The state in which a new level is delivered: the reading taken, the level and its slots set. -/
def State.leveled (s : State) (i : Nat) (new : SupplyLevel) : State :=
  { s.supplyRead i with
    supply := { (s.supplyRead i).supply with level := new }
    arbiter := { s.arbiter with slots := slotsFor s.geometry new } }

theorem sampleSupply_changed {s : State} {i : Nat} {level : SupplyLevel} (hlevel : s.judgedLevel i = level)
    (hne : s.supply.level ≠ level) :
    s.sampleSupply i = (((s.leveled i level).deliverLevel s.supply.level level).raise .supply).arbitrate := by
  rw [sampleSupply_of_levelChanged (by rw [hlevel]; exact Ne.symm hne), hlevel]
  rfl

theorem deliverLevel_enters (s : State) (old : SupplyLevel) : s.deliverLevel old .critical =
    ((s.readyArms.foldl State.beginHold s).flagStall).putHold .supplyCritical true := if_pos rfl

theorem deliverLevel_leaves (s : State) {new : SupplyLevel} (h : new ≠ .critical) :
    s.deliverLevel .critical new = (s.readyArms.foldl State.endHold s).putHold .supplyCritical false := by
  unfold State.deliverLevel
  rw [if_neg h, if_pos rfl]

theorem deliverLevel_between (s : State) {old new : SupplyLevel} (hold : old ≠ .critical) (hnew : new ≠ .critical) :
    s.deliverLevel old new = s := by
  unfold State.deliverLevel
  rw [if_neg hnew, if_neg hold]

theorem nodup_readyArms (s : State) : s.readyArms.Nodup := List.Nodup.filter _ (by decide)

/-- With no slot nothing is granted. -/
theorem arbitrate_of_no_slot {s : State} (h : s.arbiter.slots = 0) : s.arbitrate = s :=
  arbitrate_of_done (.inl (h ▸ Nat.zero_le _))

/-- Agreement with nothing that waits or moves leaves both lists empty. -/
theorem lists_empty {s : State} (h : s.flowAgrees)
    (hquiet : ∀ a, (s.arm a).flow.isWaiting = false ∧ (s.arm a).flow.isInFlight = false) :
    s.arbiter.wait = [] ∧ s.arbiter.inFlight = [] := by
  obtain ⟨-, -, -, -, hwait, hmove⟩ := h
  constructor
  · refine (List.map_eq_nil_iff (f := WaitEntry.arm)).mp (List.eq_nil_iff_forall_not_mem.mpr fun a ha => ?_)
    exact Bool.eq_false_iff.mp (hquiet a).1 ((hwait a).mp ha)
  · refine List.eq_nil_iff_forall_not_mem.mpr fun a ha => ?_
    exact Bool.eq_false_iff.mp (hquiet a).2 ((hmove a).mp ha)

theorem flowAgrees_exec {c : Instr} {s t : State} (h : exec c s = .next t) (hs : s.flowAgrees) : t.flowAgrees :=
  (run_exec c h).keeps Act.keeps_flowAgrees hs

theorem holds_publish (old new : State) : (publish old new).holds = new.holds := by
  obtain ⟨m, h, -⟩ := publish_ram old new
  rw [h]

theorem idle_of_fits {c : Arm} (h : flowFits c.state c.flow = true) (hpo : c.state = .parked ∨ c.state = .out) : c.flow = .idle := by
  rcases hpo with hstate | hstate
  · rw [hstate] at h
    cases hflow : c.flow with
    | idle => rfl
    | waiting q | inFlight q g w | deferred v w => rw [hflow] at h; exact nomatch h
  · rw [hstate] at h
    cases hflow : c.flow with
    | idle => rfl
    | waiting q | inFlight q g w | deferred v w => rw [hflow] at h; exact nomatch h

theorem quiet_of_idle {f : Flow} (h : f = .idle) : f.isWaiting = false ∧ f.isInFlight = false := by
  rw [h]
  exact ⟨rfl, rfl⟩

theorem ventHeld_of_drive {s : State} {a : ArmId} (h : (s.rotor (rotorOf a)).drive ≠ .ready) : s.ventHeld a = true := by
  unfold State.ventHeld
  rw [bne_iff_ne.mpr h, Bool.or_true]

/-! ### The level becomes CRITICAL -/

/-- The state once the level has become CRITICAL. -/
theorem sampleSupply_enters {s : State} {i : Nat} (hlevel : s.judgedLevel i = .critical) (hne : s.supply.level ≠ .critical) :
    ∃ v, FlowOnly (s.leveled i .critical) v ∧ StandingKept (s.leveled i .critical) v ∧ v.queue = s.queue
      ∧ (∀ a, (s.rotor (rotorOf a)).drive ≠ .ready → v.arm a = s.arm a)
      ∧ (∀ a, (s.rotor (rotorOf a)).drive = .ready → v.arm a = (s.arm a).heldVented)
      ∧ s.sampleSupply i = (v.flagStall.putHold .supplyCritical true).raise .supply := by
  have hready : (s.leveled i .critical).readyArms = s.readyArms := rfl
  obtain ⟨hkept, hheld⟩ := arm_beginHolds (s.leveled i .critical) (nodup_readyArms s)
  have hflow : FlowOnly (s.leveled i .critical) (s.readyArms.foldl State.beginHold (s.leveled i .critical)) := .foldl .beginHold _ _
  refine ⟨_, hflow, .foldl .beginHold _ _, queue_beginHolds _ _, fun a ha => hkept a fun h => ha ((mem_readyArms s a).mp h),
    fun a ha => hheld a ((mem_readyArms s a).mpr ha), ?_⟩
  rw [sampleSupply_changed hlevel hne, deliverLevel_enters, hready]
  exact arbitrate_of_no_slot hflow.slots

/-! ### The level leaves CRITICAL -/

theorem sampleSupply_leaves {s : State} {i : Nat} {level : SupplyLevel} (hlevel : s.judgedLevel i = level)
    (hold : s.supply.level = .critical) (hne : level ≠ .critical) :
    ∃ v, FlowOnly (s.leveled i level) v ∧ StandingKept (s.leveled i level) v
      ∧ (∀ a, (s.rotor (rotorOf a)).drive ≠ .ready → v.arm a = s.arm a)
      ∧ (∀ a, (s.rotor (rotorOf a)).drive = .ready →
        ∃ w, TargetsKept (s.leveled i level) w ∧ w.arm a = (s.leveled i level).arm a ∧ v.arm a = (w.endHold a).arm a)
      ∧ s.sampleSupply i = ((v.putHold .supplyCritical false).raise .supply).arbitrate := by
  have hready : (s.leveled i level).readyArms = s.readyArms := rfl
  obtain ⟨hkept, hfreed⟩ := arm_endHolds (s.leveled i level) (nodup_readyArms s)
  refine ⟨_, .foldl .endHold s.readyArms (s.leveled i level), .foldl .endHold _ _, fun a ha => hkept a fun h => ha ((mem_readyArms s a).mp h),
    fun a ha => hfreed a ((mem_readyArms s a).mpr ha), ?_⟩
  rw [sampleSupply_changed hlevel (by rw [hold]; exact Ne.symm hne), hold, deliverLevel_leaves _ hne, hready]

/-- What the arms do when the level leaves CRITICAL, in the form of the statement. -/
theorem released_by_supply {s : State} {i : Nat} {level : SupplyLevel} (hlevel : s.judgedLevel i = level)
    (hold : s.supply.level = .critical) (hne : level ≠ .critical) (a : ArmId) :
    ((s.rotor (rotorOf a)).drive = .ready →
        HoldReleased { s with now := max s.now s.supply.nextSample } (publish s (s.sampleSupply i)) a)
      ∧ ((s.rotor (rotorOf a)).drive ≠ .ready →
        GrantedOnly { s with now := max s.now s.supply.nextSample } (publish s (s.sampleSupply i)) a) := by
  obtain ⟨v, hflow, -, hkept, hfreed, hends⟩ := sampleSupply_leaves hlevel hold hne
  have hgrants : GrantedOnly v (publish s (s.sampleSupply i)) a := by
    have hafter : GrantedOnly ((v.putHold .supplyCritical false).raise .supply)
        (publish s ((v.putHold .supplyCritical false).raise .supply).arbitrate) a := (grantedOnly_arbitrate _ a).congr_arm (arm_publish ..)
    rw [hends]
    exact hafter
  refine ⟨fun hready => ?_, fun hready => ?_⟩
  · obtain ⟨w, hw, harm, hv⟩ := hfreed a hready
    have hfree : (s.leveled i level).ventHeld a = false := by
      unfold State.ventHeld
      rw [Bool.or_eq_false_iff]
      exact ⟨beq_eq_false_iff_ne.mpr hne, bne_eq_false_iff_eq.mpr hready⟩
    exact holdReleased_of hw harm hfree rfl (fun _ => rfl) (fun _ => rfl)
      ((GrantedFrom.of_eq hv).then_only (u := { s with now := max s.now s.supply.nextSample }) hflow.now hflow.geometry hgrants)
  · exact (GrantedOnly.of_arm (s := { s with now := max s.now s.supply.nextSample }) (hkept a hready)).trans hflow.now hflow.geometry hgrants

/-- A deferred lift after a hold is a LIFT request, waiting or granted. -/
theorem flow_of_released {u t : State} {a : ArmId} {aperture : Nat} {wake : Bool} (h : HoldReleased u t a)
    (hflow : (u.arm a).flow = .deferred aperture wake) : (t.arm a).flow = .waiting ⟨.lift, aperture, .urgent, wake⟩
      ∨ ∃ w, (t.arm a).flow = .inFlight ⟨.lift, aperture, .urgent, wake⟩ u.now w := by
  rcases h.1 aperture wake hflow _ rfl with h | h
  · exact .inl (by rw [h])
  · exact .inr ⟨_, by rw [h, flow_granted]⟩

theorem keepsFast_eq (g : Geometry) (fast : Bool) (sample : Option Nat) : keepsFast g fast sample =
    (fast && (match sample with
      | some v => decide (v < g.supplyLow)
      | none => true)) := by
  cases sample with
  | none => exact (Bool.and_true fast).symm
  | some v => rfl

theorem slotsFor_eq (g : Geometry) {level : SupplyLevel} (h : level ≠ .critical) :
    slotsFor g level = if level = .normal then g.slotsNormal else g.slotsLow := by
  cases level with
  | normal => rfl
  | low => rfl
  | critical => exact absurd rfl h

/-- Settles O40: by what each change of level makes of the arms, and the closed form of every other sample. -/
theorem criticalSupplyHoldsAndReleasesTheArms : Obligations.CriticalSupplyHoldsAndReleasesTheArms := by
  refine ⟨fun g i => ⟨rfl, rfl, rfl, supplyReading_eq g i⟩, fun s i level hrun hlevel => ⟨fun hold hnew => ?_, fun hold hnew => ?_,
    fun hold hnew => supplySample_answers hrun (released_by_supply hlevel hold hnew), fun fast hfast => ⟨fun hold hnew hne => ?_, fun hsame => ?_⟩⟩⟩
  · subst hnew
    refine supplySample_answers hrun ?_
    obtain ⟨v, hflow, hstanding, hqueue, hkept, hheld, hends⟩ := sampleSupply_enters hlevel hold
    have hagrees : s.flowAgrees → (publish s (s.sampleSupply i)).flowAgrees := flowAgrees_exec (c := .supplySample i) (act_running hrun fun s => s.sampleSupply i)
    obtain ⟨m, hpublished, hram, -⟩ := publish_ram s (s.sampleSupply i)
    rw [hends] at hpublished hram hagrees ⊢
    rw [hpublished] at hagrees ⊢
    have quiet : ∀ a, (s.rotor (rotorOf a)).drive = .ready → (s.arm a).state ≠ .parked → (s.arm a).state ≠ .out →
        (v.arm a).commanded = 0 ∧ (v.arm a).flow.isWaiting = false ∧ (v.arm a).flow.isInFlight = false := fun a hready hparked hout => by
      rw [hheld a hready]
      exact heldVented_quiet hparked hout
    refine ⟨congrArg Supply.level hflow.supply, hflow.slots, ?_, ?_, ?_, fun a ha => ?_, fun a => ?_, quiet, fun a hready => ?_, hkept,
      fun hs => lists_empty (hagrees hs) fun a => ?_⟩
    · exact congrArg (fun h : HoldCauses => h.put .supplyCritical true) hflow.holds
    · exact (State.pendingCause_raise _ .supply .supply).trans (by rw [decide_eq_true rfl, Bool.true_or])
    · exact congrArg (fun l : List Record => l.map fun q => if underTools .r1 q || underTools .r2 q then { q with stall := true } else q) hqueue
    · exact (hram a ha).trans (congrArg (fun m : Memory => m.read a) hflow.2)
    · exact hstanding.state a
    · exact (heldVented_iff _ _).mpr (hheld a hready)
    · by_cases hready : (s.rotor (rotorOf a)).drive = .ready
      · by_cases hpo : (s.arm a).state = .parked ∨ (s.arm a).state = .out
        · have hidle := idle_of_fits (hs.1 a) hpo
          have hsame : v.arm a = s.arm a := (hheld a hready).trans (if_pos hpo)
          exact quiet_of_idle (hsame ▸ hidle : (v.arm a).flow = .idle)
        · exact (quiet a hready (not_or.mp hpo).1 (not_or.mp hpo).2).2
      · have hsame := hs.2.1 a (ventHeld_of_drive hready)
        rw [← hkept a hready] at hsame
        exact hsame
  · refine supplySample_answers hrun ?_
    obtain ⟨v, hflow, hstanding, hkept, hfreed, hends⟩ := sampleSupply_leaves hlevel hold hnew
    have released := released_by_supply hlevel hold hnew
    refine ⟨?_, ?_, ?_, ?_, ?_, fun a => ?_, fun a aperture wake hready hdeferred => flow_of_released ((released a).1 hready) hdeferred⟩
    · rw [supply_publish, level_sampleSupply]; exact hlevel
    · rw [arbiter_publish, hends, (FlowOnly.arbitrate _).slots]
      exact hflow.slots
    · rw [holds_publish, hends, (FlowOnly.arbitrate _).holds]
      exact congrArg (fun h : HoldCauses => h.put .supplyCritical false) hflow.holds
    · rw [hends, pendingCause_publish_arbitrate, State.pendingCause_raise, decide_eq_true rfl, Bool.true_or]
    · rw [hends]
      exact framesKept_publish_arbitrate hflow.2
    · rw [arm_publish, hends, (StandingKept.arbitrate _).state]
      exact hstanding.state a
  · refine reaches_of_act (f := fun s => s.sampleSupply i) rfl hrun ?_
    rw [sampleSupply_changed hlevel hne, deliverLevel_between _ hold hnew]
    obtain rfl : fast = keepsFast s.geometry s.supply.fast (supplyReading s.geometry i) := hfast.trans (keepsFast_eq ..).symm
    rw [← slotsFor_eq _ hnew]
    rfl
  · refine reaches_of_act (f := fun s => s.sampleSupply i) rfl hrun ?_
    rw [sampleSupply_of_levelKept (hlevel.trans hsame.symm)]
    obtain rfl : fast = keepsFast s.geometry s.supply.fast (supplyReading s.geometry i) := hfast.trans (keepsFast_eq ..).symm
    rw [← hsame]
    rfl

end Sys2Proof.Machine
end

section
/-! PROOF. The drives (R167, R168): at-speed, the settle timer, and the arms of a rotor that leaves READY or becomes it. -/

namespace Sys2Proof.Machine

/-! ### Settling -/

theorem speedReached_down {s : State} {r : RotorId} (h : (s.rotor r).drive = .down) : s.speedReached r =
    (s.setAtSpeed r true).setRotor r { s.rotor r with
      atSpeed := true, drive := .settling, settle := some (s.now + s.geometry.settleTime) } := by
  have hset : (s.setAtSpeed r true).rotor r = s.rotor r := by cases r <;> rfl
  have hnow : (s.setAtSpeed r true).now = s.now := by cases r <;> rfl
  have hgeometry : (s.setAtSpeed r true).geometry = s.geometry := by cases r <;> rfl
  unfold State.speedReached
  dsimp only
  rw [hset, h, hnow, hgeometry]
  unfold State.updRotor
  rw [hset]

/-- The state with the drive's at-speed lost. -/
def State.slowed (s : State) (r : RotorId) : State :=
  (s.setAtSpeed r false).setRotor r { s.rotor r with atSpeed := false, drive := .down, settle := none }

theorem slowed_eq (s : State) (r : RotorId) :
    (s.setAtSpeed r false).updRotor r (fun x => { x with atSpeed := false, drive := .down, settle := none }) = s.slowed r := by
  unfold State.slowed State.updRotor
  cases r <;> rfl

theorem speedLost_settling {s : State} {r : RotorId} (h : (s.rotor r).drive = .settling) : s.speedLost r = (s.slowed r).raise .rotor := by
  unfold State.speedLost
  simp only [slowed_eq, h]

theorem speedLost_ready {s : State} {r : RotorId} (h : (s.rotor r).drive = .ready) :
    s.speedLost r = (((s.slowed r).leaveReady r).raise .rotor).arbitrate := by
  unfold State.speedLost
  simp only [slowed_eq, h]

/-- The state with the settle timer's drive READY, its hold cause removed. -/
def State.settled (s : State) (r : RotorId) (w : Nat) : State :=
  ((({ s with now := max s.now w } : State).setRotor r { s.rotor r with drive := .ready, settle := none }).putHold (downCause r) false).raise
    .rotor

theorem settleExpired_some {s : State} {r : RotorId} {w : Nat} (h : (s.rotor r).settle = some w) : s.settleExpired r =
    (if s.supply.level = .critical then s.settled r w else (armsOf r).foldl State.endHold (s.settled r w)).arbitrate := by
  unfold State.settleExpired
  rw [h]
  cases r <;> rfl

theorem settleExpired_none {s : State} {r : RotorId} (h : (s.rotor r).settle = none) : s.settleExpired r = s := by
  unfold State.settleExpired
  rw [h]

theorem settled_fields (s : State) (r : RotorId) (w : Nat) : (s.settled r w).rotor r = { s.rotor r with drive := .ready, settle := none }
    ∧ (s.settled r w).now = max s.now w ∧ (s.settled r w).geometry = s.geometry ∧ (s.settled r w).arms = s.arms
    ∧ (s.settled r w).arbiter = s.arbiter ∧ (s.settled r w).ram = s.ram ∧ (s.settled r w).supply = s.supply
    ∧ (s.settled r w).holds = s.holds.put (downCause r) false ∧ (s.settled r w).queue = s.queue ∧ (s.settled r w).feed = s.feed := by
  cases r <;> exact ⟨rfl, rfl, rfl, rfl, rfl, rfl, rfl, rfl, rfl, rfl⟩

theorem FlowOnly.rotor {s t : State} (h : FlowOnly s t) (r : RotorId) :
    { t.rotor r with protection := none } = { s.rotor r with protection := none } := by
  cases r
  · exact congrArg (fun x : State => x.rotor1) h.1
  · exact congrArg (fun x : State => x.rotor2) h.1

/-- What holds in the state whose grants follow a settle timer's expiry. -/
structure Readied (s : State) (r : RotorId) (w : Nat) (v : State) : Prop where
  flow : FlowOnly (s.settled r w) v
  standing : StandingKept (s.settled r w) v
  others : ∀ a, rotorOf a ≠ r ∨ s.supply.level = .critical → v.arm a = s.arm a
  own : s.supply.level ≠ .critical → ∀ a, rotorOf a = r →
    ∃ x, TargetsKept (s.settled r w) x ∧ x.arm a = (s.settled r w).arm a ∧ v.arm a = (x.endHold a).arm a
  idle : s.supply.level = .critical → v = s.settled r w

theorem record?_settled (s : State) (r : RotorId) (w : Nat) (x : Tag) : (s.settled r w).record? x = s.record? x := by
  cases r <;> rfl

theorem targetFor_settled (s : State) (r : RotorId) (w : Nat) (a : ArmId) (q : Record) :
    (s.settled r w).targetFor a q = s.targetFor a q := by
  cases r <;> rfl

theorem arbitrate_of_no_wait {s : State} (h : s.arbiter.wait = []) : s.arbitrate = s :=
  arbitrate_of_done (.inr (choose_none.mpr fun e he => by rw [h] at he; exact nomatch he))

theorem settleExpired_readied {s : State} {r : RotorId} {w : Nat} (h : (s.rotor r).settle = some w) :
    ∃ v, Readied s r w v ∧ s.settleExpired r = v.arbitrate := by
  obtain ⟨-, -, -, harms, -⟩ := settled_fields s r w
  have harm : ∀ a, (s.settled r w).arm a = s.arm a := fun a => congrArg (fun x : Arms => x.get a) harms
  rw [settleExpired_some h]
  by_cases hcritical : s.supply.level = .critical
  · rw [if_pos hcritical]
    exact ⟨_, ⟨.refl _, .refl _, fun a _ => harm a, fun h => absurd hcritical h, fun _ => rfl⟩, rfl⟩
  · rw [if_neg hcritical]
    obtain ⟨hkept, hfreed⟩ := arm_endHolds (s.settled r w) (nodup_armsOf r)
    exact ⟨_, ⟨.foldl .endHold _ _, .foldl .endHold _ _,
      fun a ha => (hkept a fun hmem => (ha.resolve_right hcritical) ((mem_armsOf a r).mp hmem)).trans (harm a),
      fun _ a ha => hfreed a ((mem_armsOf a r).mpr ha), fun h => absurd h hcritical⟩, rfl⟩

/-! ### Leaving READY -/

/-- The state in which the rotor's arms come under vent hold: the hold cause added, the records under the tools flagged. -/
def State.unreadied (s : State) (r : RotorId) : State := ((s.slowed r).putHold (downCause r) true).flagRotorDown r

theorem leaveReady_eq (s : State) (r : RotorId) : (s.slowed r).leaveReady r =
    if s.supply.level = .critical then s.unreadied r else (armsOf r).foldl State.beginHold (s.unreadied r) := by
  cases r <;> rfl

theorem unreadied_fields (s : State) (r : RotorId) : (s.unreadied r).rotor r =
      { s.rotor r with atSpeed := false, drive := .down, settle := none }
    ∧ (s.unreadied r).now = s.now ∧ (s.unreadied r).geometry = s.geometry ∧ (s.unreadied r).arms = s.arms
    ∧ (s.unreadied r).ram = s.ram ∧ (s.unreadied r).holds = s.holds.put (downCause r) true
    ∧ (s.unreadied r).queue = s.queue.map fun q => if underTools r q then { q with rotorDown := true } else q := by
  cases r <;> exact ⟨rfl, rfl, rfl, rfl, rfl, rfl, rfl⟩

/-- What holds in the state whose grants follow a drive's leaving READY. -/
structure Unreadied (s : State) (r : RotorId) (v : State) : Prop where
  flow : FlowOnly (s.unreadied r) v
  standing : StandingKept (s.unreadied r) v
  queue : v.queue = s.queue.map fun q => if underTools r q then { q with rotorDown := true } else q
  others : ∀ a, rotorOf a ≠ r ∨ s.supply.level = .critical → v.arm a = s.arm a
  own : s.supply.level ≠ .critical → ∀ a, rotorOf a = r → v.arm a = (s.arm a).heldVented

theorem speedLost_unreadied {s : State} {r : RotorId} (h : (s.rotor r).drive = .ready) :
    ∃ v, Unreadied s r v ∧ s.speedLost r = (v.raise .rotor).arbitrate := by
  obtain ⟨-, -, -, harms, -, -, hqueue⟩ := unreadied_fields s r
  have harm : ∀ a, (s.unreadied r).arm a = s.arm a := fun a => congrArg (fun x : Arms => x.get a) harms
  rw [speedLost_ready h, leaveReady_eq]
  by_cases hcritical : s.supply.level = .critical
  · rw [if_pos hcritical]
    exact ⟨_, ⟨.refl _, .refl _, hqueue, fun a _ => harm a, fun h => absurd hcritical h⟩, rfl⟩
  · rw [if_neg hcritical]
    obtain ⟨hkept, hheld⟩ := arm_beginHolds (s.unreadied r) (nodup_armsOf r)
    exact ⟨_, ⟨.foldl .beginHold _ _, .foldl .beginHold _ _, (queue_beginHolds _ _).trans hqueue,
      fun a ha => (hkept a fun hmem => (ha.resolve_right hcritical) ((mem_armsOf a r).mp hmem)).trans (harm a),
      fun _ a ha => (hheld a ((mem_armsOf a r).mpr ha)).trans (by rw [harm])⟩, rfl⟩

/-- An arm under vent hold is granted nothing. -/
theorem GrantedOnly.of_quiet {u t : State} {a : ArmId} (h : GrantedOnly u t a) (hquiet : (u.arm a).flow.isWaiting = false) :
    t.arm a = u.arm a := by
  rcases h with h | ⟨q, hq, -⟩
  · exact h
  · rw [hq] at hquiet
    exact nomatch hquiet

theorem isWaiting_heldVented {c : Arm} (h : flowFits c.state c.flow = true) : c.heldVented.flow.isWaiting = false := by
  by_cases hpo : c.state = .parked ∨ c.state = .out
  · rw [Arm.heldVented, if_pos hpo, idle_of_fits h hpo]
    rfl
  · exact (heldVented_quiet (not_or.mp hpo).1 (not_or.mp hpo).2).2.1

theorem queue_publish (old new : State) : (publish old new).queue = new.queue := by
  obtain ⟨m, h, -⟩ := publish_ram old new
  rw [h]

theorem now_publish (old new : State) : (publish old new).now = new.now := by
  obtain ⟨m, h, -⟩ := publish_ram old new
  rw [h]

/-- Settles O41: by the state whose grants follow each change of the drive. -/
theorem driveFollowsAtSpeedAndSettleTimer : Obligations.DriveFollowsAtSpeedAndSettleTimer := by
  intro s r hrun
  have active : ∀ {u}, (if (s.rotor r).atSpeed then s else s.speedReached r) = u → Reaches (.atSpeedActive r) s u := fun h =>
    reaches_of_act (f := fun s => if (s.rotor r).atSpeed then s else s.speedReached r) rfl hrun h
  have inactive : ∀ {u}, (if (s.rotor r).atSpeed then s.speedLost r else s) = u → Reaches (.atSpeedInactive r) s u := fun h =>
    reaches_of_act (f := fun s => if (s.rotor r).atSpeed then s.speedLost r else s) rfl hrun h
  refine ⟨fun h => active (if_pos h), fun h hdown => active ((if_neg (by rw [h]; nofun)).trans (speedReached_down hdown)),
    fun h => reaches_of_act (f := fun s => s.settleExpired r) rfl hrun (settleExpired_none h), fun w hw => ?_,
    fun h => inactive (if_neg (by rw [h]; nofun)), fun h hsettling => inactive ((if_pos h).trans ?_), fun h hready => ?_⟩
  · refine answers_of_act (f := fun s => s.settleExpired r) rfl hrun ?_
    obtain ⟨v, hv, hends⟩ := settleExpired_readied hw
    obtain ⟨hrotor, hnow, hgeometry, harms, harbiter, hram, hsupply, hholds, hqueue, hfeed⟩ := settled_fields s r w
    rw [hends]
    have harm : ∀ a, (s.settled r w).arm a = s.arm a := fun a => congrArg (fun x : Arms => x.get a) harms
    have hflow : FlowOnly (s.settled r w) v.arbitrate := hv.flow.trans (.arbitrate v)
    have hfields := (hflow.rotor r).trans (by rw [hrotor])
    have hgrants : ∀ a, GrantedOnly v (publish s v.arbitrate) a := fun a => (grantedOnly_arbitrate v a).congr_arm (arm_publish ..)
    have hvnow : v.now = max s.now w := hv.flow.now.trans hnow
    have hvgeometry : v.geometry = s.geometry := hv.flow.geometry.trans hgeometry
    have released : s.supply.level ≠ .critical → ∀ a, rotorOf a = r →
        HoldReleased { s with now := max s.now w } (publish s v.arbitrate) a := fun hcritical a ha => by
      obtain ⟨x, hx, hxa, hva⟩ := hv.own hcritical a ha
      have hfree : (s.settled r w).ventHeld a = false := by
        unfold State.ventHeld
        rw [ha, hrotor, hsupply, Bool.or_eq_false_iff]
        exact ⟨beq_eq_false_iff_ne.mpr hcritical, rfl⟩
      exact holdReleased_of hx hxa hfree (harm a) (record?_settled s r w) (targetFor_settled s r w a)
        ((GrantedFrom.of_eq hva).then_only hvnow hvgeometry (hgrants a))
    refine ⟨?_, ?_, ?_, ?_, ?_, ?_, fun a => ?_, fun hcritical hnone => ?_,
      fun hcritical a aperture wake ha hdeferred => flow_of_released (released hcritical a ha) hdeferred, fun a ha => ?_, released⟩
    · rw [rotor_publish]; exact congrArg Rotor.drive hfields
    · rw [rotor_publish]; exact congrArg Rotor.settle hfields
    · rw [now_publish, hflow.now, hnow]
    · rw [holds_publish, hflow.holds, hholds]
    · rw [pendingCause_publish_arbitrate, pendingCause_congr hv.flow.cause]
      exact (State.pendingCause_raise _ .rotor .rotor).trans (by rw [decide_eq_true rfl, Bool.true_or])
    · exact framesKept_publish_arbitrate (hv.flow.2.trans hram)
    · rw [arm_publish, (StandingKept.arbitrate v).state, hv.standing.state, harm]
    · have hstays : v.arbitrate = v := by
        rw [hv.idle hcritical]
        exact arbitrate_of_no_wait (by rw [harbiter, hnone])
      refine Arms.ext_get fun a => ?_
      have harms := hv.others a (.inr hcritical)
      rw [← arm_publish s v a] at harms
      rw [hstays]
      exact harms
    · exact (GrantedOnly.of_arm (s := { s with now := max s.now w }) (hv.others a ha)).trans hvnow hvgeometry (hgrants a)
  · rw [speedLost_settling hsettling]
    cases r <;> rfl
  · refine answers_of_act (f := fun s => if (s.rotor r).atSpeed then s.speedLost r else s) rfl hrun ?_
    obtain ⟨v, hv, hends⟩ := speedLost_unreadied hready
    obtain ⟨hrotor, hnow, hgeometry, harms, hram, hholds, hqueue⟩ := unreadied_fields s r
    rw [if_pos h, hends]
    have harm : ∀ a, (s.unreadied r).arm a = s.arm a := fun a => congrArg (fun x : Arms => x.get a) harms
    have hflow : FlowOnly (v.raise .rotor) (v.raise .rotor).arbitrate := .arbitrate _
    have hfields : { (v.raise .rotor).arbitrate.rotor r with protection := none } =
        { s.rotor r with atSpeed := false, drive := .down, settle := none, protection := none } :=
      (hflow.rotor r).trans ((hv.flow.rotor r).trans (by rw [hrotor]))
    have hgrants : ∀ a, GrantedOnly v (publish s (v.raise .rotor).arbitrate) a := fun a =>
      GrantedFrom.congr_arm (t := (v.raise .rotor).arbitrate) (grantedOnly_arbitrate (v.raise .rotor) a) (arm_publish ..)
    refine ⟨?_, ?_, ?_, ?_, ?_, ?_, fun a => ?_, fun hcritical a ha hparked hout => ?_, fun hcritical hagrees a ha => ?_,
      fun a ha => ?_, framesKept_publish_arbitrate (hv.flow.2.trans hram)⟩
    · rw [rotor_publish]; exact congrArg Rotor.drive hfields
    · rw [rotor_publish]; exact congrArg Rotor.atSpeed hfields
    · rw [rotor_publish]; exact congrArg Rotor.settle hfields
    · rw [holds_publish, hflow.holds]; exact hv.flow.holds.trans hholds
    · rw [pendingCause_publish_arbitrate, State.pendingCause_raise, decide_eq_true rfl, Bool.true_or]
    · rw [queue_publish, queue_arbitrate]; exact hv.queue
    · rw [arm_publish, (StandingKept.arbitrate _).state, ← harm a]; exact hv.standing.state a
    · have hheld := heldVented_quiet hparked hout
      rw [← hv.own hcritical a ha] at hheld
      rwa [(hgrants a).of_quiet hheld.2.1]
    · have hheld := hv.own hcritical a ha
      have hquiet : (v.arm a).flow.isWaiting = false := by rw [hheld]; exact isWaiting_heldVented (hagrees.1 a)
      exact (heldVented_iff _ _).mpr (((hgrants a).of_quiet hquiet).trans hheld)
    · exact (GrantedOnly.of_arm (hv.others a ha)).trans (hv.flow.now.trans hnow) (hv.flow.geometry.trans hgeometry) (hgrants a)

end Sys2Proof.Machine
end

section
/-! PROOF. Arms that return to service (R131), one after another: what they bring to their rotor's count, to usability and to the records
(R132, R169, R78). -/

namespace Sys2Proof.Machine

/-! ### Usability along a rising count -/

/-- A rising count that ends at the usability it began with has kept it all along. -/
theorem usability_between {n m l : Nat} (hnm : n ≤ m) (hml : m ≤ l) (hl : l ≤ 5) (h : usabilityOf l = usabilityOf n) :
    usabilityOf m = usabilityOf n := by
  have all : ∀ l < 6, ∀ m < l + 1, ∀ n < m + 1, usabilityOf l = usabilityOf n → usabilityOf m = usabilityOf n := by decide
  exact all l (by omega) m (by omega) n (by omega) h

/-- A count that rises to another usability is above 2. -/
theorem usable_of_rise {n : Nat} (hn : n + 1 ≤ 5) (h : usabilityOf (n + 1) ≠ usabilityOf n) : ¬ n + 1 ≤ 2 := by
  intro hle
  have hnew := (usability_iff hn).2.2.mpr hle
  have hold := (usability_iff (Nat.le_of_succ_le hn)).2.2.mpr (by omega)
  exact h (hnew.trans hold.symm)

/-! ### The relation -/

/-- From `s` to `u`, `k` arms of a rotor have returned to service, and requests, moves and targets have changed; nothing else. -/
structure ReturnsTo (r : RotorId) (k : Nat) (s u : State) : Prop where
  beside : { u.withoutFlow with holds := s.holds, cause := s.cause, queue := s.queue.map Record.withoutTargets } = s.withoutFlow
  ram : u.ram = s.ram
  count : u.activeCount r = s.activeCount r + k
  other : ∀ p, p ≠ r → u.activeCount p = s.activeCount p
  holds : u.holds = if usabilityOf (u.activeCount r) = usabilityOf (s.activeCount r) then s.holds
    else s.holds.put (unusableCause r) false
  causes : ∀ c, u.pendingCause c =
    (s.pendingCause c || decide (c = .rotor ∧ usabilityOf (u.activeCount r) ≠ usabilityOf (s.activeCount r)))
  queue : u.queue.map Record.withoutTargets = if k = 0 then s.queue.map Record.withoutTargets
    else s.queue.map fun q => (q.countedAt r (s.activeCount r + 1)).withoutTargets

theorem countedAt_again (q : Record) (r : RotorId) {n m : Nat} (h : n ≤ m) :
    (q.countedAt r n).countedAt r m = q.countedAt r n := by
  have hmin : ∀ w : RotorView, (w.minActive.map fun k => min k n).map (fun k => min k m) = w.minActive.map fun k => min k n := by
    intro w
    rw [Option.map_map]
    exact congrFun (congrArg Option.map (funext fun k => by simp only [Function.comp]; omega)) w.minActive
  by_cases hphase : q.phase r = .approach ∨ q.phase r = .passed
  · have hsame : ∀ l, q.countedAt r l = q := fun l => if_pos hphase
    rw [hsame, hsame]
  · have hlow : ∀ l, q.countedAt r l = q.updView r fun w => { w with minActive := w.minActive.map fun k => min k l } :=
      fun l => if_neg hphase
    have hstill : ¬ ((q.countedAt r n).phase r = .approach ∨ (q.countedAt r n).phase r = .passed) := by
      rw [hlow]
      cases r <;> exact hphase
    rw [Record.countedAt, if_neg hstill, hlow]
    cases r with
    | r1 => exact congrArg (fun k => { q with view1 := { q.view1 with minActive := k } }) (hmin q.view1)
    | r2 => exact congrArg (fun k => { q with view2 := { q.view2 with minActive := k } }) (hmin q.view2)

/-- Acts of the flow alone bring no arm back. -/
theorem ReturnsTo.of_flow {s u : State} (h : FlowOnly s u) (hout : ∀ a, (u.arm a).state = .out ↔ (s.arm a).state = .out) (r : RotorId) :
    ReturnsTo r 0 s u := by
  have hcount : ∀ p, u.activeCount p = s.activeCount p := fun p => activeCount_congr fun a _ => hout a
  refine ⟨?_, h.2, hcount r, fun p _ => hcount p, ?_, fun c => ?_, congrArg State.queue h.1⟩
  · rw [h.1]; rfl
  · rw [hcount, if_pos rfl, h.holds]
  · rw [hcount, pendingCause_congr h.cause, decide_eq_false (fun h => h.2 rfl), Bool.or_false]

theorem ReturnsTo.refl (r : RotorId) (s : State) : ReturnsTo r 0 s s := .of_flow (.refl s) (fun _ => .rfl) r

theorem put_put_same (h : HoldCauses) (c : HoldCause) (b : Bool) : (h.put c b).put c b = h.put c b := HoldCauses.put_put h c b b

theorem ReturnsTo.trans {r : RotorId} {k j : Nat} {s u v : State} (h : ReturnsTo r k s u) (g : ReturnsTo r j u v) :
    ReturnsTo r (k + j) s v := by
  have hlast : v.activeCount r ≤ 5 := activeCount_le v r
  have hsu : s.activeCount r ≤ u.activeCount r := by rw [h.count]; omega
  have huv : u.activeCount r ≤ v.activeCount r := by rw [g.count]; omega
  refine ⟨?_, g.ram.trans h.ram, by rw [g.count, h.count, Nat.add_assoc], fun p hp => (g.other p hp).trans (h.other p hp), ?_, fun c => ?_, ?_⟩
  · exact (congrArg (fun x : State => { x with holds := s.holds, cause := s.cause, queue := s.queue.map Record.withoutTargets }) g.beside).trans
      h.beside
  · rw [g.holds, h.holds]
    by_cases hsame : usabilityOf (v.activeCount r) = usabilityOf (s.activeCount r)
    · have hmid := usability_between hsu huv hlast hsame
      rw [if_pos (hsame.trans hmid.symm), if_pos hmid, if_pos hsame]
    · rw [if_neg hsame]
      by_cases hmid : usabilityOf (u.activeCount r) = usabilityOf (s.activeCount r)
      · rw [if_pos hmid, if_neg (fun h => hsame (h.trans hmid))]
      · rw [if_neg hmid]
        split
        · rfl
        · exact put_put_same ..
  · rw [g.causes, h.causes, Bool.or_assoc, ← Bool.decide_or]
    refine congrArg (fun b => s.pendingCause c || b) (decide_eq_decide.mpr ⟨?_, fun ⟨hc, hne⟩ => ?_⟩)
    · rintro (⟨hc, hne⟩ | ⟨hc, hne⟩)
      · exact ⟨hc, fun heq => hne (usability_between hsu huv hlast heq)⟩
      · exact ⟨hc, fun heq => hne (heq.trans (usability_between hsu huv hlast heq).symm)⟩
    · by_cases hmid : usabilityOf (u.activeCount r) = usabilityOf (s.activeCount r)
      · exact .inr ⟨hc, fun heq => hne (heq.trans hmid)⟩
      · exact .inl ⟨hc, hmid⟩
  · rw [g.queue]
    have through : ∀ l : List Record, (l.map fun q => (q.countedAt r (u.activeCount r + 1)).withoutTargets) =
        (l.map Record.withoutTargets).map fun q => (q.countedAt r (u.activeCount r + 1)).withoutTargets := fun l => by
      rw [List.map_map]
      exact List.map_congr_left fun q _ => countedAt_withoutTargets ..
    rcases Nat.eq_zero_or_pos j with rfl | hj
    · rw [if_pos rfl, h.queue]
      rfl
    · rw [if_neg (by omega), if_neg (by omega), through, h.queue]
      rcases Nat.eq_zero_or_pos k with rfl | hk
      · rw [if_pos rfl, ← through, h.count]
      · rw [if_neg (by omega), List.map_map]
        refine List.map_congr_left fun q _ => ?_
        dsimp only [Function.comp]
        rw [← countedAt_withoutTargets, countedAt_again q r (by omega)]

/-- One arm returns: the state before the count's change is delivered differs in the flow alone. -/
theorem ReturnsTo.of_return {s x : State} {a : ArmId} (hflow : FlowOnly s x) (hothers : ∀ b, b ≠ a → (x.arm b).state = (s.arm b).state)
    (hout : (s.arm a).state = .out) (hin : (x.arm a).state ≠ .out) :
    ReturnsTo (rotorOf a) 1 s (x.countChanged (rotorOf a) (s.activeCount (rotorOf a))) := by
  have hstates : ∀ b, ((x.countChanged (rotorOf a) (s.activeCount (rotorOf a))).arm b).state = (x.arm b).state := fun b => by
    obtain ⟨holds, cause, hcounted⟩ := counted_fields x (rotorOf a) (s.activeCount (rotorOf a))
    rw [countChanged_eq, (StandingKept.recomputeAll ..).state, hcounted]
    rfl
  have hcounts : ∀ p, (x.countChanged (rotorOf a) (s.activeCount (rotorOf a))).activeCount p = x.activeCount p :=
    activeCount_of_states hstates
  have hrise : x.activeCount (rotorOf a) = s.activeCount (rotorOf a) + 1 :=
    (activeCount_left (s := x) (t := s) hin hout fun b hb => (hothers b hb).symm).symm
  have hrotors : ∀ p, p ≠ rotorOf a → x.activeCount p = s.activeCount p := fun p hp =>
    activeCount_congr fun b hb => by rw [hothers b fun h => hp (by rw [← hb, h])]
  have hbound := activeCount_le x (rotorOf a)
  obtain ⟨holds, cause, hcounted⟩ := counted_fields x (rotorOf a) (s.activeCount (rotorOf a))
  have hrecompute : FlowOnly (x.counted (rotorOf a) (s.activeCount (rotorOf a))) (x.countChanged (rotorOf a) (s.activeCount (rotorOf a))) :=
    countChanged_eq x .. ▸ .recomputeAll ..
  refine ⟨?_, (ram_countChanged ..).trans hflow.2, by rw [hcounts, hrise], fun p hp => by rw [hcounts, hrotors p hp], ?_, fun c => ?_, ?_⟩
  · rw [hrecompute.1, hcounted]
    exact congrArg (fun z : State => { z with holds := s.holds, cause := s.cause, queue := s.queue.map Record.withoutTargets }) hflow.1
  · rw [hcounts, hrecompute.holds]
    by_cases hsame : usabilityOf (x.activeCount (rotorOf a)) = usabilityOf (s.activeCount (rotorOf a))
    · rw [if_pos hsame, counted_same hsame]
      exact hflow.holds
    · rw [if_neg hsame, counted_changed hsame]
      rw [hrise] at hsame hbound
      have hput : decide (x.activeCount (rotorOf a) ≤ 2) = false := by
        rw [hrise]
        exact decide_eq_false (usable_of_rise hbound hsame)
      rw [hput]
      exact congrArg (fun h : HoldCauses => h.put (unusableCause (rotorOf a)) false) hflow.holds
  · rw [hcounts, pendingCause_congr hrecompute.cause]
    have hbefore : x.pendingCause c = s.pendingCause c := pendingCause_congr hflow.cause c
    by_cases hsame : usabilityOf (x.activeCount (rotorOf a)) = usabilityOf (s.activeCount (rotorOf a))
    · rw [counted_same hsame, decide_eq_false (fun h => h.2 hsame), Bool.or_false]
      exact hbefore
    · rw [counted_changed hsame, State.pendingCause_raise, ← hbefore, Bool.or_comm]
      refine congrArg (fun b => x.pendingCause c || b) (decide_eq_decide.mpr ⟨fun h => ⟨h.symm, hsame⟩, fun h => h.1.symm⟩)
  · have hqueue : (x.countChanged (rotorOf a) (s.activeCount (rotorOf a))).queue.map Record.withoutTargets =
        (x.counted (rotorOf a) (s.activeCount (rotorOf a))).queue.map Record.withoutTargets := congrArg State.queue hrecompute.1
    have hbefore : x.queue.map Record.withoutTargets = s.queue.map Record.withoutTargets := congrArg State.queue hflow.1
    have through : ∀ l : List Record, (l.map fun q => (q.countedAt (rotorOf a) (s.activeCount (rotorOf a) + 1)).withoutTargets) =
        (l.map Record.withoutTargets).map fun q => (q.countedAt (rotorOf a) (s.activeCount (rotorOf a) + 1)).withoutTargets := fun l => by
      rw [List.map_map]
      exact List.map_congr_left fun q _ => countedAt_withoutTargets ..
    rw [if_neg (by decide), hqueue, hcounted, through, ← hbefore, ← through]
    dsimp only
    rw [List.map_map, hrise]
    rfl

end Sys2Proof.Machine
end

section
/-! PROOF. Arms sent to STANDBY, one after another (R120, R131): what each holds in the end, and that the others are spared. -/

namespace Sys2Proof.Machine

/-! ### What an arm is spared -/

/-- From `s` to `u` an arm has at most been recomputed: all but its flow stays, and, unless it is ENGAGED, it and its entries as well. -/
structure Spared (a : ArmId) (s u : State) : Prop where
  standing : (u.arm a).standing = (s.arm a).standing
  arm : (s.arm a).state ≠ .engaged → u.arm a = s.arm a
  waits : (s.arm a).state ≠ .engaged → u.waitOf a = s.waitOf a
  moves : (s.arm a).state ≠ .engaged → a ∈ u.arbiter.inFlight → a ∈ s.arbiter.inFlight

theorem Spared.refl (a : ArmId) (s : State) : Spared a s s := ⟨rfl, fun _ => rfl, fun _ => rfl, fun _ => id⟩

theorem Spared.state {a : ArmId} {s u : State} (h : Spared a s u) : (u.arm a).state = (s.arm a).state := by
  have k := congrArg Arm.state h.standing
  exact k

theorem Spared.returnPending {a : ArmId} {s u : State} (h : Spared a s u) : (u.arm a).returnPending = (s.arm a).returnPending := by
  have k := congrArg Arm.returnPending h.standing
  exact k

theorem Spared.trans {a : ArmId} {s u v : State} (h : Spared a s u) (g : Spared a u v) : Spared a s v where
  standing := g.standing.trans h.standing
  arm hs := (g.arm (by rwa [h.state])).trans (h.arm hs)
  waits hs := (g.waits (by rwa [h.state])).trans (h.waits hs)
  moves hs hm := h.moves hs (g.moves (by rwa [h.state]) hm)

theorem Spared.of_eq {a : ArmId} {s u : State} (harms : u.arms = s.arms) (harbiter : u.arbiter = s.arbiter) : Spared a s u := by
  have harm : u.arm a = s.arm a := congrArg (fun x : Arms => x.get a) harms
  exact ⟨by rw [harm], fun _ => harm, fun _ => by unfold State.waitOf; rw [harbiter], fun _ => by rw [harbiter]; exact id⟩

/-- An act on another arm spares this one. -/
theorem Spared.of_other {a b : ArmId} {s u : State} (h : OneArm b s u) (hab : a ≠ b) : Spared a s u := by
  have harm := h.others a hab
  refine ⟨by rw [harm], fun _ => harm, fun _ => h.waits a hab, fun _ hm => ?_⟩
  rcases h.moves with hmoves | hmoves
  · rwa [hmoves] at hm
  · rw [hmoves] at hm
    exact List.mem_of_mem_filter hm

theorem Spared.recompute (a b : ArmId) (s : State) (forced : Bool) (k : RecomputeClass) : Spared a s (s.recompute forced k b) := by
  by_cases hab : a = b
  · subst hab
    by_cases hstate : (s.arm a).state = .engaged
    · exact ⟨(StandingKept.recompute s forced k a).arm a, fun h => absurd hstate h, fun h => absurd hstate h, fun h => absurd hstate h⟩
    · rw [recompute_of_not_engaged hstate]
      exact .refl a s
  · exact .of_other (.recompute s forced k b) hab

theorem Spared.foldl {a : ArmId} {f : State → ArmId → State} : ∀ {as : List ArmId} {s : State}, (∀ s, ∀ b ∈ as, Spared a s (f s b)) →
    Spared a s (as.foldl f s)
  | [], s, _ => .refl a s
  | b :: _, s, h => (h s b List.mem_cons_self).trans (Spared.foldl fun s c hc => h s c (List.mem_cons_of_mem _ hc))

theorem Spared.countChanged (a : ArmId) (s : State) (r : RotorId) (old : Nat) : Spared a s (s.countChanged r old) := by
  obtain ⟨holds, cause, hcounted⟩ := counted_fields s r old
  have hset : Spared a s (s.counted r old) := .of_eq (by rw [hcounted]) (by rw [hcounted])
  rw [countChanged_eq]
  exact hset.trans (.foldl fun s b _ => .recompute a b s true .byPhase)

/-- Acts on one arm after another, where an act spares every other arm: an arm is as its own act leaves it, but for what spares it. -/
theorem foldl_spared {f : State → ArmId → State} {R : State → State → Prop} (hrefl : ∀ s, R s s)
    (htrans : ∀ s t u, R s t → R t u → R s u) (hf : ∀ s a, R s (f s a)) (hspares : ∀ s a b, a ≠ b → Spared a s (f s b)) :
    ∀ {as : List ArmId} (s : State), as.Nodup → (∀ a, a ∉ as → Spared a s (as.foldl f s))
      ∧ ∀ a ∈ as, ∃ u, R s u ∧ Spared a s u ∧ Spared a (f u a) (as.foldl f s) := by
  intro as
  induction as with
  | nil => exact fun s _ => ⟨fun a _ => .refl a s, nofun⟩
  | cons b as ih =>
    intro s hnodup
    obtain ⟨hb, hnodup⟩ := List.nodup_cons.mp hnodup
    obtain ⟨hkept, hdone⟩ := ih (f s b) hnodup
    refine ⟨fun a ha => ?_, fun a ha => ?_⟩
    · rw [List.mem_cons, not_or] at ha
      exact (hspares s a b ha.1).trans (hkept a ha.2)
    · rcases List.mem_cons.mp ha with rfl | ha
      · exact ⟨s, hrefl s, .refl a s, hkept a hb⟩
      · obtain ⟨u, hR, hbefore, hafter⟩ := hdone a ha
        exact ⟨u, htrans _ _ _ (hf s b) hR, (hspares s a b fun hab => hb (hab ▸ ha)).trans hbefore, hafter⟩

/-! ### STANDBY -/

/-- What an arm sent to STANDBY holds, in a state that lists nothing of it. -/
structure AtStandby (c : Arm) (u : State) (a : ArmId) (release : Nat) : Prop where
  state : (u.arm a).state = .standby
  tag : (u.arm a).tag = none
  target : (u.arm a).target = release
  commanded : (u.arm a).commanded ≤ release
  flow : (u.arm a).flow = .idle
  returned : c.state = .out → (u.arm a).outCause = none ∧ (u.arm a).returnPending = false ∧ (u.arm a).inserted = false
  exact : c.state ≠ .engaged → u.arm a = c.sentToStandby release
  unlisted : Unlisted u a

/-- The arm once it is STANDBY. -/
def Arm.standbyAt (c : Arm) (release : Nat) : Arm := { (c.ventedTo release).leave with state := .standby, tag := none, target := release }

theorem arm_toStandby {s : State} {a : ArmId} (hparked : (s.arm a).state ≠ .parked) (hout : (s.arm a).state ≠ .out) :
    (s.toStandby a).arm a = (s.arm a).standbyAt (releaseTarget s.geometry) ∧ Unlisted (s.toStandby a) a := by
  have hacts : s.toStandby a = (s.vent a (releaseTarget s.geometry)).updArm a fun c =>
      { c.leave with state := .standby, tag := none, target := releaseTarget s.geometry } := by
    unfold State.toStandby
    split
    · exact absurd (by assumption) hparked
    · exact absurd (by assumption) hout
    · rfl
  have hvented : (s.vent a (releaseTarget s.geometry)).arm a = (s.arm a).ventedTo (releaseTarget s.geometry) :=
    arm_self_of_set (arms_vent s a _)
  rw [hacts]
  refine ⟨?_, (unlisted_vent s a (releaseTarget s.geometry)).congr rfl⟩
  unfold State.updArm
  rw [State.arm_setArm_self, hvented]
  rfl

theorem toStandby_stays {s : State} {a : ArmId} (h : (s.arm a).state = .parked ∨ (s.arm a).state = .out) : s.toStandby a = s := by
  unfold State.toStandby
  rcases h with h | h
  · rw [h]
  · rw [h]

theorem leave_of_not_engaged {c : Arm} (h : c.state ≠ .engaged) : c.leave = c := if_neg h

theorem Arm.standbyAt_fields (c : Arm) (release : Nat) : (c.standbyAt release).state = .standby ∧ (c.standbyAt release).tag = none
    ∧ (c.standbyAt release).target = release ∧ (c.standbyAt release).commanded ≤ release ∧ (c.standbyAt release).flow = .idle := by
  obtain ⟨relief, monitor, hleave⟩ := leave_eq (c.ventedTo release)
  unfold Arm.standbyAt
  rw [hleave]
  exact ⟨rfl, rfl, rfl, Nat.min_le_right .., rfl⟩

/-- An arm in service sent to STANDBY. -/
theorem atStandby_toStandby {s : State} {a : ArmId} (hparked : (s.arm a).state ≠ .parked) (hout : (s.arm a).state ≠ .out) :
    AtStandby (s.arm a) (s.toStandby a) a (releaseTarget s.geometry) := by
  obtain ⟨harm, hunlisted⟩ := arm_toStandby hparked hout
  obtain ⟨hstate, htag, htarget, hcommanded, hflow⟩ := (s.arm a).standbyAt_fields (releaseTarget s.geometry)
  rw [← harm] at hstate htag htarget hcommanded hflow
  refine ⟨hstate, htag, htarget, hcommanded, hflow, fun h => absurd h hout, fun h => ?_, hunlisted⟩
  rw [harm]
  unfold Arm.standbyAt Arm.sentToStandby
  rw [leave_of_not_engaged (c := (s.arm a).ventedTo _) h, if_neg hout, if_neg hout, if_neg hout]
  rfl

/-- The arm that returns, before its count's change is delivered (R131). -/
def State.backToStandby (s : State) (a : ArmId) : State :=
  (s.updArm a fun c =>
    { c with state := .standby, outCause := none, returnPending := false, inserted := false, valve := .energized }).toStandby a

theorem returnToStandby_eq (s : State) (a : ArmId) :
    s.returnToStandby a = (s.backToStandby a).countChanged (rotorOf a) (s.activeCount (rotorOf a)) := rfl

theorem flowOnly_backToStandby (s : State) (a : ArmId) : FlowOnly s (s.backToStandby a) := (FlowOnly.updArm s a _).trans (.toStandby _ a)

theorem oneArm_backToStandby (s : State) (a : ArmId) : OneArm a s (s.backToStandby a) := (OneArm.updArm s a _).trans (.toStandby _ a)

theorem atStandby_backToStandby {s : State} {a : ArmId} (hout : (s.arm a).state = .out) :
    AtStandby (s.arm a) (s.backToStandby a) a (releaseTarget s.geometry) := by
  have hset : (s.updArm a fun c => { c with
      state := .standby, outCause := none, returnPending := false, inserted := false, valve := .energized }).arm a = { s.arm a with
      state := .standby, outCause := none, returnPending := false, inserted := false, valve := .energized } := State.arm_setArm_self ..
  obtain ⟨harm, hunlisted⟩ := arm_toStandby (s := s.updArm a fun c => { c with
      state := .standby, outCause := none, returnPending := false, inserted := false, valve := .energized }) (a := a)
    (by rw [hset]; nofun) (by rw [hset]; nofun)
  have hexact : (s.backToStandby a).arm a = (s.arm a).sentToStandby (releaseTarget s.geometry) := by
    refine harm.trans ?_
    rw [hset]
    unfold Arm.standbyAt Arm.sentToStandby
    rw [leave_of_not_engaged (by nofun), if_pos hout, if_pos hout, if_pos hout]
    rfl
  refine ⟨?_, ?_, ?_, ?_, ?_, fun _ => ⟨?_, ?_, ?_⟩, fun _ => hexact, hunlisted⟩
  · rw [hexact]; rfl
  · rw [hexact]; rfl
  · rw [hexact]; rfl
  · rw [hexact]; exact Nat.min_le_right ..
  · rw [hexact]; rfl
  · rw [hexact]; exact if_pos hout
  · rw [hexact]; exact if_pos hout
  · rw [hexact]; exact if_pos hout

/-- An arm at STANDBY is left there by whatever spares it. -/
theorem AtStandby.spared {c : Arm} {u v : State} {a : ArmId} {release : Nat} (h : AtStandby c u a release) (k : Spared a u v) :
    AtStandby c v a release := by
  have hne : (u.arm a).state ≠ .engaged := by rw [h.state]; decide
  have harm := k.arm hne
  refine ⟨by rw [harm, h.state], by rw [harm, h.tag], by rw [harm, h.target], by rw [harm]; exact h.commanded, by rw [harm, h.flow],
    fun hout => by rw [harm]; exact h.returned hout, fun hs => by rw [harm]; exact h.exact hs, ⟨(k.waits hne).trans h.unlisted.waits, ?_⟩⟩
  exact List.count_eq_zero.mpr fun hmem => List.count_eq_zero.mp h.unlisted.moves (k.moves hne hmem)

/-! ### One arm of a rotor without a current record -/

/-- The arm is sent to STANDBY: one that returns, or one in service whose state is among those named. -/
def State.goesStandby (s : State) (which : ArmState → Bool) (a : ArmId) : Prop :=
  (s.arm a).state = .out ∧ (s.arm a).returnPending = true ∨ (s.arm a).state ≠ .out ∧ (s.arm a).state ≠ .parked ∧ which (s.arm a).state = true

theorem idleStandby_stays {s : State} {which : ArmState → Bool} {a : ArmId} (h : ¬ s.goesStandby which a) : s.idleStandby which a = s := by
  obtain ⟨hreturn, hservice⟩ := not_or.mp h
  unfold State.idleStandby
  by_cases hout : (s.arm a).state = .out
  · rw [if_pos hout, if_neg fun hr => hreturn ⟨hout, hr⟩]
  · rw [if_neg hout]
    by_cases hwhich : which (s.arm a).state = true
    · rw [if_pos hwhich]
      exact toStandby_stays (.inl (by_contra fun hparked => hservice ⟨hout, hparked, hwhich⟩))
    · rw [if_neg hwhich]

theorem idleStandby_returns {s : State} {which : ArmState → Bool} {a : ArmId} (hout : (s.arm a).state = .out)
    (hr : (s.arm a).returnPending = true) : s.idleStandby which a = s.returnToStandby a := by
  unfold State.idleStandby
  rw [if_pos hout, if_pos hr]

theorem idleStandby_service {s : State} {which : ArmState → Bool} {a : ArmId} (hout : (s.arm a).state ≠ .out)
    (hwhich : which (s.arm a).state = true) : s.idleStandby which a = s.toStandby a := by
  unfold State.idleStandby
  rw [if_neg hout, if_pos hwhich]

theorem atStandby_idleStandby {s : State} {which : ArmState → Bool} {a : ArmId} (h : s.goesStandby which a) :
    AtStandby (s.arm a) (s.idleStandby which a) a (releaseTarget s.geometry) := by
  rcases h with ⟨hout, hr⟩ | ⟨hout, hparked, hwhich⟩
  · rw [idleStandby_returns hout hr, returnToStandby_eq]
    exact (atStandby_backToStandby hout).spared (.countChanged ..)
  · rw [idleStandby_service hout hwhich]
    exact atStandby_toStandby hparked hout

theorem Spared.idleStandby (which : ArmState → Bool) (s : State) {a b : ArmId} (hab : a ≠ b) : Spared a s (s.idleStandby which b) := by
  unfold State.idleStandby
  split
  · split
    · rw [returnToStandby_eq]
      exact (Spared.of_other (oneArm_backToStandby s b) hab).trans (.countChanged ..)
    · exact .refl a s
  · split
    · exact .of_other (.toStandby s b) hab
    · exact .refl a s

theorem state_toStandby_out (s : State) (a b : ArmId) : ((s.toStandby a).arm b).state = .out ↔ (s.arm b).state = .out := by
  by_cases hpo : (s.arm a).state = .parked ∨ (s.arm a).state = .out
  · rw [toStandby_stays hpo]
  · obtain ⟨hparked, hout⟩ := not_or.mp hpo
    by_cases hb : b = a
    · subst hb
      rw [(atStandby_toStandby hparked hout).state]
      exact ⟨nofun, fun h => absurd h hout⟩
    · rw [(OneArm.toStandby s a).others b hb]

/-- The arms that return among some: those OUT with return-pending. -/
def State.returningOf (s : State) (as : List ArmId) : List ArmId :=
  as.filter fun a => decide ((s.arm a).state = .out) && (s.arm a).returnPending

/-- One arm's turn: whether it returns. -/
theorem returnsTo_idleStandby (which : ArmState → Bool) (s : State) (a : ArmId) :
    ReturnsTo (rotorOf a) (s.returningOf [a]).length s (s.idleStandby which a) := by
  unfold State.returningOf
  by_cases hr : (s.arm a).state = .out ∧ (s.arm a).returnPending = true
  · obtain ⟨hout, hpending⟩ := hr
    rw [List.filter_cons_of_pos (by rw [hpending, decide_eq_true hout]; rfl), idleStandby_returns hout hpending, returnToStandby_eq]
    refine .of_return (flowOnly_backToStandby s a) (fun b hb => by rw [(oneArm_backToStandby s a).others b hb]) hout ?_
    rw [(atStandby_backToStandby hout).state]
    decide
  · rw [List.filter_cons_of_neg (by rw [Bool.and_eq_true, decide_eq_true_iff]; exact hr)]
    by_cases hout : (s.arm a).state = .out
    · have hstays : s.idleStandby which a = s := idleStandby_stays fun h => h.elim hr fun h => h.1 hout
      rw [hstays]
      exact .refl ..
    · unfold State.idleStandby
      rw [if_neg hout]
      split
      · exact .of_flow (.toStandby s a) (state_toStandby_out s a) _
      · exact .refl ..

theorem returningOf_spared {s u : State} {as : List ArmId} (h : ∀ a ∈ as, Spared a s u) : u.returningOf as = s.returningOf as := by
  refine List.filter_congr fun a ha => ?_
  rw [(h a ha).state, (h a ha).returnPending]

/-- Every arm's turn, of some arms of a rotor. -/
theorem returnsTo_foldl {f : State → ArmId → State} {r : RotorId} (hf : ∀ s a, rotorOf a = r → ReturnsTo r (s.returningOf [a]).length s (f s a))
    (hspares : ∀ s a b, a ≠ b → Spared a s (f s b)) : ∀ {as : List ArmId} {s : State}, as.Nodup → (∀ a ∈ as, rotorOf a = r) →
      ReturnsTo r (s.returningOf as).length s (as.foldl f s)
  | [], s, _, _ => .refl r s
  | a :: as, s, hnodup, hrotor => by
    obtain ⟨ha, hnodup⟩ := List.nodup_cons.mp hnodup
    have hfirst := hf s a (hrotor a List.mem_cons_self)
    have hrest := returnsTo_foldl hf hspares (as := as) (s := f s a) hnodup fun b hb => hrotor b (List.mem_cons_of_mem _ hb)
    rw [returningOf_spared fun b hb => hspares s b a fun hba => ha (hba ▸ hb)] at hrest
    have hlength : (s.returningOf (a :: as)).length = (s.returningOf [a]).length + (s.returningOf as).length := by
      rw [← List.length_append]
      unfold State.returningOf
      rw [← List.filter_append]
      rfl
    rw [hlength]
    exact hfirst.trans hrest

end Sys2Proof.Machine
end

section
/-! PROOF. A rotor, or both, sent to STANDBY (R172, R189), and the modes and TRACK_CLEAR that do it. -/

namespace Sys2Proof.Machine

/-! ### One rotor -/

theorem ReturnsTo.geometry {r : RotorId} {k : Nat} {s u : State} (h : ReturnsTo r k s u) : u.geometry = s.geometry := by
  have g := congrArg State.geometry h.beside
  exact g

theorem ReturnsTo.now {r : RotorId} {k : Nat} {s u : State} (h : ReturnsTo r k s u) : u.now = s.now := by
  have g := congrArg State.now h.beside
  exact g

theorem ReturnsTo.slots {r : RotorId} {k : Nat} {s u : State} (h : ReturnsTo r k s u) : u.arbiter.slots = s.arbiter.slots := by
  have g := congrArg (fun z : State => z.arbiter.slots) h.beside
  exact g

theorem ReturnsTo.rotor {r : RotorId} {k : Nat} {s u : State} (h : ReturnsTo r k s u) (p : RotorId) :
    { u.rotor p with protection := none } = { s.rotor p with protection := none } := by
  cases p with
  | r1 =>
    have g := congrArg (fun z : State => z.rotor1) h.beside
    exact g
  | r2 =>
    have g := congrArg (fun z : State => z.rotor2) h.beside
    exact g

theorem ReturnsTo.park {r : RotorId} {k : Nat} {s u : State} (h : ReturnsTo r k s u) (p : RotorId) : (u.rotor p).park = (s.rotor p).park := by
  have g := congrArg Rotor.park (h.rotor p)
  exact g

theorem ReturnsTo.queue_nil {r : RotorId} {k : Nat} {s u : State} (h : ReturnsTo r k s u) (hs : s.queue = []) : u.queue = [] := by
  have g := h.queue
  rw [hs] at g
  exact List.map_eq_nil_iff.mp (g.trans (ite_self _))

theorem Spared.goes_iff {a : ArmId} {s u : State} (h : Spared a s u) (which : ArmState → Bool) :
    u.goesStandby which a ↔ s.goesStandby which a := by
  unfold State.goesStandby
  rw [h.state, h.returnPending]

theorem AtStandby.of_spared {a : ArmId} {s u v : State} {release : Nat} (h : AtStandby (u.arm a) v a release) (k : Spared a s u) :
    AtStandby (s.arm a) v a release :=
  ⟨h.state, h.tag, h.target, h.commanded, h.flow, fun hs => h.returned (k.state.trans hs),
    fun hs => (h.exact (by rwa [k.state])).trans (by rw [k.arm hs]), h.unlisted⟩

/-- The arms of a rotor, each in its turn sent to STANDBY or left. -/
def State.standbyArms (s : State) (r : RotorId) (which : ArmState → Bool) : State := (armsOf r).foldl (State.idleStandby which) s

theorem returnsTo_standbyArms (s : State) (r : RotorId) (which : ArmState → Bool) :
    ReturnsTo r (s.returning r).length s (s.standbyArms r which) :=
  returnsTo_foldl (fun s a ha => ha ▸ returnsTo_idleStandby which s a) (fun s _ _ hab => .idleStandby which s hab) (nodup_armsOf r)
    fun a ha => (mem_armsOf a r).mp ha

/-- What each arm has become. -/
theorem arm_standbyArms (s : State) (r : RotorId) (which : ArmState → Bool) (a : ArmId) :
    (rotorOf a = r → s.goesStandby which a → AtStandby (s.arm a) (s.standbyArms r which) a (releaseTarget s.geometry))
      ∧ (¬ (rotorOf a = r ∧ s.goesStandby which a) → Spared a s (s.standbyArms r which)) := by
  obtain ⟨hkept, hdone⟩ := foldl_spared (f := State.idleStandby which) (R := fun s u => u.geometry = s.geometry) (fun _ => rfl)
    (fun _ _ _ h k => k.trans h) (fun s a => (returnsTo_idleStandby which s a).geometry) (fun s _ _ hab => .idleStandby which s hab) s
    (nodup_armsOf r)
  refine ⟨fun ha hgoes => ?_, fun hstays => ?_⟩
  · obtain ⟨u, hgeometry, hbefore, hafter⟩ := hdone a ((mem_armsOf a r).mpr ha)
    have hat := atStandby_idleStandby ((hbefore.goes_iff which).mpr hgoes)
    rw [hgeometry] at hat
    exact (hat.of_spared hbefore).spared hafter
  · by_cases ha : a ∈ armsOf r
    · obtain ⟨u, -, hbefore, hafter⟩ := hdone a ha
      rw [idleStandby_stays fun h => hstays ⟨(mem_armsOf a r).mp ha, (hbefore.goes_iff which).mp h⟩] at hafter
      exact hbefore.trans hafter
    · exact hkept a ha

theorem queue_toStandby (s : State) (a : ArmId) : (s.toStandby a).queue = s.queue := by
  unfold State.toStandby
  split <;> rfl

/-- Where no arm returns the records stay. -/
theorem queue_standbyArms {which : ArmState → Bool} : ∀ {as : List ArmId} {s : State}, as.Nodup →
    (∀ a ∈ as, (s.arm a).state = .out → (s.arm a).returnPending = false) → (as.foldl (State.idleStandby which) s).queue = s.queue
  | [], _, _, _ => rfl
  | a :: as, s, hnodup, hnone => by
    obtain ⟨ha, hnodup⟩ := List.nodup_cons.mp hnodup
    have hfirst : (s.idleStandby which a).queue = s.queue := by
      unfold State.idleStandby
      by_cases hout : (s.arm a).state = .out
      · rw [if_pos hout, if_neg (by rw [hnone a List.mem_cons_self hout]; nofun)]
      · rw [if_neg hout]
        split
        · exact queue_toStandby s a
        · rfl
    refine (queue_standbyArms hnodup fun b hb hout => ?_).trans hfirst
    have hspared : Spared b s (s.idleStandby which a) := .idleStandby which s fun h => ha (h ▸ hb)
    rw [hspared.returnPending]
    exact hnone b (List.mem_cons_of_mem _ hb) (hspared.state.symm.trans hout)

theorem standbyRotor_eq (s : State) (r : RotorId) (which : ArmState → Bool) :
    s.standbyRotor r which = (s.standbyArms r which).startPark r := rfl

/-- The start of a park timer, in closed form. -/
theorem startPark_fields (s : State) (r : RotorId) : (s.startPark r).arms = s.arms ∧ (s.startPark r).arbiter = s.arbiter
    ∧ (s.startPark r).queue = s.queue ∧ (s.startPark r).holds = s.holds ∧ (s.startPark r).cause = s.cause ∧ (s.startPark r).ram = s.ram
    ∧ (s.startPark r).now = s.now ∧ (s.startPark r).geometry = s.geometry
    ∧ ((s.startPark r).rotor r).park = some (s.now + s.geometry.parkDelay)
    ∧ ∀ p, { (s.startPark r).rotor p with park := none } = { s.rotor p with park := none } := by
  cases r
  · exact ⟨rfl, rfl, rfl, rfl, rfl, rfl, rfl, rfl, rfl, fun p => by cases p <;> rfl⟩
  · exact ⟨rfl, rfl, rfl, rfl, rfl, rfl, rfl, rfl, rfl, fun p => by cases p <;> rfl⟩

/-- A state with what a return to STANDBY can change as in another. -/
def State.besideStandby (t s : State) : State :=
  { t with holds := s.holds, cause := s.cause, queue := s.queue, arms := s.arms, rotor1 := s.rotor1, rotor2 := s.rotor2
           arbiter := s.arbiter, ram := s.ram }

theorem besideStandby_startPark (t : State) (r : RotorId) (s : State) : (t.startPark r).besideStandby s = t.besideStandby s := by
  cases r <;> rfl

theorem ReturnsTo.besideStandby {r : RotorId} {k : Nat} {t u : State} (h : ReturnsTo r k t u) (s : State) :
    u.besideStandby s = t.besideStandby s := by
  have g := congrArg (fun z : State => z.besideStandby s) h.beside
  exact g

theorem park_startPark_other (s : State) : (s.startPark .r2).rotor .r1 = s.rotor .r1 := rfl

/-! ### Both rotors -/

/-- Every arm but a PARKED one, and but one OUT without return-pending, is sent to STANDBY. -/
def State.sent (s : State) (a : ArmId) : Prop := s.goesStandby (fun _ => true) a

/-- From `s` to `v` the arms of both rotors have been sent to STANDBY and the park timers started. -/
structure AllSent (s v : State) : Prop where
  sent : ∀ a, s.sent a → AtStandby (s.arm a) v a (releaseTarget s.geometry)
  spared : ∀ a, ¬ s.sent a → Spared a s v
  counted : ReturnsCounted s v
  holds : v.holds = { s.holds with rotor1Unusable := v.holds.rotor1Unusable, rotor2Unusable := v.holds.rotor2Unusable }
  park : ∀ r, (v.rotor r).park = some (s.now + s.geometry.parkDelay)
  rotor : ∀ r, { v.rotor r with park := none, protection := none } = { s.rotor r with park := none, protection := none }
  slots : v.arbiter.slots = s.arbiter.slots
  now : v.now = s.now
  geometry : v.geometry = s.geometry
  ram : v.ram = s.ram
  queue : s.queue = [] ∨ s.noneReturns → v.queue = s.queue
  rest : v.besideStandby s = s

theorem allSent_standbyAll (s : State) : AllSent s s.standbyAll := by
  have h1 := returnsTo_standbyArms s .r1 fun _ => true
  obtain ⟨u, hu⟩ : ∃ u, u = (s.standbyArms .r1 fun _ => true).startPark .r1 := ⟨_, rfl⟩
  have h2 := returnsTo_standbyArms u .r2 fun _ => true
  have hall : s.standbyAll = (u.standbyArms .r2 fun _ => true).startPark .r2 := by rw [hu]; rfl
  obtain ⟨arms1, arbiter1, queue1, holds1, cause1, ram1, now1, geometry1, park1, rotor1⟩ := startPark_fields (s.standbyArms .r1 fun _ => true) .r1
  rw [← hu] at arms1 arbiter1 queue1 holds1 cause1 ram1 now1 geometry1 park1 rotor1
  obtain ⟨arms2, arbiter2, queue2, holds2, cause2, ram2, now2, geometry2, park2, rotor2⟩ := startPark_fields (u.standbyArms .r2 fun _ => true) .r2
  rw [← hall] at arms2 arbiter2 queue2 holds2 cause2 ram2 now2 geometry2 park2 rotor2
  have first : ∀ a, Spared a (s.standbyArms .r1 fun _ => true) u := fun a => .of_eq arms1 arbiter1
  have last : ∀ a, Spared a (u.standbyArms .r2 fun _ => true) s.standbyAll := fun a => .of_eq arms2 arbiter2
  have hnow : u.now = s.now := now1.trans h1.now
  have hgeometry : u.geometry = s.geometry := geometry1.trans h1.geometry
  have hcount : ∀ r, u.activeCount r = (s.standbyArms .r1 fun _ => true).activeCount r :=
    activeCount_of_states fun a => (first a).state
  have hcount' : ∀ r, s.standbyAll.activeCount r = (u.standbyArms .r2 fun _ => true).activeCount r :=
    activeCount_of_states fun a => (last a).state
  have hr1 : s.standbyAll.activeCount .r1 = (s.standbyArms .r1 fun _ => true).activeCount .r1 := by
    rw [hcount', h2.other .r1 (by decide), hcount]
  have hr2 : u.activeCount .r2 = s.activeCount .r2 := by rw [hcount, h1.other .r2 (by decide)]
  have holdsFirst : u.holds = if usabilityOf (s.standbyAll.activeCount .r1) = usabilityOf (s.activeCount .r1) then s.holds
      else { s.holds with rotor1Unusable := false } := by
    rw [holds1, h1.holds, hr1]
    rfl
  have holdsLast : s.standbyAll.holds = if usabilityOf (s.standbyAll.activeCount .r2) = usabilityOf (s.activeCount .r2) then u.holds
      else { u.holds with rotor2Unusable := false } := by
    rw [holds2, h2.holds, hcount', hr2]
    rfl
  have rotors : ∀ r, { s.standbyAll.rotor r with park := none, protection := none } = { s.rotor r with park := none, protection := none } := by
    intro r
    calc ({ s.standbyAll.rotor r with park := none, protection := none } : Rotor)
        = { (u.standbyArms .r2 fun _ => true).rotor r with park := none, protection := none } :=
          congrArg (fun x : Rotor => { x with protection := none }) (rotor2 r)
      _ = { u.rotor r with park := none, protection := none } := congrArg (fun x : Rotor => { x with park := none }) (h2.rotor r)
      _ = { (s.standbyArms .r1 fun _ => true).rotor r with park := none, protection := none } :=
          congrArg (fun x : Rotor => { x with protection := none }) (rotor1 r)
      _ = { s.rotor r with park := none, protection := none } := congrArg (fun x : Rotor => { x with park := none }) (h1.rotor r)
  refine ⟨fun a ha => ?_, fun a ha => ?_, ⟨?_, ?_, fun c => ?_⟩, ?_, fun r => ?_, rotors, ?_, ?_, ?_, ?_, fun hq => ?_, ?_⟩
  · cases hrotor : rotorOf a with
    | r1 =>
      have hat := (arm_standbyArms s .r1 (fun _ => true) a).1 hrotor ha
      have hthen := (arm_standbyArms u .r2 (fun _ => true) a).2 fun h => by rw [hrotor] at h; exact nomatch h.1
      exact hat.spared ((first a).trans (hthen.trans (last a)))
    | r2 =>
      have hbefore := ((arm_standbyArms s .r1 (fun _ => true) a).2 fun h => by rw [hrotor] at h; exact nomatch h.1).trans (first a)
      have hat := (arm_standbyArms u .r2 (fun _ => true) a).1 hrotor ((hbefore.goes_iff _).mpr ha)
      rw [hgeometry] at hat
      exact (hat.of_spared hbefore).spared (last a)
  · have hbefore := ((arm_standbyArms s .r1 (fun _ => true) a).2 fun h => ha h.2).trans (first a)
    exact (hbefore.trans ((arm_standbyArms u .r2 (fun _ => true) a).2 fun h => ha ((hbefore.goes_iff _).mp h.2))).trans (last a)
  · rw [holdsLast]
    refine Eq.trans ?_ ((congrArg HoldCauses.rotor1Unusable holdsFirst).trans (by split <;> rfl))
    split <;> rfl
  · rw [holdsLast]
    have hkept : u.holds.rotor2Unusable = s.holds.rotor2Unusable := by
      rw [holdsFirst]
      split <;> rfl
    split
    · exact hkept
    · rfl
  · have hpending1 : u.pendingCause c = (s.standbyArms .r1 fun _ => true).pendingCause c := pendingCause_congr cause1 c
    have hpending2 : s.standbyAll.pendingCause c = (u.standbyArms .r2 fun _ => true).pendingCause c := pendingCause_congr cause2 c
    rw [hpending2, h2.causes, hpending1, h1.causes, ← hr1, ← hcount' .r2, hr2, Bool.or_assoc, ← Bool.decide_or]
    refine congrArg (fun b => s.pendingCause c || b) (decide_eq_decide.mpr ⟨?_, ?_⟩)
    · rintro (⟨hc, hne⟩ | ⟨hc, hne⟩)
      · exact ⟨hc, .r1, by decide, hne⟩
      · exact ⟨hc, .r2, by decide, hne⟩
    · rintro ⟨hc, r, -, hne⟩
      cases r with
      | r1 => exact .inl ⟨hc, hne⟩
      | r2 => exact .inr ⟨hc, hne⟩
  · rw [holdsLast, holdsFirst]
    split <;> split <;> rfl
  · cases r with
    | r1 =>
      rw [hall, park_startPark_other, h2.park, park1, h1.now, h1.geometry]
    | r2 => rw [park2, h2.now, h2.geometry, hnow, hgeometry]
  · rw [arbiter2, h2.slots, arbiter1, h1.slots]
  · rw [now2, h2.now, hnow]
  · rw [geometry2, h2.geometry, hgeometry]
  · rw [ram2, h2.ram, ram1, h1.ram]
  · rcases hq with hnil | hnone
    · have h := h2.queue_nil (queue1.trans (h1.queue_nil hnil))
      rw [queue2, h, hnil]
    · have hspared : ∀ a, a ∈ armsOf .r2 → Spared a s u := fun a ha =>
        ((arm_standbyArms s .r1 (fun _ => true) a).2 fun h => by rw [(mem_armsOf a .r2).mp ha] at h; exact nomatch h.1).trans (first a)
      have hsecond : (u.standbyArms .r2 fun _ => true).queue = u.queue := queue_standbyArms (nodup_armsOf .r2) fun a ha hout => by
        rw [(hspared a ha).returnPending]
        exact hnone a ((hspared a ha).state.symm.trans hout)
      have hfirst : (s.standbyArms .r1 fun _ => true).queue = s.queue := queue_standbyArms (nodup_armsOf .r1) fun a _ => hnone a
      rw [queue2, hsecond, queue1, hfirst]
  · rw [hall, besideStandby_startPark, h2.besideStandby, hu, besideStandby_startPark, h1.besideStandby]
    rfl

end Sys2Proof.Machine
end

section
/-! PROOF. What the modes CONFIG and SERVICE and TRACK_CLEAR send to STANDBY (R172, R189). -/

namespace Sys2Proof.Machine

/-! ### The grants after it -/

/-- The grants only shorten the wait list. -/
theorem mem_wait_arbitrate {s : State} {e : WaitEntry} (h : e ∈ s.arbitrate.arbiter.wait) : e ∈ s.arbiter.wait := by
  refine arbitrate_induction (P := fun u => e ∈ u.arbiter.wait → e ∈ s.arbiter.wait) (fun u a ih hm => ih ?_) id h
  by_cases hwaits : (u.arm a).flow.isWaiting = true
  · obtain ⟨q, hq⟩ := isWaiting_iff.mp hwaits
    rw [(grant_of_waiting hq).1] at hm
    exact List.mem_of_mem_filter hm
  · rwa [grant_of_not_waiting (Bool.eq_false_iff.mpr hwaits)] at hm

theorem sent_iff (s : State) (a : ArmId) :
    s.sent a ↔ ¬ ((s.arm a).state = .parked ∨ (s.arm a).state = .out ∧ (s.arm a).returnPending = false) := by
  unfold State.sent State.goesStandby
  by_cases hout : (s.arm a).state = .out
  · rw [hout]
    cases (s.arm a).returnPending <;> decide
  · exact ⟨fun h => h.elim (fun h => absurd h.1 hout) fun h => not_or.mpr ⟨h.2.1, fun k => hout k.1⟩,
      fun h => .inr ⟨hout, fun k => h (.inl k), rfl⟩⟩

theorem Unlisted.not_mem {s : State} {a : ArmId} (h : Unlisted s a) : (∀ e ∈ s.arbiter.wait, e.arm ≠ a) ∧ a ∉ s.arbiter.inFlight := by
  refine ⟨fun e he hea => ?_, List.count_eq_zero.mp h.moves⟩
  have hmem : e ∈ s.waitOf a := List.mem_filter.mpr ⟨he, beq_iff_eq.mpr hea⟩
  rw [h.waits] at hmem
  exact nomatch hmem

/-- The effects on all arms and both rotors, the grants after them and all else but the feed. -/
structure StandbyTaken (s : State) (feed : Feed) (t : State) : Prop where
  standby : AllStandby s t
  state : ∀ a, (t.arm a).state = if (s.arm a).state = .parked then .parked
    else if (s.arm a).state = .out ∧ (s.arm a).returnPending = false then .out else .standby
  counted : ReturnsCounted s t
  slots : t.arbiter.slots = s.arbiter.slots
  holds : t.holds = { s.holds with rotor1Unusable := t.holds.rotor1Unusable, rotor2Unusable := t.holds.rotor2Unusable }
  park : ∀ r, (t.rotor r).park = some (s.now + s.geometry.parkDelay)
  rotor : ∀ r, { t.rotor r with park := none, protection := none } = { s.rotor r with park := none, protection := none }
  queue : s.queue = [] ∨ s.noneReturns → t.queue = s.queue
  rest : t.besideStandby s = { s with feed := feed }

theorem besideStandby_of_flow {u t : State} (h : t.withoutFlow = u.withoutFlow) (s : State) : t.besideStandby s = u.besideStandby s := by
  have g := congrArg (fun z : State => z.besideStandby s) h
  exact g

theorem AllSent.feed {s v : State} (h : AllSent s v) : v.feed = s.feed := by
  have g := congrArg State.feed h.rest
  exact g

theorem standbyTaken {s v : State} (h : AllSent s v) (feed : Feed) (old : State) :
    StandbyTaken s feed (publish old { v with feed := feed }.arbitrate) := by
  obtain ⟨w, hw⟩ : ∃ w, w = { v with feed := feed } := ⟨_, rfl⟩
  have harm : ∀ a, w.arm a = v.arm a := fun a => by rw [hw]; rfl
  have harbiter : w.arbiter = v.arbiter := by rw [hw]
  have hrotor : ∀ r, w.rotor r = v.rotor r := fun r => by rw [hw]; cases r <;> rfl
  have hqueue : w.queue = v.queue := by rw [hw]
  have hbeside : ∀ x, w.besideStandby x = { v.besideStandby x with feed := feed } := fun x => by rw [hw]; rfl
  have hholds : w.holds = v.holds := by rw [hw]
  have hcause : w.cause = v.cause := by rw [hw]
  have hnow : w.now = s.now := by rw [hw, ← h.now]
  have hgeometry : w.geometry = s.geometry := by rw [hw, ← h.geometry]
  rw [← hw]
  clear hw
  have hflow := FlowOnly.arbitrate w
  have hcounts : ∀ r, (publish old w.arbitrate).activeCount r = v.activeCount r := activeCount_of_states fun a => by
    rw [arm_publish, (grantedOnly_arbitrate w a).state, harm]
  have hspared : ∀ a, ¬ s.sent a → w.arm a = s.arm a := fun a ha => (harm a).trans ((h.spared a ha).arm fun hengaged =>
    ha (.inr ⟨by rw [hengaged]; decide, by rw [hengaged]; decide, rfl⟩))
  have hat : ∀ a, s.sent a → (publish old w.arbitrate).arm a = v.arm a ∧ a ∉ (publish old w.arbitrate).arbiter.inFlight
      ∧ ∀ e ∈ (publish old w.arbitrate).arbiter.wait, e.arm ≠ a := by
    intro a ha
    obtain ⟨hwait, hmove⟩ := (h.sent a ha).unlisted.not_mem
    obtain ⟨hpasses, hin⟩ := arbitrate_passes (s := w) (a := a) (by rw [harm, (h.sent a ha).flow]; rfl) (by rwa [harbiter])
    rw [arm_publish, arbiter_publish, hpasses, harm]
    refine ⟨rfl, hin, fun e he => hwait e ?_⟩
    rw [← harbiter]
    exact mem_wait_arbitrate he
  refine ⟨fun a => ⟨fun hstays => ?_, fun hgoes release hrelease => ?_⟩, fun a => ?_, ?_, ?_, ?_, fun r => ?_, fun r => ?_, fun hq => ?_, ?_⟩
  · have hgrant := (grantedOnly_arbitrate w a).congr_arm (arm_publish old w.arbitrate a)
    exact (GrantedOnly.of_arm (hspared a fun ha => (sent_iff s a).mp ha hstays)).trans hnow hgeometry hgrant
  · obtain ⟨hthen, hin, hwaits⟩ := hat a ((sent_iff s a).mpr hgoes)
    have hstandby := h.sent a ((sent_iff s a).mpr hgoes)
    rw [hthen, hrelease]
    exact ⟨hstandby.state, hstandby.tag, hstandby.target, hstandby.commanded, hstandby.flow, hin, hwaits, hstandby.returned⟩
  · by_cases ha : s.sent a
    · obtain ⟨hparked, hout⟩ := not_or.mp ((sent_iff s a).mp ha)
      rw [(hat a ha).1, (h.sent a ha).state, if_neg hparked, if_neg hout]
    · rw [arm_publish, (grantedOnly_arbitrate w a).state, hspared a ha]
      rcases not_not.mp (mt (sent_iff s a).mpr ha) with hparked | ⟨hout, hpending⟩
      · rw [if_pos hparked, hparked]
      · rw [if_neg (by rw [hout]; decide), if_pos ⟨hout, hpending⟩, hout]
  · obtain ⟨hfirst, hlast, hcauses⟩ := h.counted
    unfold ReturnsCounted
    rw [holds_publish, hflow.holds, hholds, hcounts, hcounts]
    refine ⟨hfirst, hlast, fun c => ?_⟩
    rw [pendingCause_congr ((cause_publish old _).trans (hflow.cause.trans hcause)), hcauses]
    simp only [hcounts]
  · rw [arbiter_publish, hflow.slots, harbiter, h.slots]
  · rw [holds_publish, hflow.holds, hholds]
    exact h.holds
  · rw [rotor_publish, hflow.parkTimer, hrotor, h.park]
  · have hkept := congrArg (fun x : Rotor => { x with park := none }) (hflow.rotor r)
    rw [rotor_publish]
    refine Eq.trans hkept ?_
    rw [hrotor]
    exact h.rotor r
  · rw [queue_publish, queue_arbitrate, hqueue, h.queue hq]
  · have hrest : (publish old w.arbitrate).besideStandby s = w.besideStandby s :=
      besideStandby_of_flow (hflow.withoutFlow_publish old) s
    rw [hrest, hbeside, h.rest]

/-! ### The statements -/

theorem empty_of_allowed {s : State} {m : Mode} (h : s.modeAllowed m = true) (hm : m = .config ∨ m = .service) : s.queue = [] := by
  rcases (modeAllowed_iff s m).mp h with ⟨-, hrun, -⟩ | ⟨-, hhold⟩ | ⟨-, hrun⟩ | ⟨-, -, hqueue⟩ | ⟨-, hhold⟩ | ⟨-, -, hqueue⟩
  · rw [hrun] at hm; exact absurd hm (by decide)
  · rw [hhold] at hm; exact absurd hm (by decide)
  · rw [hrun] at hm; exact absurd hm (by decide)
  · exact hqueue
  · rw [hhold] at hm; exact absurd hm (by decide)
  · exact hqueue

/-- The feed as a mode change leaves it. -/
def State.feedIntoMode (s : State) : Feed := if s.mode = .hold then s.feed.rebase else s.feed

theorem enterMode_standby {s : State} {m : Mode} (hm : m = .config ∨ m = .service) :
    s.enterMode m = { (s.withMode m).standbyAll with feed := s.feedIntoMode }.arbitrate := by
  have hfeed : (s.withMode m).standbyAll.feed = s.feed := (allSent_standbyAll (s.withMode m)).feed
  have henter : s.enterMode m = (if s.mode = .hold then (s.withMode m).standbyAll.rebase else (s.withMode m).standbyAll).arbitrate := by
    rcases hm with rfl | rfl <;> rfl
  rw [henter]
  unfold State.feedIntoMode State.rebase
  rw [hfeed]
  generalize (s.withMode m).standbyAll = v at hfeed
  split
  · rfl
  · rw [← hfeed]

/-- What CONFIG and SERVICE leave, beside the arms, the rotors, the arbiter and the frames. -/
theorem StandbyTaken.withMode {s t : State} {m : Mode} {feed : Feed} (h : StandbyTaken (s.withMode m) feed t) (hempty : s.queue = []) :
    t.mode = m ∧ t.modeRefused = false ∧ t.feed = feed
      ∧ { t with mode := s.mode, modeRefused := s.modeRefused, holds := s.holds, cause := s.cause, feed := s.feed, arms := s.arms
                 rotor1 := s.rotor1, rotor2 := s.rotor2, arbiter := s.arbiter, ram := s.ram } = s := by
  have hmode := congrArg State.mode h.rest
  have hrefused := congrArg State.modeRefused h.rest
  have hfeed := congrArg State.feed h.rest
  have hqueue : t.queue = s.queue := h.queue (.inl hempty)
  have hrest := congrArg (fun z : State => { z with mode := s.mode, modeRefused := s.modeRefused, holds := s.holds, feed := s.feed }) h.rest
  refine ⟨hmode, hrefused, hfeed, Eq.trans ?_ hrest⟩
  unfold State.besideStandby
  dsimp only
  rw [show (s.withMode m).queue = t.queue from hqueue.symm]
  rfl

/-- Settles O45: RUN and HOLD set the mode, the flag and the hold causes only; for CONFIG and SERVICE every arm of both rotors has its turn,
and the transit queue, which the table requires to be empty, stays so. -/
theorem modeChangeHasItsEffects : Obligations.ModeChangeHasItsEffects := by
  unfold Obligations.ModeChangeHasItsEffects
  intro s m hrun
  refine ⟨fun hm => reaches_of_act (exec_requestOf m s) hrun ?_, fun hne hallowed hm => reaches_of_act (exec_requestOf m s) hrun ?_,
    fun hne hallowed hm => answers_of_act (exec_requestOf m s) hrun ?_⟩
  · exact if_pos hm
  · rw [requestMode_of_allowed hne hallowed]
    rcases hm with rfl | rfl <;> rfl
  · have hsent := allSent_standbyAll (s.withMode m)
    have hram : (s.withMode m).standbyAll.ram = s.ram := hsent.ram
    rw [requestMode_of_allowed hne hallowed, enterMode_standby hm]
    generalize (s.withMode m).standbyAll = v at hsent hram
    have htaken := standbyTaken hsent s.feedIntoMode s
    have hframes : TicketFramesKept s (publish s { v with feed := s.feedIntoMode }.arbitrate) := framesKept_publish_arbitrate hram
    generalize publish s { v with feed := s.feedIntoMode }.arbitrate = t at htaken hframes
    obtain ⟨hmode, hrefused, hfeed, hrest⟩ := htaken.withMode (empty_of_allowed hallowed hm)
    have hholds := htaken.holds
    refine ⟨hmode, hrefused, ?_, ?_, hfeed, htaken.park .r1, htaken.park .r2, htaken.state, hframes, htaken.standby, htaken.counted,
      htaken.slots, ?_, htaken.rotor, hrest⟩
    · rw [hholds]
      rcases hm with rfl | rfl <;> rfl
    · rw [hholds]
      rcases hm with rfl | rfl <;> rfl
    · rw [hholds]
      rfl

/-- The state in which TRACK_CLEAR sends the arms to STANDBY. -/
def State.unlatched (s : State) : State := { s with latch := false, holds := { s.holds with trackFault := false } }

theorem trackClear_of {s : State} (hlatch : s.latch = true) (hclear : s.feed.eyeIn.declared = .clear) :
    s.trackClear = s.unlatched.standbyAll.arbitrate := if_pos ⟨hlatch, hclear⟩

/-- What TRACK_CLEAR leaves, beside the arms, the rotors, the arbiter and the frames. -/
theorem StandbyTaken.unlatched {s t : State} {feed : Feed} (h : StandbyTaken s.unlatched feed t) :
    t.latch = false ∧ t.feed = feed ∧ t.mode = s.mode
      ∧ { t with latch := s.latch, holds := s.holds, cause := s.cause, queue := s.queue, arms := s.arms, rotor1 := s.rotor1
                 rotor2 := s.rotor2, arbiter := s.arbiter, ram := s.ram } = { s with feed := feed } := by
  have hlatch := congrArg State.latch h.rest
  have hfeed := congrArg State.feed h.rest
  have hmode := congrArg State.mode h.rest
  have hrest := congrArg (fun z : State => { z with latch := s.latch, holds := s.holds }) h.rest
  exact ⟨hlatch, hfeed, hmode, hrest⟩

/-- Settles O46: with the latch set and the infeed eye CLEAR the latch and TRACK_FAULT are cleared and every arm of both rotors has its
turn. -/
theorem trackClearNeedsAClearEye : Obligations.TrackClearNeedsAClearEye := by
  unfold Obligations.TrackClearNeedsAClearEye
  intro s hrun
  refine ⟨fun hno => reaches_of_act (f := State.trackClear) rfl hrun (if_neg ?_), fun hlatch hclear =>
    answers_of_act (f := State.trackClear) rfl hrun ?_⟩
  · rintro ⟨hlatch, hclear⟩
    rw [hlatch, hclear] at hno
    exact absurd hno (by decide)
  · have hsent := allSent_standbyAll s.unlatched
    have hfeed : s.unlatched.standbyAll.feed = s.feed := hsent.feed
    have hram : s.unlatched.standbyAll.ram = s.ram := hsent.ram
    rw [trackClear_of hlatch hclear]
    generalize s.unlatched.standbyAll = v at hsent hfeed hram
    have htaken := standbyTaken hsent v.feed s
    have hframes : TicketFramesKept s (publish s v.arbitrate) := framesKept_publish_arbitrate hram
    generalize publish s v.arbitrate = t at htaken hframes
    obtain ⟨hlatched, hfed, hmode, hrest⟩ := htaken.unlatched
    have hholds := htaken.holds
    refine ⟨hlatched, ?_, hfed.trans hfeed, hmode, htaken.park .r1, htaken.park .r2, htaken.state, hframes, htaken.standby, htaken.counted,
      htaken.slots, hholds, htaken.rotor, htaken.queue, ?_⟩
    · rw [hholds]
      rfl
    · rw [hrest, hfeed]

end Sys2Proof.Machine
end

section
/-! PROOF. Armed marks and their firing (R11, R12), the marks of the Transit Tracker (R79, R80) and the closing of a record (R81). -/

namespace Sys2Proof.Machine

/-! ### Arming -/

theorem placesAhead_armMark (n : Nat) : (State.armMark n).placesAhead := fun _ _ _ _ _ h => armMark_ahead n h

/-! ### The marks that are due -/

/-- The due mark of a record's place. -/
def State.reachedMark (s : State) (c : Client) (q : Record) : Option (Client × Record × Mark) :=
  match s.feed.marks.get c q.tag with
  | some m => if reached s.feed.peak m.position then some (c, q, m) else none
  | none => none

theorem dueMarksOf_eq (s : State) (c : Client) : s.dueMarksOf c = s.queue.filterMap (s.reachedMark c) := rfl

theorem reachedMark_none {s : State} {c : Client} {q : Record} :
    s.reachedMark c q = none ↔ ∀ m, s.feed.marks.get c q.tag = some m → s.ahead m.position := by
  unfold State.reachedMark State.ahead
  cases s.feed.marks.get c q.tag with
  | none => exact iff_of_true rfl nofun
  | some m =>
    dsimp only
    cases hreached : reached s.feed.peak m.position with
    | false => exact iff_of_true rfl fun x hx => Option.some.inj hx ▸ hreached
    | true => exact iff_of_false nofun fun h => Bool.noConfusion (hreached.symm.trans (h m rfl))

theorem reachedMark_some {s : State} {c d : Client} {q x : Record} {m : Mark} (h : s.reachedMark c q = some (d, x, m)) :
    d = c ∧ x = q ∧ s.feed.marks.get c q.tag = some m ∧ reached s.feed.peak m.position = true := by
  unfold State.reachedMark at h
  cases hmark : s.feed.marks.get c q.tag with
  | none => rw [hmark] at h; exact nomatch h
  | some y =>
    rw [hmark] at h
    dsimp only at h
    cases hreached : reached s.feed.peak y.position with
    | false => rw [hreached] at h; exact nomatch h
    | true =>
      rw [hreached, if_pos rfl] at h
      cases h
      exact ⟨rfl, rfl, rfl, hreached⟩

theorem head?_filterMap_none {α β : Type} {f : α → Option β} {l : List α} : (l.filterMap f).head? = none ↔ ∀ x ∈ l, f x = none := by
  rw [List.head?_eq_none_iff, List.filterMap_eq_nil_iff]

/-- The first of the values a function has on a list. -/
theorem head?_filterMap_some {α β : Type} {f : α → Option β} : ∀ {l : List α} {y : β}, (l.filterMap f).head? = some y →
    ∃ before x behind, l = before ++ x :: behind ∧ f x = some y ∧ ∀ b ∈ before, f b = none
  | a :: l, y, h => by
    cases ha : f a with
    | none =>
      rw [List.filterMap_cons_none ha] at h
      obtain ⟨before, x, behind, hl, hx, hbefore⟩ := head?_filterMap_some h
      exact ⟨a :: before, x, behind, by rw [hl]; rfl, hx, fun b hb => (List.mem_cons.mp hb).elim (fun k => k ▸ ha) (hbefore b)⟩
    | some z =>
      rw [List.filterMap_cons_some ha] at h
      exact ⟨[], a, l, rfl, ha.trans h, nofun⟩

/-- No mark is due exactly where every armed mark of a record lies ahead. -/
theorem dueMark_none {s : State} : s.dueMark = none ↔ ∀ q ∈ s.queue, ∀ c m, s.feed.marks.get c q.tag = some m → s.ahead m.position := by
  have each : ∀ c, (s.dueMarksOf c).head? = none ↔ ∀ q ∈ s.queue, ∀ m, s.feed.marks.get c q.tag = some m → s.ahead m.position := fun c => by
    rw [dueMarksOf_eq, head?_filterMap_none]
    exact forall_congr' fun q => imp_congr .rfl reachedMark_none
  unfold State.dueMark
  rw [Option.or_eq_none_iff, Option.or_eq_none_iff, each, each, each]
  refine ⟨fun ⟨⟨h1, h2⟩, h3⟩ q hq c m hm => ?_, fun h => ⟨⟨fun q hq => h q hq .rotor1, fun q hq => h q hq .rotor2⟩, fun q hq => h q hq .transit⟩⟩
  cases c with
  | rotor1 => exact h1 q hq m hm
  | rotor2 => exact h2 q hq m hm
  | transit => exact h3 q hq m hm

/-- The due mark is one of its client's marks that the peak has reached, of the oldest record with such a mark. -/
theorem dueMark_some {s : State} {c : Client} {q : Record} {m : Mark} (h : s.dueMark = some (c, q, m)) :
    s.feed.marks.get c q.tag = some m ∧ reached s.feed.peak m.position = true
      ∧ ∃ before behind, s.queue = before ++ q :: behind
        ∧ ∀ b ∈ before, ∀ x, s.feed.marks.get c b.tag = some x → s.ahead x.position := by
  have each : ∀ d, (s.dueMarksOf d).head? = some (c, q, m) → s.feed.marks.get c q.tag = some m ∧ reached s.feed.peak m.position = true
      ∧ ∃ before behind, s.queue = before ++ q :: behind
        ∧ ∀ b ∈ before, ∀ x, s.feed.marks.get c b.tag = some x → s.ahead x.position := by
    intro d hd
    rw [dueMarksOf_eq] at hd
    obtain ⟨before, x, behind, hqueue, hx, hbefore⟩ := head?_filterMap_some hd
    obtain ⟨rfl, rfl, hmark, hreached⟩ := reachedMark_some hx
    exact ⟨hmark, hreached, before, behind, hqueue, fun b hb => reachedMark_none.mp (hbefore b hb)⟩
  unfold State.dueMark at h
  rcases Option.or_eq_some_iff.mp h with h | ⟨-, h⟩
  · rcases Option.or_eq_some_iff.mp h with h | ⟨-, h⟩
    · exact each .rotor1 h
    · exact each .rotor2 h
  · exact each .transit h

theorem fireMarks_step {s : State} {c : Client} {q : Record} {m : Mark} (h : s.dueMark = some (c, q, m)) (n : Nat) :
    State.fireMarks (n + 1) s = State.fireMarks n ((s.setMark c q.tag none).deliverMark State.arming c q m) := by
  rw [State.fireMarks, h]
  rfl

/-! ### The closing of a record -/

/-- The record leaves: the queue without it, its marks, TRANSIT_FULL, and all else as it was. -/
theorem removeRecord_eq (s : State) (t : Tag) : s.removeRecord t = { s with
    queue := s.queue.filter fun q => q.tag != t
    feed := (s.dropMarks t).feed
    holds := { s.holds with
      transitFull := decide (6 ≤ (s.queue.filter fun q => q.tag != t).length) && s.holds.transitFull } } := by
  unfold State.removeRecord
  by_cases hroom : (s.queue.filter fun q => q.tag != t).length < maxRecords
  · have hfull : decide (6 ≤ (s.queue.filter fun q => q.tag != t).length) = false := decide_eq_false (Nat.not_le.mpr hroom)
    rw [hfull]
    exact if_pos hroom
  · have hfull : decide (6 ≤ (s.queue.filter fun q => q.tag != t).length) = true := decide_eq_true (Nat.le_of_not_lt hroom)
    rw [hfull]
    exact if_neg hroom

theorem marks_dropMarks (s : State) (t : Tag) (c : Client) (u : Tag) :
    (s.dropMarks t).feed.marks.get c u = if u = t then none else s.feed.marks.get c u := by
  have hget : (s.dropMarks t).feed.marks.get c u =
      (((s.feed.marks.set .rotor1 t none).set .rotor2 t none).set .transit t none).get c u := rfl
  rw [hget, MarkTable.get_set, MarkTable.get_set, MarkTable.get_set]
  by_cases hu : u = t
  · subst hu
    cases c <;> simp
  · rw [if_neg fun h => hu h.2.symm, if_neg fun h => hu h.2.symm, if_neg fun h => hu h.2.symm, if_neg hu]

/-- The frame that a record holds has its outcome written. -/
def State.closedFrame (s : State) (q : Record) (res : Result) (rep : ReportFields) : State :=
  match q.frame with
  | some f => s.closeFrame f (q.hostTag.getD 0) res 0 (logOutcome q rep)
  | none => s

theorem closeRecord_eq (s : State) (q : Record) (res : Result) (rep : ReportFields) :
    s.closeRecord q res rep = (s.closedFrame q res rep).removeRecord q.tag := rfl

theorem closedFrame_none {s : State} {q : Record} {res : Result} {rep : ReportFields} (h : q.frame = none) :
    s.closedFrame q res rep = s := by
  unfold State.closedFrame
  rw [h]

theorem closedFrame_some {s : State} {q : Record} {res : Result} {rep : ReportFields} {f : Nat} (h : q.frame = some f) :
    s.closedFrame q res rep = s.closeFrame f (q.hostTag.getD 0) res 0 (logOutcome q rep) := by
  unfold State.closedFrame
  rw [h]

/-- A closure writes the frame, the counters and the causes. -/
theorem closedFrame_fields (s : State) (q : Record) (res : Result) (rep : ReportFields) :
    { s.closedFrame q res rep with ram := s.ram, counters := s.counters, cause := s.cause } = s := by
  cases hframe : q.frame with
  | none => rw [closedFrame_none hframe]
  | some f => rw [closedFrame_some hframe, closeFrame_fields]

/-- The fields a closing of a record keeps or changes, where its effect on the frame is named apart. -/
theorem closeRecord_fields (s : State) (q : Record) (res : Result) (rep : ReportFields) :
    s.closeRecord q res rep = { s with
      ram := (s.closedFrame q res rep).ram
      counters := (s.closedFrame q res rep).counters
      cause := (s.closedFrame q res rep).cause
      queue := s.queue.filter fun x => x.tag != q.tag
      feed := (s.dropMarks q.tag).feed
      holds := { s.holds with
        transitFull := decide (6 ≤ (s.queue.filter fun x => x.tag != q.tag).length) && s.holds.transitFull } } := by
  have overlay : ∀ v : State, { v with ram := s.ram, counters := s.counters, cause := s.cause } = s →
      v = { s with ram := v.ram, counters := v.counters, cause := v.cause } := fun v h =>
    congrArg (fun u : State => { u with ram := v.ram, counters := v.counters, cause := v.cause }) h
  rw [closeRecord_eq, removeRecord_eq, overlay _ (closedFrame_fields s q res rep)]
  rfl

/-- The closure of the frame that a record holds. -/
theorem closedFrame_closes {s : State} {q : Record} {res : Result} (rep : ReportFields) {f : Nat} (hres : res.rejects = false)
    (hframe : q.frame = some f) : (s.closedFrame q res rep).counters.closures = s.counters.closures + 1
      ∧ (s.closedFrame q res rep).pendingCause .closed = true
      ∧ (s.frameState f = 2 → (s.closedFrame q res rep).frameState f = 3
        ∧ (s.closedFrame q res rep).ram.readBytes (frameAddr f 128) 128 =
          outcomeSection res 0 (s.counters.closures + 1) (q.hostTag.getD 0) s.now (logOutcome q rep)) := by
  rw [closedFrame_some hframe]
  refine ⟨?_, ?_, fun htaken => ⟨?_, ?_⟩⟩
  · rw [closeFrame_counters]
    unfold Counters.finish
    rw [hres]
    rfl
  · rw [pendingCause_congr (closeFrame_cause ..), hres, State.pendingCause_raise]
    rfl
  · rw [frameState_closeFrame _ _ _ _ _ _ htaken, hres]
    rfl
  · rw [outcome_closeFrame _ _ _ _ _ _ htaken, hres]
    rfl

/-! ### The statement -/

/-- Settles O26: a mark is due where the peak has reached it, the marks due fire one by one, and the Transit Tracker's two marks lead the
record to its closing. -/
theorem marksFireOnceWhenReached : Obligations.MarksFireOnceWhenReached := by
  unfold Obligations.MarksFireOnceWhenReached
  refine ⟨placesAhead_armMark markFuel, fun s c q p x hreached hq => ⟨State.armMark 299, placesAhead_armMark 299, ?_⟩, fun s => dueMark_none,
    fun s c q m hdue => ?_, fun n s hnone => fireMarks_of_none n hnone, fun s arm q p harm hahead => ?_, fun s arm q p => rfl,
    fun s t q res rep hres ht => ?_⟩
  · exact armMark_reached 299 hreached hq
  · obtain ⟨hmark, hreached, hfirst⟩ := dueMark_some hdue
    exact ⟨hmark, hreached, hfirst, fireMarks_step hdue⟩
  · have hupdated : (s.updRecord q.tag fun x => { x with outfeed := .awaitReport }) =
        { s with queue := s.queue.map fun x => if x.tag = q.tag then { x with outfeed := .awaitReport } else x } := by
      unfold State.updRecord State.mapQueue
      simp only [beq_iff_eq]
    have hdelivered : s.deliverMark arm .transit q ⟨.outfeed, p⟩ =
        arm (s.updRecord q.tag fun x => { x with outfeed := .awaitReport }) .transit q.tag .windowEnd
          (posAdd p s.geometry.reportWindow) := rfl
    rw [hdelivered, hupdated]
    exact harm _ _ _ _ _ hahead
  · rw [ht, closeRecord_fields]
    refine ⟨rfl, fun c => ?_, rfl, rfl, fun hframe => ?_, fun f hframe => closedFrame_closes rep hres hframe⟩
    · exact (marks_dropMarks s q.tag c q.tag).trans (if_pos rfl)
    · rw [closedFrame_none hframe]
      exact ⟨rfl, rfl, rfl⟩

end Sys2Proof.Machine
end

section
/-! PROOF. Encoder edges and the steps of the feed position (R1 to R3, R14). -/

namespace Sys2Proof.Machine

/-! ### A counted edge -/

/-- The stall window as a counted edge leaves it: restarted while feed-run is active (R14). -/
def State.stallAfterEdge (s : State) : Option Nat := if s.pins.feedRun then some (s.now + s.geometry.stallWindow) else s.feed.stall

/-- The state in which a counted edge moves the count: the stall window restarted. -/
def State.edgeCounted (s : State) : State := { s with feed := { s.feed with stall := s.stallAfterEdge } }

theorem countMotion_of_moving {s : State} (h : s.pins.feedRun = false ∨ s.feed.motion = .moving) : s.countMotion = s.edgeCounted := by
  unfold State.countMotion State.edgeCounted State.stallAfterEdge
  by_cases hrun : s.pins.feedRun = true
  · have hmoving : s.feed.motion ≠ .standstill := by
      rcases h with h | h
      · rw [h] at hrun; exact nomatch hrun
      · rw [h]; decide
    rw [if_pos hrun, if_pos hrun, if_neg hmoving]
  · rw [if_neg hrun, if_neg hrun]

theorem takeEdge_forward (s : State) : s.takeEdge .forward = s.countMotion.forwardEdge := rfl
theorem takeEdge_reverse (s : State) : s.takeEdge .reverse = s.countMotion.reverseEdge := rfl

/-! ### Forward -/

theorem forwardEdge_within {s : State} (h : s.feed.edges + 1 < s.geometry.encoderResolution) :
    s.forwardEdge = { s with feed := { s.feed with edges := s.feed.edges + 1 } } := if_pos h

/-- The state at a forward step, before it is known whether the peak is passed. -/
def State.steppedForward (s : State) : State := { s with feed := { s.feed with edges := 0, position := s.feed.position + 1 } }

theorem forwardEdge_behind {s : State} (h : s.geometry.encoderResolution ≤ s.feed.edges + 1)
    (hpeak : posDiff (s.feed.position + 1) s.feed.peak ≤ 0) : s.forwardEdge = s.steppedForward := by
  unfold State.forwardEdge
  rw [if_neg (Nat.not_lt.mpr h)]
  exact if_neg (Int.not_lt.mpr hpeak)

/-- The state in which the eyes are sampled at a new-peak step. -/
def State.peaked (s : State) : State :=
  { s with feed := { s.feed with edges := 0, position := s.feed.position + 1, peak := s.feed.position + 1 } }

theorem forwardEdge_newPeak {s : State} (h : s.geometry.encoderResolution ≤ s.feed.edges + 1)
    (hpeak : 0 < posDiff (s.feed.position + 1) s.feed.peak) :
    s.forwardEdge = State.fireMarks markFuel s.peaked.sampleInfeed.checkOverlong.sampleOutfeed := by
  unfold State.forwardEdge
  rw [if_neg (Nat.not_lt.mpr h)]
  exact if_pos hpeak

/-! ### Reverse -/

theorem reverseEdge_within {s : State} (h : s.feed.edges ≠ 0) :
    s.reverseEdge = { s with feed := { s.feed with edges := s.feed.edges - 1 } } := if_neg h

/-- The state at a reverse step, before its travel is judged. -/
def State.steppedBack (s : State) : State :=
  { s with feed := { s.feed with edges := s.geometry.encoderResolution - 1, position := s.feed.position - 1 } }

theorem reverseEdge_step {s : State} (h : s.feed.edges = 0) : s.reverseEdge =
    if s.mode.works then
      if (s.geometry.reverseLimit : Int) < posDiff s.feed.peak (s.feed.position - 1) then
        if s.latch then s.steppedBack.rebase else s.steppedBack.rebase.trackFault .reverse
      else s.steppedBack
    else s.steppedBack.rebase := if_pos h

theorem works_iff (m : Mode) : m.works = true ↔ m = .run ∨ m = .hold := by cases m <;> decide

theorem not_works_of {m : Mode} (h : m = .config ∨ m = .service) : ¬ m.works = true := by
  rw [works_iff]
  rcases h with rfl | rfl <;> decide

theorem reverseEdge_quiet {s : State} (h : s.feed.edges = 0) (hmode : s.mode = .run ∨ s.mode = .hold)
    (hlimit : posDiff s.feed.peak (s.feed.position - 1) ≤ s.geometry.reverseLimit) : s.reverseEdge = s.steppedBack := by
  rw [reverseEdge_step h, if_pos ((works_iff _).mpr hmode), if_neg (Int.not_lt.mpr hlimit)]

theorem reverseEdge_beyond {s : State} (h : s.feed.edges = 0) (hmode : s.mode = .run ∨ s.mode = .hold)
    (hlimit : (s.geometry.reverseLimit : Int) < posDiff s.feed.peak (s.feed.position - 1)) :
    s.reverseEdge = if s.latch then s.steppedBack.rebase else s.steppedBack.rebase.trackFault .reverse := by
  rw [reverseEdge_step h, if_pos ((works_iff _).mpr hmode), if_pos hlimit]

theorem reverseEdge_rebases {s : State} (h : s.feed.edges = 0) (hmode : s.mode = .config ∨ s.mode = .service) :
    s.reverseEdge = s.steppedBack.rebase := by
  rw [reverseEdge_step h, if_neg (not_works_of hmode)]

/-! ### The samples of a new-peak step at which nothing is declared -/

theorem sample_same {e : Eye} {raw : EyeLevel} (h : e = ⟨raw, none⟩) (p : Pos) (debounce : Nat) : e.sample raw p debounce = (e, none) := by
  subst h
  exact if_pos rfl

theorem sampleInfeed_none {s : State} {e : Eye}
    (h : s.feed.eyeIn.sample s.pins.eyeIn s.feed.position s.geometry.eyeDebounce = (e, none)) :
    s.sampleInfeed = { s with feed := { s.feed with eyeIn := e } } := by
  unfold State.sampleInfeed
  rw [h]

theorem sampleOutfeed_none {s : State} {e : Eye}
    (h : s.feed.eyeOut.sample s.pins.eyeOut s.feed.position s.geometry.eyeDebounce = (e, none)) :
    s.sampleOutfeed = { s with feed := { s.feed with eyeOut := e } } := by
  unfold State.sampleOutfeed
  rw [h]

theorem sampleInfeed_same {s : State} (h : s.feed.eyeIn = ⟨s.pins.eyeIn, none⟩) : s.sampleInfeed = s :=
  sampleInfeed_none (sample_same h ..)

theorem sampleOutfeed_same {s : State} (h : s.feed.eyeOut = ⟨s.pins.eyeOut, none⟩) : s.sampleOutfeed = s :=
  sampleOutfeed_none (sample_same h ..)

/-- The overlong check in terms of a worked blockage's head. -/
theorem overlong_iff (s : State) : s.overlong = true ↔
    ∃ h, s.feed.blockage = some ⟨true, some h⟩ ∧ s.feed.eyeIn.change = none ∧ (s.geometry.maxLogLength : Int) ≤ posDiff s.feed.position h := by
  unfold State.overlong
  split
  · rename_i head hblockage
    rw [hblockage, Bool.and_eq_true, Option.isNone_iff_eq_none, decide_eq_true_iff]
    refine ⟨fun h => ⟨head, rfl, h⟩, fun ⟨h, heq, hthen⟩ => ?_⟩
    cases heq
    exact hthen
  · rename_i hother
    exact iff_of_false nofun fun ⟨h, heq, _⟩ => hother h heq

theorem checkOverlong_of_not {s : State} (h : ¬ s.overlong = true) : s.checkOverlong = s := if_neg h

theorem not_overlong_of_unworked {s : State} (h : ∀ b, s.feed.blockage = some b → b.worked = false) : ¬ s.overlong = true := by
  rw [overlong_iff]
  rintro ⟨p, hblockage, -⟩
  exact nomatch h _ hblockage

theorem dueMark_of_noMarks {s : State} (h : s.feed.marks = .empty) : s.dueMark = none := by
  refine dueMark_none.mpr fun q _ c m hm => ?_
  have hget : ∀ (c : Client) (t : Tag), MarkTable.empty.get c t = none := fun c t => by
    cases c <;> fin_cases t <;> rfl
  rw [h, hget] at hm
  exact nomatch hm

/-- A new-peak step at which neither eye changes, no blockage is worked and no mark is armed. -/
theorem newPeak_quiet {s : State} (hin : s.feed.eyeIn = ⟨s.pins.eyeIn, none⟩) (hout : s.feed.eyeOut = ⟨s.pins.eyeOut, none⟩)
    (hblockage : ∀ b, s.feed.blockage = some b → b.worked = false) (hmarks : s.feed.marks = .empty) (n : Nat) :
    State.fireMarks n s.sampleInfeed.checkOverlong.sampleOutfeed = s := by
  rw [sampleInfeed_same hin, checkOverlong_of_not (not_overlong_of_unworked hblockage), sampleOutfeed_same hout,
    fireMarks_of_none n (dueMark_of_noMarks hmarks)]

/-! ### The statement -/

/-- An edge while feed-run is inactive or the feed MOVING, by what it does once the stall window is restarted. -/
theorem edge_reaches {s u : State} {i o : EyeLevel} (hrun : s.running) (hmoving : s.pins.feedRun = false ∨ s.feed.motion = .moving)
    {e : Edge} (f : State → State) (he : ∀ x : State, x.takeEdge e = f x.countMotion) (h : f (s.withEyes i o).edgeCounted = u) :
    Reaches (.encoderEdge e i o) s u := by
  refine reaches_of_act (f := fun s => (s.seeEyes i o).takeEdge e) rfl hrun ?_
  have hcounted : (s.withEyes i o).countMotion = (s.withEyes i o).edgeCounted := countMotion_of_moving hmoving
  exact (he (s.withEyes i o)).trans ((congrArg f hcounted).trans h)

/-- Settles O5: an edge by whether it completes a millimetre, and a step by the peak, the mode and the limit. -/
theorem edgesMoveTheCountAndTheFeedPosition : Obligations.EdgesMoveTheCountAndTheFeedPosition := by
  unfold Obligations.EdgesMoveTheCountAndTheFeedPosition
  intro s i o w hrun hmoving hw
  subst hw
  refine ⟨reaches_of_act (f := fun s => (s.seeEyes i o).takeEdge .noDirection) rfl hrun rfl, fun hwithin => ?_, fun hedges => ?_,
    fun hres hpeak => ?_, fun hres hpeak hin hout hblockage hmarks => ?_, fun hedges hmode hlimit => ?_, fun hedges hmode => ?_⟩
  · exact edge_reaches hrun hmoving State.forwardEdge takeEdge_forward (forwardEdge_within (s := (s.withEyes i o).edgeCounted) hwithin)
  · exact edge_reaches hrun hmoving State.reverseEdge takeEdge_reverse (reverseEdge_within (s := (s.withEyes i o).edgeCounted) hedges)
  · exact edge_reaches hrun hmoving State.forwardEdge takeEdge_forward (forwardEdge_behind (s := (s.withEyes i o).edgeCounted) hres hpeak)
  · exact edge_reaches hrun hmoving State.forwardEdge takeEdge_forward
      ((forwardEdge_newPeak (s := (s.withEyes i o).edgeCounted) hres hpeak).trans
        (newPeak_quiet (s := (s.withEyes i o).edgeCounted.peaked) hin hout hblockage hmarks markFuel))
  · exact edge_reaches hrun hmoving State.reverseEdge takeEdge_reverse
      (reverseEdge_quiet (s := (s.withEyes i o).edgeCounted) hedges hmode hlimit)
  · exact edge_reaches hrun hmoving State.reverseEdge takeEdge_reverse
      (reverseEdge_rebases (s := (s.withEyes i o).edgeCounted) hedges hmode)

end Sys2Proof.Machine
end

section
/-! PROOF. Entry to STANDSTILL (R14, R100, R105, R166). -/

namespace Sys2Proof.Machine

/-! ### Every ENGAGED arm recomputed -/

/-- Every arm is recomputed whatever the dead band with one class, the arbiter grants, and the feed moves on. -/
def State.recomputed (u : State) (cls : FlowClass) (feed : Feed) : State :=
  { (u.recomputeAll allArms true (.fixed cls)).arbitrate with feed := feed }

theorem recomputed_self (u : State) (cls : FlowClass) :
    u.recomputed cls u.feed = (u.recomputeAll allArms true (.fixed cls)).arbitrate := by
  have hfeed : (u.recomputeAll allArms true (.fixed cls)).arbitrate.feed = u.feed :=
    ((FlowOnly.recomputeAll u allArms true (.fixed cls)).trans (.arbitrate _)).feed
  unfold State.recomputed
  generalize (u.recomputeAll allArms true (.fixed cls)).arbitrate = w at hfeed
  rw [← hfeed]

theorem recomputed_publish {s u : State} (hram : u.ram = s.ram) (cls : FlowClass) (feed : Feed) :
    (publish s (u.recomputed cls feed)).withoutFlow = { u with feed := feed }.withoutFlow
      ∧ TicketFramesKept s (publish s (u.recomputed cls feed))
      ∧ Retargeted u (publish s (u.recomputed cls feed)) (fun _ => True) true (fun _ => cls) := by
  have hflow : FlowOnly u (u.recomputeAll allArms true (.fixed cls)).arbitrate := (FlowOnly.recomputeAll ..).trans (.arbitrate _)
  have hretargeted : Retargeted u (u.recomputeAll allArms true (.fixed cls)).arbitrate (· ∈ allArms) true (fun _ => cls) :=
    retargeted_recomputeAll (.refl u) (by decide) (fun _ => rfl) fun a => grantedOnly_arbitrate ..
  unfold State.recomputed
  generalize (u.recomputeAll allArms true (.fixed cls)).arbitrate = w at hflow hretargeted
  refine ⟨?_, fun a ha => ?_, ?_⟩
  · rw [withoutFlow_publish]
    have hwithout := congrArg (fun z : State => { z with feed := feed }) hflow.1
    exact hwithout
  · rw [publish_ticketFramesKept s { w with feed := feed } a ha]
    exact congrArg (Memory.read · a) (hflow.2.trans hram)
  · have harm : ∀ a, (publish s { w with feed := feed }).arm a = w.arm a := fun a => by rw [arm_publish]; rfl
    have hcongr : ∀ a c, GrantedFrom u w a c → GrantedFrom u (publish s { w with feed := feed }) a c := fun a c h => h.congr_arm (harm a)
    obtain ⟨hothers, hengaged⟩ := hretargeted.congr_on (on' := fun _ => True) fun a => iff_of_true trivial (mem_allArms a)
    refine ⟨fun a ha => hcongr a _ (hothers a ha), fun a ha hstate => ?_⟩
    obtain ⟨hstays, hnone, hsome⟩ := hengaged a ha hstate
    refine ⟨by rw [harm, hstays], fun h => hcongr a _ (hnone h), fun q row v hq hrow hv => ?_⟩
    obtain ⟨hdropped, htaken⟩ := hsome q row v hq hrow hv
    exact ⟨fun h => hcongr a _ (hdropped h), fun hlift hband => hcongr a _ (htaken hlift hband)⟩

/-! ### The limit of a target at standstill -/

theorem clamped_standstill (g : Geometry) (row : SpeciesRow) (v : Int) :
    clamped g row (stalled g .standstill v) ≤ max g.stallPressure (min row.minimum (min row.maximum g.machineMax)) := by
  unfold clamped stalled
  dsimp only
  omega

theorem targetFor_some {s : State} {a : ArmId} {q : Record} {row : SpeciesRow} {v : Nat} (hrow : q.row = some row)
    (h : s.targetFor a q = some v) : v = s.entryTarget row ∨ ∃ c, v = s.bodyTarget a row c q := by
  unfold State.targetFor at h
  split at h
  · rename_i row' c hrow' _ _
    cases hrow.symm.trans hrow'
    exact .inl (Option.some.inj h).symm
  · rename_i row' c hrow' _ _
    cases hrow.symm.trans hrow'
    exact .inr ⟨c, (Option.some.inj h).symm⟩
  · exact nomatch h

theorem targetFor_standstill {u : State} {a : ArmId} {q : Record} {row : SpeciesRow} {v : Nat} (hmotion : u.feed.motion = .standstill)
    (hrow : q.row = some row) (h : u.targetFor a q = some v) :
    v ≤ max u.geometry.stallPressure (min row.minimum (min row.maximum u.geometry.machineMax)) := by
  rcases targetFor_some hrow h with rfl | ⟨c, rfl⟩
  · unfold State.entryTarget
    rw [hmotion]
    exact clamped_standstill ..
  · unfold State.bodyTarget
    dsimp only
    rw [hmotion]
    exact clamped_standstill ..

/-! ### The statement -/

/-- The state in which the arms are recomputed at the entry to STANDSTILL. -/
def State.atStandstill (s : State) : State :=
  { s with feed := { s.feed with motion := .standstill, stall := none }, queue := s.stallFlagged }

theorem beginStandstill_eq (s : State) : s.beginStandstill = s.atStandstill.recomputed .normal s.atStandstill.feed :=
  (recomputed_self s.atStandstill .normal).symm

theorem answers_of_actOrPin {c : Instr} {s : State} {pin f : State → State} {P : State → Prop} (hc : exec c s = actOrPin s pin f)
    (h : s.running) (hP : P (publish s (f s))) : Answers c s P := ⟨publish s (f s), by rw [hc, actOrPin_running h], hP⟩

theorem reaches_of_actOrPin {c : Instr} {s u : State} {pin f : State → State} (hc : exec c s = actOrPin s pin f) (h : s.running)
    (hf : f s = u) : Reaches c s u := ⟨publish s (f s), by rw [hc, actOrPin_running h], hf ▸ publish_publishedFrom s (f s)⟩

/-- Settles O10: the loss of feed-run and the end of the stall window both enter STANDSTILL, whose recompute's targets the stall pressure
limits. -/
theorem standstillBegins : Obligations.StandstillBegins := by
  unfold Obligations.StandstillBegins
  refine ⟨fun u a q row v hmotion hrow h => targetFor_standstill hmotion hrow h, fun s hrun => ⟨?_, fun hstill => ?_, fun hmoving u hu => ?_,
    fun w hw u hu => ?_, fun hnone => ?_⟩⟩
  · exact reaches_of_actOrPin (pin := fun s => s.setFeedRun true) (f := fun s => s.setFeedRun true) rfl hrun rfl
  · refine reaches_of_actOrPin (pin := fun s => s.setFeedRun false) (f := State.feedRunLost) rfl hrun ?_
    unfold State.feedRunLost
    dsimp only
    rw [hstill]
    rfl
  · refine answers_of_actOrPin (pin := fun s => s.setFeedRun false) (f := State.feedRunLost) rfl hrun ?_
    have hlost : s.feedRunLost = { s.setFeedRun false with feed := { s.feed with stall := none } }.beginStandstill := by
      unfold State.feedRunLost
      dsimp only
      rw [hmoving]
    have heq : s.feedRunLost = u.recomputed .normal u.feed := by
      rw [hlost, beginStandstill_eq, hu]
      rfl
    rw [heq]
    exact recomputed_publish (by rw [hu]) .normal u.feed
  · refine answers_of_act (f := State.stallExpired) rfl hrun ?_
    have heq : s.stallExpired = u.recomputed .normal u.feed := by
      unfold State.stallExpired
      rw [hw]
      dsimp only
      rw [beginStandstill_eq, hu]
      rfl
    rw [heq]
    exact recomputed_publish (by rw [hu]) .normal u.feed
  · refine reaches_of_act (f := State.stallExpired) rfl hrun ?_
    unfold State.stallExpired
    rw [hnone]

end Sys2Proof.Machine
end

section
/-! PROOF. A LIFT asked of an arm (the table of R114): what it leaves of the arm, in closed form. -/

namespace Sys2Proof.Machine

theorem leave_eq_disengaged (c : Arm) : c.leave = c.disengaged := rfl

theorem State.updArm_self (s : State) (a : ArmId) (f : Arm → Arm) : (s.updArm a f).arm a = f (s.arm a) := State.arm_setArm_self ..

theorem arm_newLift (s : State) (a : ArmId) (aperture : Nat) (wake : Bool) : (s.newLift a aperture wake).arm a = { s.arm a with
    flow := if s.ventHeld a = true then .deferred aperture wake else .waiting ⟨.lift, aperture, .urgent, wake⟩ } := by
  unfold State.newLift
  by_cases hheld : s.ventHeld a = true
  · rw [if_pos hheld, if_pos hheld, State.updArm_self]
  · rw [if_neg hheld, if_neg hheld]
    exact State.updArm_self ..

/-- An arm that becomes LIFTING by a new LIFT. -/
theorem arm_startLift (s : State) (a : ArmId) (aperture : Nat) (t : Option Tag) (wake : Bool) :
    ((s.updArm a fun c => c.startLift aperture t).newLift a aperture wake).arm a = { (s.arm a).startLift aperture t with
      flow := if s.ventHeld a = true then .deferred aperture wake else .waiting ⟨.lift, aperture, .urgent, wake⟩ } := by
  rw [arm_newLift, State.updArm_self]
  rfl

theorem ventHeld_congr {s t : State} (hsupply : t.supply = s.supply) (hdrive : ∀ r, (t.rotor r).drive = (s.rotor r).drive) (a : ArmId) :
    t.ventHeld a = s.ventHeld a := by
  unfold State.ventHeld
  rw [hsupply, hdrive]

/-- An arm asked a LIFT that is neither OPEN nor LIFTING nor OUT. -/
theorem askedLift_new {c : Arm} (held : Bool) (aperture : Nat) (t : Option Tag) (hengaged : c.state = .engaged → c.flow.isWaiting = false)
    (hopened : c.state ≠ .opened) (hlifting : c.state ≠ .lifting) (hout : c.state ≠ .out) : c.askedLift held aperture t =
      { c.startLift aperture t with
        flow := if held = true then .deferred aperture (decide (c.state = .parked))
          else .waiting ⟨.lift, aperture, .urgent, decide (c.state = .parked)⟩ } := by
  have hwake : decide (c.state = .parked ∨ c.state = .out) = decide (c.state = .parked) :=
    decide_eq_decide.mpr ⟨fun h => h.resolve_right hout, .inl⟩
  have hnew : ¬ (c.state = .engaged ∧ c.flow.isWaiting = true) := fun ⟨hs, hf⟩ => by
    rw [hengaged hs] at hf
    exact nomatch hf
  unfold Arm.askedLift
  dsimp only
  rw [hwake]
  simp only [hnew, not_false_eq_true, and_true, decide_eq_true_eq]
  cases hstate : c.state
  case out => exact absurd hstate hout
  case opened => exact absurd hstate hopened
  case lifting => exact absurd hstate hlifting
  all_goals
    unfold Arm.startLift
    rw [hstate]
    rfl

theorem askedLift_opened_same {c : Arm} (held : Bool) {aperture : Nat} (t : Option Tag) (h : c.state = .opened)
    (haperture : c.aperture = aperture) : c.askedLift held aperture t = { c with tag := t } := by
  unfold Arm.askedLift
  rw [h]
  exact if_pos haperture

theorem askedLift_opened_new {c : Arm} (held : Bool) {aperture : Nat} (t : Option Tag) (h : c.state = .opened)
    (haperture : c.aperture ≠ aperture) : c.askedLift held aperture t = { c.startLift aperture t with
      flow := if held = true then .deferred aperture false else .waiting ⟨.lift, aperture, .urgent, false⟩ } := by
  have hparked : (c.startLift aperture t).valve = c.valve := if_neg (by rw [h]; decide)
  unfold Arm.askedLift
  rw [h]
  dsimp only
  rw [if_neg haperture]
  cases held <;> (unfold Arm.startLift; rw [h]; rfl)

theorem askedLift_engaged_waiting {c : Arm} (held : Bool) (aperture : Nat) (t : Option Tag) (h : c.state = .engaged)
    {q : FlowRequest} (hflow : c.flow = .waiting q) : c.askedLift held aperture t =
      { c.startLift aperture t with flow := .waiting ⟨.lift, aperture, .urgent, false⟩ } := by
  unfold Arm.askedLift
  rw [h, hflow]
  dsimp only
  cases held <;> (unfold Arm.startLift; rw [h]; rfl)

section
variable {c : Arm} (held : Bool) (aperture : Nat) (t : Option Tag) (h : c.state = .lifting)
include h

theorem askedLift_lifting_waiting {q : FlowRequest} (hflow : c.flow = .waiting q) :
    c.askedLift held aperture t = { c with aperture := aperture, tag := t, flow := .waiting { q with value := aperture } } := by
  unfold Arm.askedLift
  rw [h, hflow]

theorem askedLift_lifting_deferred {p : Nat} {wake : Bool} (hflow : c.flow = .deferred p wake) :
    c.askedLift held aperture t = { c with aperture := aperture, tag := t, flow := .deferred aperture wake } := by
  unfold Arm.askedLift
  rw [h, hflow]

theorem askedLift_lifting_idle (hflow : c.flow = .idle) : c.askedLift held aperture t = { c.startLift aperture t with
    flow := if held = true then .deferred aperture false else .waiting ⟨.lift, aperture, .urgent, false⟩ } := by
  unfold Arm.askedLift Arm.startLift
  rw [h, hflow]
  cases held <;> rfl

theorem askedLift_lifting_same {q : FlowRequest} {granted timeout : Nat} (hflow : c.flow = .inFlight q granted timeout)
    (hvalue : q.value = aperture) : c.askedLift held aperture t = { c with aperture := aperture, tag := t } := by
  unfold Arm.askedLift
  rw [h, hflow]
  exact if_pos hvalue

theorem askedLift_lifting_inFlight {q : FlowRequest} {granted timeout : Nat} (hflow : c.flow = .inFlight q granted timeout)
    (hvalue : q.value ≠ aperture) : c.askedLift held aperture t = { c with
      aperture := aperture
      tag := t
      flow := .inFlight { q with value := aperture } granted timeout
      valve := .lift aperture
      settled := false } := by
  unfold Arm.askedLift
  rw [h, hflow]
  exact if_neg hvalue

end

/-- An arm that is LIFTING takes the aperture into its lift. -/
theorem arm_relift {s : State} {a : ArmId} (h : (s.arm a).state = .lifting) (aperture : Nat) (t : Option Tag) :
    (s.relift aperture t a).arm a = (s.arm a).askedLift (s.ventHeld a) aperture t := by
  unfold State.relift
  cases hflow : (s.arm a).flow with
  | waiting q =>
    rw [askedLift_lifting_waiting _ aperture t h hflow]
    exact State.updArm_self ..
  | inFlight q granted timeout =>
    dsimp only
    by_cases hvalue : q.value = aperture
    · rw [if_pos hvalue, askedLift_lifting_same _ aperture t h hflow hvalue]
      exact State.updArm_self ..
    · rw [if_neg hvalue, askedLift_lifting_inFlight _ aperture t h hflow hvalue]
      exact State.updArm_self ..
  | deferred _ wake =>
    rw [askedLift_lifting_deferred _ aperture t h hflow]
    exact State.updArm_self ..
  | idle =>
    rw [askedLift_lifting_idle _ aperture t h hflow]
    exact arm_startLift s a aperture t false

theorem arm_liftEngaged {s : State} {a : ArmId} (h : (s.arm a).state = .engaged) (aperture : Nat) (t : Option Tag) :
    (s.liftEngaged aperture t a).arm a = (s.arm a).askedLift (s.ventHeld a) aperture t := by
  have hparked : decide ((s.arm a).state = .parked) = false := by rw [h]; rfl
  have new : (s.arm a).flow.isWaiting = false → (s.arm a).askedLift (s.ventHeld a) aperture t = { (s.arm a).startLift aperture t with
      flow := if s.ventHeld a = true then .deferred aperture false else .waiting ⟨.lift, aperture, .urgent, false⟩ } := fun hflow => by
    rw [askedLift_new _ aperture t (fun _ => hflow) (by rw [h]; decide) (by rw [h]; decide) (by rw [h]; decide), hparked]
  unfold State.liftEngaged
  cases hflow : (s.arm a).flow with
  | waiting q =>
    rw [askedLift_engaged_waiting _ aperture t h hflow]
    dsimp only
    unfold State.replaceRequest
    have hset : ((s.updArm a fun c => c.startLift aperture t).updArm a fun c =>
        { c with flow := .waiting ⟨.lift, aperture, .urgent, false⟩ }).arm a =
        { (s.arm a).startLift aperture t with flow := .waiting ⟨.lift, aperture, .urgent, false⟩ } := by
      rw [State.updArm_self, State.updArm_self]
    dsimp only
    split
    · exact hset
    · exact hset
  | inFlight q granted timeout =>
    rw [new (by rw [hflow]; rfl)]
    exact arm_startLift (s.leaveFlow a) a aperture t false
  | idle =>
    rw [new (by rw [hflow]; rfl)]
    exact arm_startLift s a aperture t false
  | deferred _ _ =>
    rw [new (by rw [hflow]; rfl)]
    exact arm_startLift s a aperture t false

/-- A LIFT asked of an arm that is not OUT. -/
theorem arm_liftInService {s : State} {a : ArmId} (hout : (s.arm a).state ≠ .out) (aperture : Nat) (t : Option Tag) :
    (s.liftInService aperture t a).arm a = (s.arm a).askedLift (s.ventHeld a) aperture t := by
  have new : (s.arm a).state ≠ .engaged → (s.arm a).state ≠ .opened → (s.arm a).state ≠ .lifting →
      (s.arm a).askedLift (s.ventHeld a) aperture t =
        ((s.updArm a fun c => c.startLift aperture t).newLift a aperture (decide ((s.arm a).state = .parked))).arm a :=
    fun hengaged hopened hlifting => by
      rw [askedLift_new _ aperture t (fun h => absurd h hengaged) hopened hlifting hout, arm_startLift]
  unfold State.liftInService
  cases hstate : (s.arm a).state with
  | out => exact absurd hstate hout
  | parked => rw [new (by rw [hstate]; decide) (by rw [hstate]; decide) (by rw [hstate]; decide), hstate]; rfl
  | standby => rw [new (by rw [hstate]; decide) (by rw [hstate]; decide) (by rw [hstate]; decide), hstate]; rfl
  | trailing => rw [new (by rw [hstate]; decide) (by rw [hstate]; decide) (by rw [hstate]; decide), hstate]; rfl
  | free => rw [new (by rw [hstate]; decide) (by rw [hstate]; decide) (by rw [hstate]; decide), hstate]; rfl
  | engaged => exact arm_liftEngaged hstate aperture t
  | lifting => exact arm_relift hstate aperture t
  | opened =>
    dsimp only
    by_cases haperture : (s.arm a).aperture = aperture
    · rw [if_pos haperture, askedLift_opened_same _ t hstate haperture]
      exact State.updArm_self ..
    · rw [if_neg haperture, askedLift_opened_new _ t hstate haperture]
      exact arm_startLift s a aperture t false

theorem liftInService_out {s : State} {a : ArmId} (hout : (s.arm a).state = .out) (aperture : Nat) (t : Option Tag) :
    s.liftInService aperture t a = s := by
  unfold State.liftInService
  rw [hout]

end Sys2Proof.Machine
end

section
/-! PROOF. The records of a teardown (R57, R84): provisional bindings undone, the other frames closed LOST, the queue empty. -/

namespace Sys2Proof.Machine

/-! ### One record -/

/-- The record's frame is closed by a teardown: it holds one, and its binding is not provisional. -/
def Record.owesLoss (q : Record) : Bool := !q.provisional && q.frame.isSome

/-- The record's binding is undone by a teardown. -/
def Record.bindingUndone (q : Record) : Bool := q.provisional && q.frame.isSome

/-- The staged queue with its head no longer bound. -/
def unboundHead : List StagedTicket → List StagedTicket
  | [] => []
  | e :: rest => { e with bound := false } :: rest

theorem unboundHead_twice (l : List StagedTicket) : unboundHead (unboundHead l) = unboundHead l := by
  cases l <;> rfl

theorem bindHead_eq (s : State) : s.bindHead false = { s with manifest := { s.manifest with staged := unboundHead s.manifest.staged } } := by
  unfold State.bindHead
  split
  · rename_i e rest hstaged
    rw [hstaged]
    rfl
  · rename_i hstaged
    rw [hstaged]
    have hsame : { s.manifest with staged := unboundHead [] } = s.manifest := by
      rw [show unboundHead [] = s.manifest.staged from hstaged.symm]
    rw [hsame]

theorem loseRecord_owed {s : State} {q : Record} (h : q.owesLoss = true) : s.loseRecord q = s.closeRecord q .lost .zero := by
  unfold Record.owesLoss at h
  rw [Bool.and_eq_true, Bool.not_eq_true'] at h
  unfold State.loseRecord
  rw [h.1]
  rfl

theorem loseRecord_undone {s : State} {q : Record} (h : q.bindingUndone = true) :
    s.loseRecord q = (s.bindHead false).closeRecord { q with frame := none } .lost .zero := by
  unfold Record.bindingUndone at h
  rw [Bool.and_eq_true] at h
  unfold State.loseRecord
  rw [if_pos h.1, if_pos h.2]

theorem loseRecord_frameless {s : State} {q : Record} (h : q.frame = none) : s.loseRecord q = s.closeRecord q .lost .zero := by
  unfold State.loseRecord
  split
  · rw [if_neg (by rw [h]; decide)]
  · rfl

/-- What becomes of one record, but for the bytes of its frame. -/
theorem loseRecord_fields (s : State) (q : Record) : s.loseRecord q = { s with
    ram := (s.loseRecord q).ram
    counters := if q.owesLoss = true then { s.counters with closures := s.counters.closures + 1 } else s.counters
    cause := if q.owesLoss = true then s.cause ||| oneBit Cause.closed.place else s.cause
    queue := s.queue.filter fun x => x.tag != q.tag
    feed := (s.dropMarks q.tag).feed
    holds := { s.holds with
      transitFull := decide (6 ≤ (s.queue.filter fun x => x.tag != q.tag).length) && s.holds.transitFull }
    manifest := if q.bindingUndone = true then { s.manifest with staged := unboundHead s.manifest.staged } else s.manifest } := by
  cases hframe : q.frame with
  | none =>
    have howes : q.owesLoss = false := by unfold Record.owesLoss; rw [hframe, Option.isSome_none, Bool.and_false]
    have hundone : q.bindingUndone = false := by unfold Record.bindingUndone; rw [hframe, Option.isSome_none, Bool.and_false]
    rw [howes, hundone, loseRecord_frameless hframe, closeRecord_fields, closedFrame_none hframe]
    rfl
  | some f =>
    cases hprovisional : q.provisional with
    | true =>
      have howes : q.owesLoss = false := by unfold Record.owesLoss; rw [hprovisional]; rfl
      have hundone : q.bindingUndone = true := by unfold Record.bindingUndone; rw [hprovisional, hframe]; rfl
      rw [howes, hundone, loseRecord_undone hundone, closeRecord_fields, closedFrame_none rfl, bindHead_eq]
      rfl
    | false =>
      have howes : q.owesLoss = true := by unfold Record.owesLoss; rw [hprovisional, hframe]; rfl
      have hundone : q.bindingUndone = false := by unfold Record.bindingUndone; rw [hprovisional]; rfl
      rw [howes, hundone, loseRecord_owed howes, closeRecord_fields, closedFrame_some hframe, closeFrame_counters, closeFrame_cause]
      rfl

/-- The manifest RAM changes by the closure of the frame alone. -/
theorem ram_loseRecord_owed {s : State} {q : Record} {f : Nat} (h : q.owesLoss = true) (hframe : q.frame = some f) :
    (s.loseRecord q).ram = (s.closeFrame f (q.hostTag.getD 0) .lost 0 (logOutcome q .zero)).ram := by
  rw [loseRecord_owed h, closeRecord_fields, closedFrame_some hframe]

theorem ram_loseRecord_of_not {s : State} {q : Record} (h : q.owesLoss = false) : (s.loseRecord q).ram = s.ram := by
  cases hframe : q.frame with
  | none => rw [loseRecord_frameless hframe, closeRecord_fields, closedFrame_none hframe]
  | some f =>
    have hundone : q.bindingUndone = true := by
      unfold Record.owesLoss at h
      unfold Record.bindingUndone
      rw [hframe] at h ⊢
      simpa using h
    rw [loseRecord_undone hundone, closeRecord_fields, closedFrame_none rfl, bindHead_eq]

/-! ### One record after another -/

/-- The records whose frames are closed LOST. -/
def lossesOf (qs : List Record) : List Record := qs.filter Record.owesLoss

theorem lossesOf_cons (q : Record) (qs : List Record) : lossesOf (q :: qs) = if q.owesLoss = true then q :: lossesOf qs else lossesOf qs :=
  List.filter_cons

/-- `t` with what the loss of records can change taken from `s`. -/
def State.besideLoss (t s : State) : State :=
  { t with
    ram := s.ram
    counters := s.counters
    cause := s.cause
    queue := s.queue
    feed := { t.feed with marks := s.feed.marks }
    holds := { t.holds with transitFull := s.holds.transitFull }
    manifest := s.manifest }

/-- What the loss of some records leaves beside the manifest RAM. -/
structure Lost (s t : State) (qs : List Record) : Prop where
  beside : t.besideLoss s = s
  manifest : t.manifest = { s.manifest with
    staged := if qs.any Record.bindingUndone = true then unboundHead s.manifest.staged else s.manifest.staged }
  queue : t.queue = s.queue.filter fun x => qs.all fun q => x.tag != q.tag
  counters : t.counters = { s.counters with closures := s.counters.closures + BitVec.ofNat 16 (lossesOf qs).length }
  causes : ∀ c, t.pendingCause c = (s.pendingCause c || decide (c = .closed ∧ lossesOf qs ≠ []))

theorem Lost.refl (s : State) : Lost s s [] where
  beside := rfl
  manifest := rfl
  queue := (List.filter_eq_self.mpr fun _ _ => rfl).symm
  counters := by
    have hzero : s.counters.closures + BitVec.ofNat 16 (lossesOf []).length = s.counters.closures := BitVec.add_zero _
    rw [hzero]
  causes c := by rw [decide_eq_false (fun h => h.2 rfl), Bool.or_false]

theorem Lost.first (s : State) (q : Record) {t : State} {qs : List Record} (h : Lost (s.loseRecord q) t qs) : Lost s t (q :: qs) := by
  have hfields := loseRecord_fields s q
  generalize s.loseRecord q = u at h hfields
  generalize u.ram = m at hfields
  subst hfields
  refine ⟨?_, ?_, ?_, ?_, fun c => ?_⟩
  · have g := congrArg (fun z : State => z.besideLoss s) h.beside
    exact g
  · rw [h.manifest, List.any_cons]
    dsimp only
    cases q.bindingUndone with
    | false => rfl
    | true =>
      rw [Bool.true_or, if_pos rfl, if_pos rfl]
      split
      · rw [unboundHead_twice]
      · rfl
  · rw [h.queue]
    dsimp only
    rw [List.filter_filter]
    exact List.filter_congr fun x _ => by rw [List.all_cons, Bool.and_comm]
  · rw [h.counters, lossesOf_cons]
    dsimp only
    cases q.owesLoss with
    | false => rfl
    | true =>
      have hsum : s.counters.closures + 1 + BitVec.ofNat 16 (lossesOf qs).length =
          s.counters.closures + BitVec.ofNat 16 ((lossesOf qs).length + 1) := by
        rw [BitVec.add_assoc, BitVec.ofNat_add, BitVec.add_comm 1]
        rfl
      rw [if_pos rfl, if_pos rfl, List.length_cons, ← hsum]
  · rw [h.causes, lossesOf_cons]
    cases q.owesLoss with
    | false => rfl
    | true =>
      have hraised : ∀ u : State, u.cause = s.cause ||| oneBit Cause.closed.place →
          u.pendingCause c = (s.pendingCause c || decide (c = .closed)) := fun u hu => by
        rw [pendingCause_congr (s := s.raise .closed) hu, State.pendingCause_raise, Bool.or_comm]
        exact congrArg (s.pendingCause c || ·) (decide_eq_decide.mpr ⟨Eq.symm, Eq.symm⟩)
      rw [if_pos rfl, if_pos rfl, hraised _ rfl]
      rw [Bool.or_assoc, ← Bool.decide_or]
      exact congrArg (s.pendingCause c || ·) (decide_eq_decide.mpr ⟨fun h => ⟨h.elim id fun h => h.1, nofun⟩, fun h => .inl h.1⟩)

theorem lost_foldl : ∀ (qs : List Record) (s : State), Lost s (qs.foldl State.loseRecord s) qs
  | [], s => .refl s
  | q :: qs, s => .first s q (lost_foldl qs (s.loseRecord q))

/-! ### Their frames -/

/-- No byte but those the closures write. -/
theorem read_foldl_loseRecord {a : Nat} : ∀ {qs : List Record} {s : State},
    (∀ q ∈ lossesOf qs, ∀ f, q.frame = some f → a ≠ frameAddr f 2 ∧ (a < frameAddr f 128 ∨ frameAddr f 256 ≤ a)) →
      (qs.foldl State.loseRecord s).ram.read a = s.ram.read a
  | [], _, _ => rfl
  | q :: qs, s, h => by
    rw [lossesOf_cons] at h
    cases howes : q.owesLoss with
    | false =>
      rw [howes] at h
      rw [List.foldl_cons, read_foldl_loseRecord (qs := qs) h, ram_loseRecord_of_not howes]
    | true =>
      rw [howes, if_pos rfl] at h
      obtain ⟨f, hf⟩ : ∃ f, q.frame = some f := by
        unfold Record.owesLoss at howes
        rw [Bool.and_eq_true] at howes
        exact Option.isSome_iff_exists.mp howes.2
      obtain ⟨hstate, hout⟩ := h q List.mem_cons_self f hf
      rw [List.foldl_cons, read_foldl_loseRecord (qs := qs) fun x hx => h x (List.mem_cons_of_mem _ hx), ram_loseRecord_owed howes hf,
        closeFrame_read hstate (by simpa only [frameAddr, Nat.add_mul, Nat.mul_add, Nat.add_zero] using hout)]

theorem lossesOf_frame {q : Record} {qs : List Record} (h : q ∈ lossesOf qs) : ∃ f, q.frame = some f := by
  have howes := (List.mem_filter.mp h).2
  unfold Record.owesLoss at howes
  rw [Bool.and_eq_true] at howes
  exact Option.isSome_iff_exists.mp howes.2

/-- A frame that no later loss owes is left as it is. -/
theorem frame_foldl_loseRecord {qs : List Record} {s : State} {f : Nat} (h : ∀ q ∈ lossesOf qs, q.frame ≠ some f) :
    (qs.foldl State.loseRecord s).frameState f = s.frameState f
      ∧ (qs.foldl State.loseRecord s).ram.readBytes (frameAddr f 128) 128 = s.ram.readBytes (frameAddr f 128) 128 := by
  have hread : ∀ k, k < 256 → (qs.foldl State.loseRecord s).ram.read (frameAddr f k) = s.ram.read (frameAddr f k) := fun k hk =>
    read_foldl_loseRecord fun q hq g hg => by
      have hne : g ≠ f := fun hgf => h q hq (hgf ▸ hg)
      simp only [frameAddr]
      omega
  refine ⟨hread 2 (by decide), Memory.readBytes_congr fun k hk => ?_⟩
  have haddr : frameAddr f 128 + k = frameAddr f (128 + k) := by simp only [frameAddr]; omega
  rw [haddr, hread (128 + k) (by omega)]

/-- The outcome of a record closed LOST, with its place among the losses as its sequence number. -/
theorem outcome_foldl_loseRecord {q : Record} {f : Nat} (hframe : q.frame = some f) : ∀ {qs : List Record} {s : State} {k : Nat},
    (lossesOf qs)[k]? = some q → s.frameState f = 2 → ((lossesOf qs).map Record.frame).Nodup →
      (qs.foldl State.loseRecord s).frameState f = 3 ∧ (qs.foldl State.loseRecord s).ram.readBytes (frameAddr f 128) 128 =
        outcomeSection .lost 0 (s.counters.closures + BitVec.ofNat 16 (k + 1)) (q.hostTag.getD 0) s.now (logOutcome q .zero)
  | [], _, _, hk, _, _ => nomatch hk
  | x :: qs, s, k, hk, htaken, hnodup => by
    have hnow : (s.loseRecord x).now = s.now := by rw [loseRecord_fields]
    have hcounters : (s.loseRecord x).counters =
        if x.owesLoss = true then { s.counters with closures := s.counters.closures + 1 } else s.counters := by rw [loseRecord_fields]
    rw [lossesOf_cons] at hk hnodup
    rw [List.foldl_cons]
    cases howes : x.owesLoss with
    | false =>
      rw [howes] at hk hnodup hcounters
      have hthen := outcome_foldl_loseRecord hframe (s := s.loseRecord x) hk
        (by unfold State.frameState; rw [ram_loseRecord_of_not howes]; exact htaken) hnodup
      rw [hcounters, hnow] at hthen
      exact hthen
    | true =>
      rw [howes, if_pos rfl] at hk hnodup hcounters
      rw [List.map_cons, List.nodup_cons] at hnodup
      obtain ⟨hx, hnodup⟩ := hnodup
      have hothers : ∀ g, x.frame = some g → ∀ y ∈ lossesOf qs, y.frame ≠ some g := fun g hg y hy hyg =>
        hx (List.mem_map.mpr ⟨y, hy, hyg.trans hg.symm⟩)
      obtain ⟨g, hg⟩ := lossesOf_frame (q := x) (qs := [x]) (by rw [lossesOf_cons, howes]; exact List.mem_cons_self)
      cases k with
      | zero =>
        cases Option.some.inj hk
        cases Option.some.inj (hg.symm.trans hframe)
        obtain ⟨hstate, hbytes⟩ := frame_foldl_loseRecord (s := s.loseRecord q) (hothers f hg)
        rw [hstate, hbytes]
        unfold State.frameState
        rw [ram_loseRecord_owed howes hg]
        exact ⟨frameState_closeFrame _ _ _ _ _ _ htaken, outcome_closeFrame _ _ _ _ _ _ htaken⟩
      | succ k =>
        have hmem : q ∈ lossesOf qs := List.mem_of_getElem? hk
        have hne : f ≠ g := fun hfg => hothers g hg q hmem (hfg ▸ hframe)
        have hstill : (s.loseRecord x).frameState f = 2 := by
          unfold State.frameState
          rw [ram_loseRecord_owed howes hg, closeFrame_read]
          · exact htaken
          · simp only [frameAddr]; omega
          · simp only [frameAddr]; omega
        have hthen := outcome_foldl_loseRecord hframe (s := s.loseRecord x) (k := k) hk hstill hnodup
        have hsum : s.counters.closures + 1 + BitVec.ofNat 16 (k + 1) = s.counters.closures + BitVec.ofNat 16 (k + 1 + 1) := by
          rw [BitVec.add_assoc, BitVec.ofNat_add (k + 1), BitVec.add_comm 1]
          rfl
        rw [hcounters, hnow] at hthen
        dsimp only at hthen
        rwa [hsum] at hthen

end Sys2Proof.Machine
end

section
/-! PROOF. The teardown (R84): the LIFT of every arm in service, the park timers, and what a TRACK fault leaves (R171). -/

namespace Sys2Proof.Machine

/-! ### What an arm asked a LIFT holds -/

/-- An arm in service that has been asked a LIFT: at the aperture already, or LIFTING to it, for the record of the tag. -/
structure LiftTaken (c d : Arm) (held : Bool) (aperture : Nat) (t : Option Tag) : Prop where
  record : d.tag = t
  opens : d.aperture = aperture
  state : d.state = if c.state = .opened ∧ c.aperture = aperture then .opened else .lifting
  request : d.state = .lifting → flowFits c.state c.flow = true → ∃ x, d.flow.request? = some x ∧ x.kind = .lift ∧ x.value = aperture
    ∧ (c.state ≠ .lifting → x.cls = .urgent ∧ x.wake = decide (c.state = .parked))
  deferred : d.state = .lifting → c.state ≠ .lifting → held = true → c.flow.isWaiting = false →
    d.flow = .deferred aperture (decide (c.state = .parked))

section
variable {c d : Arm} {held : Bool} {aperture : Nat} {t : Option Tag}

/-- A new LIFT. -/
theorem LiftTaken.of_new {wake : Bool} (hopened : ¬ (c.state = .opened ∧ c.aperture = aperture)) (hwake : wake = decide (c.state = .parked))
    (hd : d = { c.startLift aperture t with
      flow := if held = true then .deferred aperture wake else .waiting ⟨.lift, aperture, .urgent, wake⟩ }) :
    LiftTaken c d held aperture t := by
  subst hd hwake
  refine ⟨rfl, rfl, (if_neg hopened).symm, fun _ _ => ⟨⟨.lift, aperture, .urgent, decide (c.state = .parked)⟩, ?_, rfl, rfl, fun _ => ⟨rfl, rfl⟩⟩,
    fun _ _ hheld _ => if_pos hheld⟩
  cases held <;> rfl

theorem liftTaken_of_lifting (h : c.state = .lifting) (held : Bool) (aperture : Nat) (t : Option Tag) :
    LiftTaken c (c.askedLift held aperture t) held aperture t := by
  have hopened : ¬ (c.state = .opened ∧ c.aperture = aperture) := fun ⟨k, _⟩ => by rw [h] at k; exact nomatch k
  cases hflow : c.flow with
  | idle => exact .of_new hopened (by rw [h]; rfl) (askedLift_lifting_idle held aperture t h hflow)
  | waiting q =>
    rw [askedLift_lifting_waiting held aperture t h hflow]
    refine ⟨rfl, rfl, h.trans (if_neg hopened).symm, fun _ hfits => ⟨_, rfl, ?_, rfl, fun k => absurd h k⟩, fun _ k => absurd h k⟩
    rw [h, hflow] at hfits
    exact beq_iff_eq.mp hfits
  | inFlight q granted timeout =>
    have hkind : flowFits c.state c.flow = true → q.kind = .lift := fun hfits => by
      rw [h, hflow] at hfits
      exact beq_iff_eq.mp hfits
    by_cases hvalue : q.value = aperture
    · rw [askedLift_lifting_same held aperture t h hflow hvalue]
      exact ⟨rfl, rfl, h.trans (if_neg hopened).symm, fun _ hfits => ⟨q, congrArg Flow.request? hflow, hkind hfits, hvalue, fun k => absurd h k⟩,
        fun _ k => absurd h k⟩
    · rw [askedLift_lifting_inFlight held aperture t h hflow hvalue]
      exact ⟨rfl, rfl, h.trans (if_neg hopened).symm, fun _ hfits => ⟨_, rfl, hkind hfits, rfl, fun k => absurd h k⟩, fun _ k => absurd h k⟩
  | deferred p wake =>
    rw [askedLift_lifting_deferred held aperture t h hflow]
    exact ⟨rfl, rfl, h.trans (if_neg hopened).symm, fun _ _ => ⟨_, rfl, rfl, rfl, fun k => absurd h k⟩, fun _ k => absurd h k⟩

theorem liftTaken_of_opened (h : c.state = .opened) (held : Bool) (aperture : Nat) (t : Option Tag) :
    LiftTaken c (c.askedLift held aperture t) held aperture t := by
  by_cases haperture : c.aperture = aperture
  · rw [askedLift_opened_same held t h haperture]
    have hstays : ¬ c.state = .lifting := by rw [h]; decide
    exact ⟨rfl, haperture, h.trans (if_pos ⟨h, haperture⟩).symm, fun k => absurd k hstays, fun k => absurd k hstays⟩
  · exact .of_new (fun k => haperture k.2) (by rw [h]; rfl) (askedLift_opened_new held t h haperture)

theorem liftTaken_of_waitingCharge (h : c.state = .engaged) {q : FlowRequest} (hflow : c.flow = .waiting q) (held : Bool) (aperture : Nat)
    (t : Option Tag) : LiftTaken c (c.askedLift held aperture t) held aperture t := by
  rw [askedLift_engaged_waiting held aperture t h hflow]
  refine ⟨rfl, rfl, (if_neg fun k => ?_).symm, fun _ _ => ⟨_, rfl, rfl, rfl, fun _ => ⟨rfl, ?_⟩⟩, fun _ _ _ k => ?_⟩
  · rw [h] at k; exact nomatch k.1
  · rw [h]; rfl
  · rw [hflow] at k; exact nomatch k

/-- What the table of R114 leaves of an arm in service. -/
theorem liftTaken_askedLift (hout : c.state ≠ .out) (held : Bool) (aperture : Nat) (t : Option Tag) :
    LiftTaken c (c.askedLift held aperture t) held aperture t := by
  by_cases hlifting : c.state = .lifting
  · exact liftTaken_of_lifting hlifting held aperture t
  by_cases hopened : c.state = .opened
  · exact liftTaken_of_opened hopened held aperture t
  by_cases hwaits : c.state = .engaged ∧ c.flow.isWaiting = true
  · obtain ⟨hengaged, hwaits⟩ := hwaits
    obtain ⟨q, hq⟩ := isWaiting_iff.mp hwaits
    exact liftTaken_of_waitingCharge hengaged hq held aperture t
  · exact .of_new (fun k => hopened k.1) rfl (askedLift_new held aperture t
      (fun hengaged => Bool.eq_false_iff.mpr fun k => hwaits ⟨hengaged, k⟩) hopened hlifting hout)

end

/-- A grant leaves all of it but the flow, whose request stays the same. -/
theorem LiftTaken.granted {u t : State} {a : ArmId} {c d : Arm} {held : Bool} {aperture : Nat} {tag : Option Tag}
    (h : LiftTaken c d held aperture tag) (k : GrantedFrom u t a d) : LiftTaken c (t.arm a) held aperture tag := by
  rcases k with k | ⟨q, hq, k⟩
  · rw [k]; exact h
  · rw [k]
    have hstate : (d.granted q u.now (moveTimeout u.geometry q)).state = d.state := state_granted ..
    have htag : (d.granted q u.now (moveTimeout u.geometry q)).tag = d.tag := by unfold Arm.granted; cases q.kind <;> rfl
    have haperture : (d.granted q u.now (moveTimeout u.geometry q)).aperture = d.aperture := by unfold Arm.granted; cases q.kind <;> rfl
    refine ⟨htag.trans h.record, haperture.trans h.opens, hstate.trans h.state, fun hlifting hfits => ?_, fun hlifting hc hheld hwaits => ?_⟩
    · obtain ⟨x, hx, hthen⟩ := h.request (hstate.symm.trans hlifting) hfits
      rw [hq] at hx
      exact ⟨x, by rw [flow_granted]; exact hx, hthen⟩
    · have hdeferred := h.deferred (hstate.symm.trans hlifting) hc hheld hwaits
      rw [hq] at hdeferred
      exact nomatch hdeferred

/-! ### The arms of both rotors -/

/-- The arms of a rotor asked a LIFT, those OUT left. -/
theorem arm_teardownLift (s : State) (r : RotorId) (a : ArmId) : (s.teardownLift r).arm a =
    if rotorOf a = r ∧ (s.arm a).state ≠ .out then (s.arm a).askedLift (s.ventHeld a) s.geometry.maxAperture none else s.arm a := by
  have hpark : ∀ b, (s.stopPark r).arm b = s.arm b := fun b => by cases r <;> rfl
  have hheld : ∀ b, (s.stopPark r).ventHeld b = s.ventHeld b := fun b => by
    refine ventHeld_congr ?_ (fun p => ?_) b
    · cases r <;> rfl
    · cases r <;> cases p <;> rfl
  obtain ⟨hkept, hdone⟩ := foldl_oneArm (f := fun u b => u.liftInService s.geometry.maxAperture none b) (R := FlowOnly) .refl
    (fun _ _ _ h k => h.trans k) (fun u b => .liftInService u _ _ b) (fun u b => .liftInService u _ _ b) (s.stopPark r) (nodup_armsOf r)
  by_cases ha : rotorOf a = r
  · obtain ⟨u, hflow, harm, heq⟩ := hdone a ((mem_armsOf a r).mpr ha)
    have hthen : (s.teardownLift r).arm a = (u.liftInService s.geometry.maxAperture none a).arm a := heq
    rw [hpark] at harm
    by_cases hout : (s.arm a).state = .out
    · rw [if_neg (fun h => h.2 hout), hthen, liftInService_out (by rw [harm]; exact hout), harm]
    · rw [if_pos ⟨ha, hout⟩, hthen, arm_liftInService (by rw [harm]; exact hout), harm, hflow.ventHeld, hheld]
  · rw [if_neg (fun h => ha h.1)]
    exact (hkept a fun h => ha ((mem_armsOf a r).mp h)).trans (hpark a)

/-- The state but for requests, moves, grants, targets and park timers. -/
def State.withoutParks (s : State) : State :=
  { s.withoutFlow with rotor1 := { s.withoutFlow.rotor1 with park := none }, rotor2 := { s.withoutFlow.rotor2 with park := none } }

theorem FlowOnly.withoutParks {s t : State} (h : FlowOnly s t) : t.withoutParks = s.withoutParks := by
  have g := congrArg (fun z : State => { z with rotor1 := { z.rotor1 with park := none }, rotor2 := { z.rotor2 with park := none } }) h.1
  exact g

theorem flowOnly_teardownLift (s : State) (r : RotorId) : FlowOnly (s.stopPark r) (s.teardownLift r) :=
  FlowOnly.foldl (fun u b => .liftInService u _ _ b) _ _

theorem teardownLift_kept (s : State) (r : RotorId) : (s.teardownLift r).withoutParks = s.withoutParks ∧ (s.teardownLift r).ram = s.ram
    ∧ ((s.teardownLift r).rotor r).park = none ∧ ∀ p, p ≠ r → ((s.teardownLift r).rotor p).park = (s.rotor p).park := by
  have hflow := flowOnly_teardownLift s r
  refine ⟨hflow.withoutParks.trans ?_, hflow.2.trans ?_, (hflow.parkTimer r).trans ?_, fun p hp => (hflow.parkTimer p).trans ?_⟩
  · cases r <;> rfl
  · cases r <;> rfl
  · cases r <;> rfl
  · cases r with
    | r1 =>
      cases p with
      | r1 => exact absurd rfl hp
      | r2 => rfl
    | r2 =>
      cases p with
      | r1 => rfl
      | r2 => exact absurd rfl hp

end Sys2Proof.Machine
end

section
/-! PROOF. A TRACK fault (R171): the latch, the teardown (R84), and reverse travel beyond the limit (R3). -/

namespace Sys2Proof.Machine

/-! ### The state the teardown lifts from -/

/-- The latch is set, before the records are lost. -/
def State.faulted (s : State) (why : TrackReason) : State :=
  { s with latch := true, feed := s.feed.latched why, holds := { s.holds with trackFault := true }, cause := (s.raise .track).cause }

/-- The records lost and the marks emptied, before the arms are lifted. -/
def State.stripped (s : State) (why : TrackReason) : State :=
  { s.queue.foldl State.loseRecord (s.faulted why) with
    feed := { (s.queue.foldl State.loseRecord (s.faulted why)).feed with marks := .empty } }

theorem trackFault_eq (s : State) (why : TrackReason) :
    s.trackFault why = (((s.stripped why).teardownLift .r1).teardownLift .r2).arbitrate := rfl

theorem eq_of_besideLoss {u v : State} (h : v.besideLoss u = u) : v = { u with
    ram := v.ram
    counters := v.counters
    cause := v.cause
    queue := v.queue
    feed := { u.feed with marks := v.feed.marks }
    holds := { u.holds with transitFull := v.holds.transitFull }
    manifest := v.manifest } := by
  have g := congrArg (fun z : State => { z with
    ram := v.ram
    counters := v.counters
    cause := v.cause
    queue := v.queue
    feed := { z.feed with marks := v.feed.marks }
    holds := { z.holds with transitFull := v.holds.transitFull }
    manifest := v.manifest }) h
  exact g

theorem stripped_eq (s : State) (why : TrackReason) : ∃ full, s.stripped why = { s with
    latch := true
    feed := { s.feed with reason := why, blockage := s.feed.blockage.map fun b => { b with worked := false }, marks := .empty }
    holds := { s.holds with trackFault := true, transitFull := full }
    queue := []
    counters := { s.counters with closures := s.counters.closures + BitVec.ofNat 16 (lossesOf s.queue).length }
    cause := (s.stripped why).cause
    ram := (s.stripped why).ram
    manifest := { s.manifest with
      staged := if s.queue.any Record.bindingUndone = true then unboundHead s.manifest.staged else s.manifest.staged } } := by
  have hlost := lost_foldl s.queue (s.faulted why)
  have hempty : ((s.faulted why).queue.filter fun x => s.queue.all fun q => x.tag != q.tag) = [] := by
    refine List.filter_eq_nil_iff.mpr fun x hx hall => ?_
    have hself := List.all_eq_true.mp hall x hx
    rw [bne_self_eq_false] at hself
    exact nomatch hself
  unfold State.stripped
  generalize s.queue.foldl State.loseRecord (s.faulted why) = v at hlost
  have hqueue := hlost.queue.trans hempty
  have hmanifest := hlost.manifest
  have hcounters := hlost.counters
  have heq := eq_of_besideLoss hlost.beside
  rw [hqueue, hmanifest, hcounters] at heq
  refine ⟨v.holds.transitFull, ?_⟩
  have g := congrArg (fun z : State => { z with feed := { z.feed with marks := .empty } }) heq
  exact g

theorem causes_stripped (s : State) (why : TrackReason) (c : Cause) : (s.stripped why).pendingCause c =
    (decide (Cause.track = c) || s.pendingCause c || decide (c = .closed ∧ lossesOf s.queue ≠ [])) := by
  have hlost := (lost_foldl s.queue (s.faulted why)).causes c
  have hfaulted : (s.faulted why).pendingCause c = (s.raise .track).pendingCause c := pendingCause_congr rfl c
  rw [hfaulted, State.pendingCause_raise] at hlost
  exact hlost

/-- From a state to the end of a teardown: all but requests, moves, grants, targets and park timers, which stop, stands. -/
structure TornDown (x t : State) : Prop where
  rest : t.withoutParks = x.withoutParks
  ram : t.ram = x.ram
  park : ∀ r, (t.rotor r).park = none
  arms : ∀ a, GrantedFrom x t a
    (if (x.arm a).state ≠ .out then (x.arm a).askedLift (x.ventHeld a) x.geometry.maxAperture none else x.arm a)

theorem teardownLift_conditions (s : State) (r : RotorId) :
    (∀ a, (s.teardownLift r).ventHeld a = s.ventHeld a) ∧ (s.teardownLift r).geometry = s.geometry ∧ (s.teardownLift r).now = s.now := by
  have hflow := flowOnly_teardownLift s r
  refine ⟨fun a => (hflow.ventHeld a).trans (ventHeld_congr ?_ (fun p => ?_) a), hflow.geometry.trans ?_, hflow.now.trans ?_⟩
  · cases r <;> rfl
  · cases r <;> cases p <;> rfl
  · cases r <;> rfl
  · cases r <;> rfl

theorem tornDown (x : State) : TornDown x ((x.teardownLift .r1).teardownLift .r2).arbitrate := by
  obtain ⟨hheld, hgeometry, hnow⟩ := teardownLift_conditions x .r1
  obtain ⟨-, hgeometry', hnow'⟩ := teardownLift_conditions (x.teardownLift .r1) .r2
  obtain ⟨hrest1, hram1, hpark1, -⟩ := teardownLift_kept x .r1
  obtain ⟨hrest2, hram2, hpark2, hother⟩ := teardownLift_kept (x.teardownLift .r1) .r2
  have harbitrate := FlowOnly.arbitrate ((x.teardownLift .r1).teardownLift .r2)
  refine ⟨harbitrate.withoutParks.trans (hrest2.trans hrest1), harbitrate.2.trans (hram2.trans hram1), fun r => ?_, fun a => ?_⟩
  · rw [harbitrate.parkTimer]
    cases r with
    | r1 => exact (hother .r1 (by decide)).trans hpark1
    | r2 => exact hpark2
  · refine (GrantedFrom.of_eq (u := x) ?_).then_only (hnow'.trans hnow) (hgeometry'.trans hgeometry) (grantedOnly_arbitrate _ a)
    rw [arm_teardownLift, hheld, hgeometry, arm_teardownLift]
    cases hrotor : rotorOf a with
    | r1 =>
      rw [if_neg (fun h => nomatch h.1)]
      simp only [true_and]
    | r2 =>
      rw [if_neg (c := RotorId.r2 = .r1 ∧ _) (fun h => nomatch h.1)]
      simp only [true_and]

/-! ### What a field of the state keeps -/

section
variable {x t : State} (h : TornDown x t)
include h

theorem TornDown.latch : t.latch = x.latch := by have k := congrArg State.latch h.rest; exact k
theorem TornDown.holds : t.holds = x.holds := by have k := congrArg State.holds h.rest; exact k
theorem TornDown.cause : t.cause = x.cause := by have k := congrArg State.cause h.rest; exact k
theorem TornDown.feed : t.feed = x.feed := by have k := congrArg State.feed h.rest; exact k
theorem TornDown.manifest : t.manifest = x.manifest := by have k := congrArg State.manifest h.rest; exact k
theorem TornDown.counters : t.counters = x.counters := by have k := congrArg State.counters h.rest; exact k
theorem TornDown.species : t.species = x.species := by have k := congrArg State.species h.rest; exact k
theorem TornDown.supply : t.supply = x.supply := by have k := congrArg State.supply h.rest; exact k
theorem TornDown.mode : t.mode = x.mode := by have k := congrArg State.mode h.rest; exact k
theorem TornDown.pins : t.pins = x.pins := by have k := congrArg State.pins h.rest; exact k
theorem TornDown.geometry : t.geometry = x.geometry := by have k := congrArg State.geometry h.rest; exact k
theorem TornDown.now : t.now = x.now := by have k := congrArg State.now h.rest; exact k
theorem TornDown.drive1 : t.rotor1.drive = x.rotor1.drive := by have k := congrArg (fun z : State => z.rotor1.drive) h.rest; exact k
theorem TornDown.drive2 : t.rotor2.drive = x.rotor2.drive := by have k := congrArg (fun z : State => z.rotor2.drive) h.rest; exact k

theorem TornDown.queue_nil (hx : x.queue = []) : t.queue = [] := by
  have k : t.queue.map Record.withoutTargets = x.queue.map Record.withoutTargets := by have k := congrArg State.queue h.rest; exact k
  rw [hx] at k
  exact List.map_eq_nil_iff.mp k

end

/-- What a TRACK fault leaves beside arms, records, frames and counters. -/
structure TrackFaulted (s t : State) (why : TrackReason) : Prop where
  latch : t.latch = true
  trackFault : t.holds.trackFault = true
  causes : ∀ c, t.pendingCause c =
    (decide (Cause.track = c) || s.pendingCause c || decide (c = .closed ∧ lossesOf s.queue ≠ []))
  queue : t.queue = []
  feed : t.feed = { s.feed with reason := why, blockage := s.feed.blockage.map fun b => { b with worked := false }, marks := .empty }
  manifest : t.manifest = { s.manifest with
    staged := if s.queue.any Record.bindingUndone = true then unboundHead s.manifest.staged else s.manifest.staged }
  counters : t.counters = { s.counters with closures := s.counters.closures + BitVec.ofNat 16 (lossesOf s.queue).length }
  species : t.species = s.species
  supply : t.supply = s.supply
  drive1 : t.rotor1.drive = s.rotor1.drive
  drive2 : t.rotor2.drive = s.rotor2.drive
  mode : t.mode = s.mode
  pins : t.pins = s.pins
  geometry : t.geometry = s.geometry
  now : t.now = s.now

theorem trackFaulted (s : State) (why : TrackReason) : TrackFaulted s (s.trackFault why) why := by
  have hdone := tornDown (s.stripped why)
  have hcauses := causes_stripped s why
  obtain ⟨full, hstripped⟩ := stripped_eq s why
  rw [← trackFault_eq] at hdone
  generalize s.trackFault why = t at hdone
  generalize s.stripped why = x at hdone hcauses hstripped
  generalize x.ram = m at hstripped
  generalize x.cause = cause at hstripped
  refine ⟨?_, ?_, fun c => (pendingCause_congr hdone.cause c).trans (hcauses c), hdone.queue_nil ?_, ?_, ?_, ?_, ?_, ?_, ?_, ?_, ?_, ?_, ?_, ?_⟩
  · rw [hdone.latch, hstripped]
  · rw [hdone.holds, hstripped]
  · rw [hstripped]
  · rw [hdone.feed, hstripped]
  · rw [hdone.manifest, hstripped]
  · rw [hdone.counters, hstripped]
  · rw [hdone.species, hstripped]
  · rw [hdone.supply, hstripped]
  · rw [hdone.drive1, hstripped]
  · rw [hdone.drive2, hstripped]
  · rw [hdone.mode, hstripped]
  · rw [hdone.pins, hstripped]
  · rw [hdone.geometry, hstripped]
  · rw [hdone.now, hstripped]

theorem frames_unboundHead (l : List StagedTicket) : (unboundHead l).map StagedTicket.frame = l.map StagedTicket.frame := by
  cases l <;> rfl

/-! ### The statements -/

/-- Settles O8: the fields a TRACK fault sets and keeps, and reverse travel beyond the limit by the latch. -/
theorem trackFaultTearsDownTheQueue : Obligations.TrackFaultTearsDownTheQueue := by
  unfold Obligations.TrackFaultTearsDownTheQueue
  refine ⟨fun s why => ?_, fun s x i o hrun hmoving hedges hmode hlimit hx => ?_⟩
  · have h := trackFaulted s why
    generalize s.trackFault why = t at h
    refine ⟨h.latch, h.trackFault, ?_, h.queue, h.feed, ?_, h.species, h.supply, h.drive1, h.drive2, h.mode⟩
    · rw [h.causes, decide_eq_true rfl, Bool.true_or, Bool.true_or]
    · rw [h.manifest]
      dsimp only
      split
      · exact frames_unboundHead _
      · rfl
  · have hstep : (s.withEyes i o).edgeCounted.reverseEdge = if s.latch then x else x.trackFault .reverse := by
      rw [hx]
      exact reverseEdge_beyond (s := (s.withEyes i o).edgeCounted) hedges hmode hlimit
    refine ⟨fun hlatch => edge_reaches hrun hmoving State.reverseEdge takeEdge_reverse (hstep.trans ?_),
      fun hlatch => edge_reaches hrun hmoving State.reverseEdge takeEdge_reverse (hstep.trans ?_)⟩
    · rw [hlatch]; rfl
    · rw [hlatch]; rfl

/-- Settles O9: the records are lost one by one, their frames closed in queue order, and every arm in service takes the LIFT of the
table. -/
theorem teardownLiftsTheArmsAndClosesTheRecords : Obligations.TeardownLiftsTheArmsAndClosesTheRecords := by
  unfold Obligations.TeardownLiftsTheArmsAndClosesTheRecords
  intro s t why held ht hheld
  subst ht
  have h := trackFaulted s why
  have hdone := tornDown (s.stripped why)
  have hram : (s.stripped why).ram = (s.queue.foldl State.loseRecord (s.faulted why)).ram := rfl
  obtain ⟨full, hstripped⟩ := stripped_eq s why
  rw [← trackFault_eq] at hdone
  have harms : ∀ a, (s.stripped why).arm a = s.arm a := fun a => by rw [hstripped]; rfl
  have hvent : ∀ a, (s.stripped why).ventHeld a = s.ventHeld a := fun a => by rw [hstripped]; rfl
  have hgeometry : (s.stripped why).geometry = s.geometry := by rw [hstripped]
  have hnow : (s.stripped why).now = s.now := by rw [hstripped]
  have hlosses : held = lossesOf s.queue := hheld
  have hram' := hdone.ram.trans hram
  have harm := hdone.arms
  generalize s.trackFault why = t at h hdone hram' harm
  refine ⟨hdone.park .r1, hdone.park .r2, fun a hout => ?_, fun a hout => ?_, ?_, ?_, fun hne => ?_, fun k q f hk hf htaken hnodup => ?_,
    fun a ha => ?_⟩
  · have hgrant := harm a
    rw [harms, if_neg (not_not.mpr hout)] at hgrant
    unfold GrantedFrom at hgrant
    rw [hnow, hgeometry] at hgrant
    exact hgrant
  · have hgrant := harm a
    rw [harms, hvent, hgeometry, if_pos hout] at hgrant
    have htakes := (liftTaken_askedLift hout (s.ventHeld a) s.geometry.maxAperture none).granted hgrant
    exact ⟨htakes.record, htakes.opens, htakes.state, htakes.request, htakes.deferred⟩
  · exact h.manifest
  · rw [h.counters, hlosses]
  · rw [h.causes, decide_eq_true (p := Cause.closed = .closed ∧ lossesOf s.queue ≠ []) ⟨rfl, hlosses ▸ hne⟩, Bool.or_true]
  · rw [hlosses] at hk hnodup
    obtain ⟨hstate, hbytes⟩ := outcome_foldl_loseRecord (s := s.faulted why) hf hk htaken hnodup
    unfold State.frameState
    rw [hram']
    exact ⟨hstate, hbytes⟩
  · rw [hlosses] at ha
    rw [hram']
    exact read_foldl_loseRecord (s := s.faulted why) ha

end Sys2Proof.Machine
end

section
/-! PROOF. What the head and tail events leave of the Feed Tracker, and a new-peak step's declarations (R2, R4 to R12). -/

namespace Sys2Proof.Machine

/-! ### What a head event, a tail event or a fault leaves -/

/-- The Feed Tracker but for what events change: its marks, the blockage and the reason. -/
def Feed.travel (f : Feed) : Feed := { f with marks := .empty, blockage := none, reason := .noFault }

/-- From `s` to `t` the pins, the geometry, the mode, the time and the tracker's travel and eyes stay; the blockage stays or is made
unworked. -/
structure TravelKept (s t : State) : Prop where
  pins : t.pins = s.pins
  geometry : t.geometry = s.geometry
  mode : t.mode = s.mode
  now : t.now = s.now
  travel : t.feed.travel = s.feed.travel
  blockage : t.feed.blockage = s.feed.blockage ∨ t.feed.blockage = s.feed.blockage.map fun b => { b with worked := false }

theorem TravelKept.refl (s : State) : TravelKept s s := ⟨rfl, rfl, rfl, rfl, rfl, .inl rfl⟩

theorem TravelKept.trans {s t u : State} (h : TravelKept s t) (k : TravelKept t u) : TravelKept s u where
  pins := k.pins.trans h.pins
  geometry := k.geometry.trans h.geometry
  mode := k.mode.trans h.mode
  now := k.now.trans h.now
  travel := k.travel.trans h.travel
  blockage := by
    have twice : ∀ x : Option Blockage, (x.map fun b => { b with worked := false }).map (fun b => { b with worked := false }) =
        x.map fun b => { b with worked := false } := fun x => by cases x <;> rfl
    rcases k.blockage with k | k
    · rw [k]; exact h.blockage
    · rcases h.blockage with h | h
      · rw [k, h]; exact .inr rfl
      · rw [k, h, twice]; exact .inr rfl

section
variable {s t : State} (h : TravelKept s t)
include h

theorem TravelKept.eyeIn : t.feed.eyeIn = s.feed.eyeIn := by have k := congrArg Feed.eyeIn h.travel; exact k
theorem TravelKept.eyeOut : t.feed.eyeOut = s.feed.eyeOut := by have k := congrArg Feed.eyeOut h.travel; exact k
theorem TravelKept.position : t.feed.position = s.feed.position := by have k := congrArg Feed.position h.travel; exact k
theorem TravelKept.motion : t.feed.motion = s.feed.motion := by have k := congrArg Feed.motion h.travel; exact k
theorem TravelKept.stall : t.feed.stall = s.feed.stall := by have k := congrArg Feed.stall h.travel; exact k

/-- A worked blockage was worked before. -/
theorem TravelKept.worked {p : Option Pos} (k : t.feed.blockage = some ⟨true, p⟩) : s.feed.blockage = some ⟨true, p⟩ := by
  rcases h.blockage with h | h
  · exact h.symm.trans k
  · rw [h] at k
    cases hb : s.feed.blockage with
    | none => rw [hb] at k; exact nomatch k
    | some b => rw [hb] at k; exact nomatch k

end

theorem TravelKept.of_eq {s t : State} (pins : t.pins = s.pins) (geometry : t.geometry = s.geometry) (mode : t.mode = s.mode)
    (now : t.now = s.now) (feed : t.feed = s.feed) : TravelKept s t := ⟨pins, geometry, mode, now, by rw [feed], .inl (by rw [feed])⟩

theorem TravelKept.of_steady {s t : State} (h : Steady s t) : TravelKept s t where
  pins := h.pins
  geometry := h.geometry
  mode := h.mode
  now := h.now
  travel := by
    have k := congrArg Feed.travel h.feed
    exact k
  blockage := .inl (by have k := congrArg Feed.blockage h.feed; exact k)

theorem TravelKept.of_worked {s t : State} (h : Worked s t) : TravelKept s t := .of_steady (.of_worked h)

theorem TravelKept.trackFault (s : State) (why : TrackReason) : TravelKept s (s.trackFault why) := by
  have h := trackFaulted s why
  refine ⟨h.pins, h.geometry, h.mode, h.now, ?_, .inr ?_⟩
  · rw [h.feed]; rfl
  · rw [h.feed]

theorem TravelKept.ite {p : Prop} [Decidable p] {s t u : State} (h : TravelKept s t) (k : TravelKept s u) :
    TravelKept s (if p then t else u) := by
  split
  · exact h
  · exact k

/-! ### The head event -/

theorem TravelKept.requestScan (s : State) : TravelKept s s.requestScan := by
  unfold State.requestScan
  exact .ite (.refl s) (.ite (.of_eq rfl rfl rfl rfl rfl) (.of_eq rfl rfl rfl rfl rfl))

theorem TravelKept.headScan (s : State) : TravelKept s s.headScan := .ite (.requestScan s) (.refl s)

theorem TravelKept.bindHead (s : State) (b : Bool) : TravelKept s (s.bindHead b) := by
  unfold State.bindHead
  split
  · exact .of_eq rfl rfl rfl rfl rfl
  · exact .refl s

theorem TravelKept.arming (s : State) (c : Client) (t : Tag) (p : MarkPurpose) (x : Pos) : TravelKept s (State.arming s c t p x) :=
  .of_steady (steady_arming s c t p x)

theorem TravelKept.armIfCurrent (s : State) (r : RotorId) (q : Record) : TravelKept s (s.armIfCurrent r q) := by
  unfold State.armIfCurrent
  split
  · exact .ite (.arming ..) (.refl s)
  · exact .refl s

theorem TravelKept.createRecord (s : State) (t : Tag) (head : Pos) : TravelKept s (s.createRecord t head) := by
  have bound : TravelKept s (if s.headIsLog then s.bindHead true else s) := .ite (.bindHead s true) (.refl s)
  have appended : ∀ u : State, ∀ q, TravelKept u { u with queue := u.queue ++ [q], temp := u.temp.hold q } := fun u q =>
    .of_eq rfl rfl rfl rfl rfl
  have full : ∀ u : State, TravelKept u (if u.queue.length ≥ maxRecords then u.putHold .transitFull true else u) := fun u =>
    .ite (.of_eq rfl rfl rfl rfl rfl) (.refl u)
  exact (bound.trans ((appended _ _).trans (full _))).trans ((TravelKept.armIfCurrent _ .r1 _).trans (.armIfCurrent _ .r2 _))

theorem TravelKept.headEvent (s : State) (head : Pos) : TravelKept s (s.headEvent head) := by
  have works : TravelKept s (if s.queue.length < maxRecords then
      match s.freeTag with
      | some t => (s.createRecord t head).headScan
      | none => s.headScan
    else (s.trackFault .queueFull).headScan) := by
    refine .ite ?_ ((TravelKept.trackFault ..).trans (.headScan _))
    cases s.freeTag with
    | none => exact .headScan s
    | some t => exact (TravelKept.createRecord s t head).trans (.headScan _)
  have unworked : TravelKept s { s with counters := { s.counters with unworked := s.counters.unworked + 1 } }.headScan :=
    (TravelKept.of_eq (s := s) (t := { s with counters := { s.counters with unworked := s.counters.unworked + 1 } })
      rfl rfl rfl rfl rfl).trans (.headScan _)
  unfold State.headEvent
  split
  · exact works
  · exact works
  · exact unworked
  · exact unworked

/-! ### The tail event -/

theorem TravelKept.putRecord (s : State) (q : Record) : TravelKept s (s.putRecord q) := .of_eq rfl rfl rfl rfl rfl

theorem TravelKept.checkHead (s : State) : TravelKept s s.checkHead := by
  unfold State.checkHead
  split
  · exact .ite (.of_eq rfl rfl rfl rfl rfl) (.refl s)
  · exact .refl s

theorem TravelKept.departHead (s : State) : TravelKept s s.departHead := by
  have left : TravelKept s { s with manifest := { s.manifest with staged := s.manifest.staged.tail } } := .of_eq rfl rfl rfl rfl rfl
  exact left.trans ((TravelKept.requestScan _).trans (.checkHead _))

theorem TravelKept.counters (s : State) (k : Counters) : TravelKept s { s with counters := k } := .of_eq rfl rfl rfl rfl rfl

theorem TravelKept.confirmLog (s : State) (q : Record) : TravelKept s (s.confirmLog q) := by
  have counted : ∀ u : State, TravelKept u (if lengthOff s.geometry q then
      { u with counters := { u.counters with mismatches := u.counters.mismatches + 1 } } else u) := fun u => .ite (.counters u _) (.refl u)
  exact ((TravelKept.putRecord s _).trans (counted _)).trans (.departHead _)

theorem TravelKept.classify (s : State) (q : Record) : TravelKept s (s.classify q) := by
  have bound : TravelKept s (if q.frame.isSome then s.bindHead false else s) := .ite (.bindHead s false) (.refl s)
  have raised : ∀ u : State, TravelKept u (u.raise .orphan) := fun u => .of_eq rfl rfl rfl rfl rfl
  refine .ite (bound.trans ((TravelKept.counters _ _).trans (.putRecord _ _))) ?_
  split
  · exact .confirmLog s q
  · exact ((TravelKept.counters s _).trans (.putRecord _ _)).trans (raised _)
  · exact .putRecord s q

theorem TravelKept.handOver (s : State) (r : RotorId) (q : Record) : TravelKept s (s.handOver r q) := by
  have relift : ∀ u a, Worked u (u.reliftForStub q.tag a) := fun u a => by
    unfold State.reliftForStub
    dsimp only
    split
    · exact .refl u
    · exact .of_flowOnly (.liftInService u _ _ a)
  unfold State.handOver
  split
  · refine (TravelKept.of_worked (Worked.foldl relift (armsOf r) s)).trans ?_
    exact .ite (.of_worked (.armFirst works_arming _ r q)) (.refl _)
  · split
    · exact .arming ..
    · exact .refl s
  · split
    · exact .arming ..
    · exact .refl s
  · exact .of_worked (.armNearest works_arming s r q)
  · exact .of_worked (.armNearest works_arming s r q)
  · exact .refl s

theorem TravelKept.handOverBoth (s : State) (t : Tag) : TravelKept s (s.handOverBoth t) := by
  unfold State.handOverBoth
  split
  · exact ((TravelKept.handOver s .r1 _).trans (.handOver _ .r2 _)).trans (.of_worked (.of_flowOnly (.arbitrate _)))
  · exact .refl s

theorem TravelKept.tailEvent (s : State) (tail : Pos) : TravelKept s (s.tailEvent tail) := by
  unfold State.tailEvent
  split
  · exact .refl s
  · exact ((TravelKept.classify s _).trans (.handOverBoth _ _)).trans (.arming ..)

end Sys2Proof.Machine
end

section
/-! PROOF. A new-peak step's declarations (R2, R4 to R12), and the end of standstill at a counted edge (R15). -/

namespace Sys2Proof.Machine

/-! ### The infeed eye -/

theorem sample_declares {e : Eye} {raw : EyeLevel} {p q : Pos} {debounce : Nat} (hopen : e.change = some p) (hraw : raw ≠ e.declared)
    (hpassed : (debounce : Int) ≤ posDiff q p) : e.sample raw q debounce = (⟨raw, none⟩, some (raw, p)) := by
  unfold Eye.sample
  rw [hopen]
  dsimp only
  rw [if_neg hraw, if_neg (Int.not_lt.mpr hpassed)]

theorem sample_waits {e : Eye} {raw : EyeLevel} {p q : Pos} {debounce : Nat} (hopen : e.change = some p) (hraw : raw ≠ e.declared)
    (hpassed : posDiff q p < debounce) : e.sample raw q debounce = (e, none) := by
  unfold Eye.sample
  rw [hopen]
  dsimp only
  rw [if_neg hraw, if_pos hpassed]

/-- The state with the infeed eye sampled and a blockage. -/
def State.withInfeed (x : State) (e : Eye) (b : Option Blockage) : State := { x with feed := { x.feed with eyeIn := e, blockage := b } }

/-- The blockage that a BLOCKED declaration begins. -/
def State.blockageAt (x : State) (p : Pos) : Blockage := ⟨decide ((x.mode = .run ∨ x.mode = .hold) ∧ x.latch = false), some p⟩

theorem worked_eq (m : Mode) (latch : Bool) : (m.works && !latch) = decide ((m = .run ∨ m = .hold) ∧ latch = false) := by
  cases m <;> cases latch <;> rfl

theorem sampleInfeed_blocked {x : State} {e : Eye} {p : Pos}
    (h : x.feed.eyeIn.sample x.pins.eyeIn x.feed.position x.geometry.eyeDebounce = (e, some (.blocked, p))) :
    x.sampleInfeed = if x.latch = true then x.withInfeed e (some (x.blockageAt p))
      else (x.withInfeed e (some (x.blockageAt p))).headEvent p := by
  unfold State.sampleInfeed State.blockageAt
  rw [h, ← worked_eq]
  rfl

theorem sampleInfeed_clear {x : State} {e : Eye} {p : Pos}
    (h : x.feed.eyeIn.sample x.pins.eyeIn x.feed.position x.geometry.eyeDebounce = (e, some (.clear, p))) :
    ((∀ q, x.feed.blockage ≠ some ⟨true, q⟩) → x.sampleInfeed = x.withInfeed e none)
      ∧ ∀ q, x.feed.blockage = some ⟨true, q⟩ → x.sampleInfeed = (x.withInfeed e none).tailEvent p := by
  unfold State.sampleInfeed
  rw [h]
  dsimp only
  unfold State.infeedClear
  dsimp only
  refine ⟨fun hnot => ?_, fun q hq => ?_⟩
  · split
    · rename_i b hb
      have hunworked : b.worked = false := Bool.eq_false_iff.mpr fun hw => hnot b.head (hb.trans (by rw [← hw]))
      exact if_neg (by rw [hunworked]; nofun)
    · rfl
  · rw [hq]
    rfl

/-- The sample of the infeed eye, with the event it declares, leaves the tracker's travel and the outfeed eye. -/
theorem sampleInfeed_kept {x : State} {e : Eye} {told : Option (EyeLevel × Pos)}
    (h : x.feed.eyeIn.sample x.pins.eyeIn x.feed.position x.geometry.eyeDebounce = (e, told)) :
    ∃ b, TravelKept (x.withInfeed e b) x.sampleInfeed := by
  cases told with
  | none =>
    rw [sampleInfeed_none h]
    exact ⟨x.feed.blockage, .refl _⟩
  | some said =>
    obtain ⟨level, p⟩ := said
    cases level with
    | blocked =>
      rw [sampleInfeed_blocked h]
      exact ⟨_, .ite (.refl _) (.headEvent _ p)⟩
    | clear =>
      obtain ⟨hquiet, hworked⟩ := sampleInfeed_clear h
      by_cases hb : ∃ q, x.feed.blockage = some ⟨true, q⟩
      · obtain ⟨q, hq⟩ := hb
        rw [hworked q hq]
        exact ⟨none, .tailEvent _ p⟩
      · rw [hquiet fun q hq => hb ⟨q, hq⟩]
        exact ⟨none, .refl _⟩

/-! ### The overlong check -/

theorem TravelKept.checkOverlong (s : State) : TravelKept s s.checkOverlong := .ite (.trackFault ..) (.refl s)

theorem checkOverlong_of {s : State} {h : Pos} (hblockage : s.feed.blockage = some ⟨true, some h⟩) (hchange : s.feed.eyeIn.change = none)
    (hlong : (s.geometry.maxLogLength : Int) ≤ posDiff s.feed.position h) : s.checkOverlong = s.trackFault .overlong :=
  if_pos ((overlong_iff s).mpr ⟨h, hblockage, hchange, hlong⟩)

/-! ### The outfeed eye -/

/-- The state with the outfeed eye sampled. -/
def State.withOutfeed (z : State) (e : Eye) : State := { z with feed := { z.feed with eyeOut := e } }

theorem sampleOutfeed_clear {z : State} {e : Eye} {p : Pos}
    (h : z.feed.eyeOut.sample z.pins.eyeOut z.feed.position z.geometry.eyeDebounce = (e, some (.clear, p))) :
    z.sampleOutfeed = z.withOutfeed e := by
  unfold State.sampleOutfeed
  rw [h]
  rfl

theorem sampleOutfeed_blocked {z : State} {e : Eye} {p : Pos}
    (h : z.feed.eyeOut.sample z.pins.eyeOut z.feed.position z.geometry.eyeDebounce = (e, some (.blocked, p))) :
    z.sampleOutfeed = if z.mode.works then (z.withOutfeed e).checkOutfeed p else z.withOutfeed e := by
  unfold State.sampleOutfeed
  rw [h]
  rfl

theorem checkOutfeed_none {v : State} (h : v.queue.find? (fun q => q.outfeed == .inMachine) = none) (p : Pos) : v.checkOutfeed p = v := by
  unfold State.checkOutfeed
  rw [h]

theorem checkOutfeed_some {v : State} {q : Record} (h : v.queue.find? (fun q => q.outfeed == .inMachine) = some q) (p : Pos) :
    v.checkOutfeed p = if v.geometry.outfeedTolerance < (posDiff p (posAdd q.head v.geometry.d3)).natAbs then v.trackFault .slip else v := by
  unfold State.checkOutfeed
  rw [h]
  dsimp only
  by_cases hwithin : (posDiff p (posAdd q.head v.geometry.d3)).natAbs ≤ v.geometry.outfeedTolerance
  · rw [if_pos hwithin, if_neg (Nat.not_lt.mpr hwithin)]
  · rw [if_neg hwithin, if_pos (Nat.lt_of_not_le hwithin)]

/-- After a fault no record is left whose mark could fire. -/
theorem fireMarks_trackFault (n : Nat) (s : State) (why : TrackReason) : State.fireMarks n (s.trackFault why) = s.trackFault why :=
  fireMarks_of_none n (dueMark_of_empty (trackFaulted s why).queue)

/-! ### The step -/

/-- A new-peak step while feed-run is inactive or the feed MOVING, by the samples it takes. -/
theorem newPeak_reaches {s x u : State} {i o : EyeLevel} (hrun : s.running) (hmoving : s.pins.feedRun = false ∨ s.feed.motion = .moving)
    (hedges : s.geometry.encoderResolution ≤ s.feed.edges + 1) (hpeak : 0 < posDiff (s.feed.position + 1) s.feed.peak)
    (hx : x = (s.withEyes i o).edgeCounted.peaked) (h : State.fireMarks markFuel x.sampleInfeed.checkOverlong.sampleOutfeed = u) :
    Reaches (.encoderEdge .forward i o) s u := by
  subst hx
  exact edge_reaches hrun hmoving State.forwardEdge takeEdge_forward
    ((forwardEdge_newPeak (s := (s.withEyes i o).edgeCounted) hedges hpeak).trans h)

/-- The outfeed sample of a step at which the outfeed eye does not change. -/
theorem sampleOutfeed_still {b y : State} (h : TravelKept b y) (hout : b.feed.eyeOut = ⟨b.pins.eyeOut, none⟩) : y.sampleOutfeed = y :=
  sampleOutfeed_same (by rw [h.eyeOut, h.pins, hout])

/-- The infeed declaration as the step takes it. -/
theorem sampleInfeed_says {x b y : State} {e : Eye} {told : Option (EyeLevel × Pos)}
    (hb : b = { x with feed := { x.feed with eyeIn := e } })
    (hy : y = (match told with
      | none => b
      | some (.blocked, p) =>
        let u : State := { b with feed := { b.feed with
          blockage := some ⟨decide ((x.mode = .run ∨ x.mode = .hold) ∧ x.latch = false), some p⟩ } }
        if x.latch = true then u else u.headEvent p
      | some (.clear, p) =>
        let u : State := { b with feed := { b.feed with blockage := none } }
        match x.feed.blockage with
        | some ⟨true, _⟩ => u.tailEvent p
        | _ => u))
    (h : x.feed.eyeIn.sample x.pins.eyeIn x.feed.position x.geometry.eyeDebounce = (e, told)) : x.sampleInfeed = y := by
  subst hb hy
  cases told with
  | none => exact sampleInfeed_none h
  | some said =>
    obtain ⟨level, p⟩ := said
    cases level with
    | blocked => exact sampleInfeed_blocked h
    | clear =>
      obtain ⟨hquiet, hworked⟩ := sampleInfeed_clear h
      cases hblockage : x.feed.blockage with
      | none => exact hquiet (by rw [hblockage]; nofun)
      | some b =>
        obtain ⟨worked, head⟩ := b
        cases worked with
        | true => exact hworked head hblockage
        | false => exact hquiet (by rw [hblockage]; nofun)

/-- Settles O7: each declaration by the sample that makes it; the events leave the tracker's travel, so that the checks after them read
what the step has sampled. -/
theorem newPeakStepTakesTheEyesDeclarations : Obligations.NewPeakStepTakesTheEyesDeclarations := by
  unfold Obligations.NewPeakStepTakesTheEyesDeclarations
  intro s x i o hrun hmoving hedges hpeak hx short hshort
  have hstep : x = (s.withEyes i o).edgeCounted.peaked := hx
  have hfrom : x.mode = s.mode ∧ x.latch = s.latch ∧ x.geometry = s.geometry ∧ x.queue = s.queue ∧ x.pins.eyeIn = i ∧ x.pins.eyeOut = o
      ∧ x.feed.position = s.feed.position + 1 ∧ x.feed.eyeIn = s.feed.eyeIn ∧ x.feed.eyeOut = s.feed.eyeOut
      ∧ x.feed.blockage = s.feed.blockage := by
    rw [hx]
    exact ⟨rfl, rfl, rfl, rfl, rfl, rfl, rfl, rfl, rfl, rfl⟩
  clear hx
  obtain ⟨hmode, hlatch, hgeometry, hqueue, hini, houto, hposition, hin, hout, hblockage⟩ := hfrom
  rw [← hin, ← hout, ← hblockage, ← hposition, ← hgeometry, ← hmode, ← hlatch, ← hqueue, ← hini, ← houto]
  rw [← hblockage, ← hposition, ← hgeometry] at hshort
  have reach : ∀ {u}, State.fireMarks markFuel x.sampleInfeed.checkOverlong.sampleOutfeed = u →
      Reaches (.encoderEdge .forward x.pins.eyeIn x.pins.eyeOut) s u := fun h => by
    rw [hini, houto]
    exact newPeak_reaches hrun hmoving hedges hpeak hstep h
  clear hstep hin hout hblockage hposition hgeometry hmode hlatch hqueue hini houto
  have quiet : short → ¬ x.overlong = true := fun h hlong => by
    obtain ⟨p, hb, -, hp⟩ := (overlong_iff x).mp hlong
    exact absurd (hshort.mp h p hb) (Int.not_lt.mpr hp)
  refine ⟨fun hin hout h => reach ?_, fun p hi hin hdebounce hlength hout y hy => ?_, fun p hi hin hdebounce hout y hy => ?_,
    fun p hi hin hdebounce hout => reach ?_, fun p hi hin hb hlong hout => reach ?_, fun p ho hout hin h hdebounce y hy => ?_,
    fun p ho hout hin h hdebounce => reach ?_, fun inEye outEye inSays outSays b y z v w hsampleIn hsampleOut hb hy hz hv hw => reach ?_⟩
  · rw [sampleInfeed_same hin, checkOverlong_of_not (quiet h), sampleOutfeed_same hout]
  · have hsample := sampleInfeed_blocked (x := x) (e := ⟨.blocked, none⟩) (p := p)
      (by rw [hi, hin]; exact sample_declares rfl nofun hdebounce)
    have short' : ∀ u, TravelKept y u → ¬ u.overlong = true := fun u hu hlong => by
      obtain ⟨h, hworked, -, hpassed⟩ := (overlong_iff u).mp hlong
      have hbegun := hu.worked hworked
      rw [hy] at hbegun
      cases Option.some.inj (congrArg Blockage.head (Option.some.inj hbegun))
      rw [hu.position, hu.geometry, hy] at hpassed
      exact absurd hlength (Int.not_lt.mpr hpassed)
    have still : ∀ u, TravelKept y u → u.sampleOutfeed = u := fun u hu => sampleOutfeed_still hu (by rw [hy]; exact hout)
    refine ⟨fun hlatch => reach ?_, fun hlatch => reach ?_⟩
    · have hthen : x.sampleInfeed = y := by rw [hsample, if_pos hlatch, hy]; rfl
      rw [hthen, checkOverlong_of_not (short' y (.refl y)), still y (.refl y)]
    · have hthen : x.sampleInfeed = y.headEvent p := by rw [hsample, if_neg (by rw [hlatch]; nofun), hy]; rfl
      rw [hthen, checkOverlong_of_not (short' _ (.headEvent y p)), still _ (.headEvent y p)]
  · have hsample := sampleInfeed_clear (x := x) (e := ⟨.clear, none⟩) (p := p)
      (by rw [hi, hin]; exact sample_declares rfl nofun hdebounce)
    have short' : ∀ u, TravelKept y u → ¬ u.overlong = true := fun u hu hlong => by
      obtain ⟨h, hworked, -, -⟩ := (overlong_iff u).mp hlong
      have hbegun := hu.worked hworked
      rw [hy] at hbegun
      exact nomatch hbegun
    have still : ∀ u, TravelKept y u → u.sampleOutfeed = u := fun u hu => sampleOutfeed_still hu (by rw [hy]; exact hout)
    refine ⟨fun h hworked => reach ?_, fun hunworked => reach ?_⟩
    · have hthen : x.sampleInfeed = y.tailEvent p := by rw [hsample.2 h hworked, hy]; rfl
      rw [hthen, checkOverlong_of_not (short' _ (.tailEvent y p)), still _ (.tailEvent y p)]
    · have hthen : x.sampleInfeed = y := (hsample.1 fun q hq => nomatch hunworked _ hq).trans hy.symm
      rw [hthen, checkOverlong_of_not (short' y (.refl y)), still y (.refl y)]
  · have hsample : x.sampleInfeed = x :=
      sampleInfeed_none (e := x.feed.eyeIn) (sample_waits (p := p) (by rw [hin]) (by rw [hi, hin]; nofun) hdebounce)
    have hopen : ¬ x.overlong = true := fun hlong => by
      obtain ⟨h, -, hchange, -⟩ := (overlong_iff x).mp hlong
      rw [hin] at hchange
      exact nomatch hchange
    rw [hsample, checkOverlong_of_not hopen, sampleOutfeed_same hout]
  · have hsame : x.sampleInfeed = x := sampleInfeed_same (by rw [hin, hi])
    rw [hsame, checkOverlong_of hb (by rw [hin]) hlong, sampleOutfeed_still (.trackFault x .overlong) hout, fireMarks_trackFault]
  · have hsample := sampleOutfeed_blocked (z := x) (e := ⟨.blocked, none⟩) (p := p)
      (by rw [ho, hout]; exact sample_declares rfl nofun hdebounce)
    have hyx : x.withOutfeed ⟨.blocked, none⟩ = y := hy.symm
    rw [hyx] at hsample
    have hymode : y.mode = x.mode ∧ y.queue = x.queue ∧ y.geometry = x.geometry := by rw [hy]; exact ⟨rfl, rfl, rfl⟩
    obtain ⟨-, hyqueue, hygeometry⟩ := hymode
    refine ⟨fun hmode => reach ?_, fun hmode => ⟨fun hnone => reach ?_, fun q hq off hoff => ⟨fun hwithin => reach ?_, fun hbeyond => reach ?_⟩⟩⟩
    · rw [sampleInfeed_same hin, checkOverlong_of_not (quiet h), hsample, if_neg (not_works_of hmode)]
    · have hfind : y.queue.find? (fun q => q.outfeed == .inMachine) = none := by
        rw [hyqueue]
        exact List.find?_eq_none.mpr fun q hq k => hnone q hq (beq_iff_eq.mp k)
      rw [sampleInfeed_same hin, checkOverlong_of_not (quiet h), hsample, if_pos ((works_iff _).mpr hmode), checkOutfeed_none hfind]
    · rw [← hyqueue] at hq
      rw [← hygeometry] at hoff hwithin
      rw [sampleInfeed_same hin, checkOverlong_of_not (quiet h), hsample, if_pos ((works_iff _).mpr hmode), checkOutfeed_some hq, ← hoff,
        if_neg (Nat.not_lt.mpr hwithin)]
    · rw [← hyqueue] at hq
      rw [← hygeometry] at hoff hbeyond
      rw [sampleInfeed_same hin, checkOverlong_of_not (quiet h), hsample, if_pos ((works_iff _).mpr hmode), checkOutfeed_some hq, ← hoff,
        if_pos hbeyond, fireMarks_trackFault]
  · have hsample := sampleOutfeed_clear (z := x) (e := ⟨.clear, none⟩) (p := p)
      (by rw [ho, hout]; exact sample_declares rfl nofun hdebounce)
    rw [sampleInfeed_same hin, checkOverlong_of_not (quiet h), hsample]
    rfl
  · have hinfeed : x.sampleInfeed = y := sampleInfeed_says hb hy hsampleIn
    obtain ⟨begun, hkept⟩ := sampleInfeed_kept hsampleIn
    rw [hinfeed] at hkept
    have hchecked : y.checkOverlong = z := by
      rw [hz]
      split
      · rename_i h hblockage
        have hchange : y.feed.eyeIn.change = inEye.change := by rw [hkept.eyeIn]; rfl
        have hposition : y.feed.position = x.feed.position := by rw [hkept.position]; rfl
        have hgeometry : y.geometry = x.geometry := by rw [hkept.geometry]; rfl
        rw [← hchange, ← hposition, ← hgeometry]
        split
        · rename_i hlong
          exact checkOverlong_of hblockage hlong.1 hlong.2
        · rename_i hshorter
          refine checkOverlong_of_not fun hlong => hshorter ?_
          obtain ⟨h', hworked, hthen⟩ := (overlong_iff y).mp hlong
          cases Option.some.inj (congrArg Blockage.head (Option.some.inj (hblockage.symm.trans hworked)))
          exact hthen
      · rename_i hother
        refine checkOverlong_of_not fun hlong => ?_
        obtain ⟨h, hworked, -⟩ := (overlong_iff y).mp hlong
        exact hother h hworked
    have hkept' : TravelKept (x.withInfeed inEye begun) z := hchecked ▸ hkept.trans (.checkOverlong y)
    have hsampled : z.feed.eyeOut.sample z.pins.eyeOut z.feed.position z.geometry.eyeDebounce = (outEye, outSays) := by
      rw [hkept'.eyeOut, hkept'.pins, hkept'.position, hkept'.geometry]
      exact hsampleOut
    have hgeometry : v.geometry = x.geometry := by rw [hv]; exact hkept'.geometry
    have hmode : z.mode = x.mode := hkept'.mode
    have hvz : z.withOutfeed outEye = v := hv.symm
    rw [hinfeed, hchecked]
    refine congrArg (State.fireMarks markFuel) ?_
    rw [hw]
    cases outSays with
    | none => exact (sampleOutfeed_none hsampled).trans hvz
    | some said =>
      obtain ⟨level, p⟩ := said
      cases level with
      | clear => exact (sampleOutfeed_clear hsampled).trans hvz
      | blocked =>
        rw [sampleOutfeed_blocked hsampled, hvz, hmode]
        cases hfind : v.queue.find? (fun q => q.outfeed == .inMachine) with
        | none => rw [checkOutfeed_none hfind, ite_self]
        | some q =>
          rw [checkOutfeed_some hfind, hgeometry]
          dsimp only
          by_cases hworks : x.mode = .run ∨ x.mode = .hold
          · rw [if_pos ((works_iff _).mpr hworks)]
            simp only [hworks, true_and]
          · rw [if_neg (mt (works_iff _).mp hworks), if_neg fun h => hworks h.1]

end Sys2Proof.Machine
end

section
/-! PROOF. The end of standstill at a counted edge (R14, R15). -/

namespace Sys2Proof.Machine

/-! ### The motion state and the stall window while an edge moves the count -/

/-- From `s` to `t` the motion state and the stall window stay. -/
def MotionKept (s t : State) : Prop := t.feed.motion = s.feed.motion ∧ t.feed.stall = s.feed.stall

theorem MotionKept.refl (s : State) : MotionKept s s := ⟨rfl, rfl⟩

theorem MotionKept.trans {s t u : State} (h : MotionKept s t) (k : MotionKept t u) : MotionKept s u := ⟨k.1.trans h.1, k.2.trans h.2⟩

theorem MotionKept.of_travel {s t : State} (h : TravelKept s t) : MotionKept s t := ⟨h.motion, h.stall⟩

theorem MotionKept.sampleInfeed (x : State) : MotionKept x x.sampleInfeed := by
  obtain ⟨b, h⟩ := sampleInfeed_kept (x := x) rfl
  exact (show MotionKept x (x.withInfeed _ b) from ⟨rfl, rfl⟩).trans (.of_travel h)

theorem MotionKept.sampleOutfeed (z : State) : MotionKept z z.sampleOutfeed := by
  unfold State.sampleOutfeed
  dsimp only
  have sampled : ∀ e : Eye, MotionKept z { z with feed := { z.feed with eyeOut := e } } := fun _ => ⟨rfl, rfl⟩
  split
  · split
    · refine (sampled (z.feed.eyeOut.sample z.pins.eyeOut z.feed.position z.geometry.eyeDebounce).1).trans (.of_travel ?_)
      unfold State.checkOutfeed
      split
      · exact .refl _
      · exact .ite (.refl _) (.trackFault ..)
    · exact sampled _
  · exact sampled _

theorem MotionKept.forwardEdge (s : State) : MotionKept s s.forwardEdge := by
  by_cases hedges : s.feed.edges + 1 < s.geometry.encoderResolution
  · rw [forwardEdge_within hedges]
    exact ⟨rfl, rfl⟩
  · by_cases hpeak : posDiff (s.feed.position + 1) s.feed.peak ≤ 0
    · rw [forwardEdge_behind (Nat.le_of_not_lt hedges) hpeak]
      exact ⟨rfl, rfl⟩
    · rw [forwardEdge_newPeak (Nat.le_of_not_lt hedges) (Int.lt_of_not_ge hpeak)]
      have peaked : MotionKept s s.peaked := ⟨rfl, rfl⟩
      exact (((peaked.trans (.sampleInfeed _)).trans (.of_travel (.checkOverlong _))).trans (.sampleOutfeed _)).trans
        (.of_travel (.of_steady (steady_fireMarks ..)))

theorem MotionKept.reverseEdge (s : State) : MotionKept s s.reverseEdge := by
  by_cases hedges : s.feed.edges = 0
  · have back : MotionKept s s.steppedBack := ⟨rfl, rfl⟩
    have rebased : MotionKept s s.steppedBack.rebase := ⟨rfl, rfl⟩
    rw [reverseEdge_step hedges]
    split
    · split
      · split
        · exact rebased
        · exact rebased.trans (.of_travel (.trackFault ..))
      · exact back
    · exact rebased
  · rw [reverseEdge_within hedges]
    exact ⟨rfl, rfl⟩

/-! ### The statement -/

theorem recomputed_conditions (u : State) (cls : FlowClass) (feed : Feed) :
    (u.recomputed cls feed).geometry = u.geometry ∧ (u.recomputed cls feed).mode = u.mode ∧ (u.recomputed cls feed).pins = u.pins
      ∧ (u.recomputed cls feed).now = u.now ∧ (u.recomputed cls feed).feed = feed := by
  have hflow : FlowOnly u (u.recomputeAll allArms true (.fixed cls)).arbitrate := (FlowOnly.recomputeAll ..).trans (.arbitrate _)
  unfold State.recomputed
  generalize (u.recomputeAll allArms true (.fixed cls)).arbitrate = w at hflow
  exact ⟨hflow.geometry, hflow.mode, hflow.pins, hflow.now, rfl⟩

theorem recomputed_withFeed (u : State) (cls : FlowClass) (f g : Feed) : { u.recomputed cls f with feed := g } = u.recomputed cls g := by
  unfold State.recomputed
  generalize (u.recomputeAll allArms true (.fixed cls)).arbitrate = w
  rfl

theorem endStandstill_eq (s : State) : s.endStandstill =
    { s with feed := { s.feed with motion := .moving } }.recomputed .low { s.feed with motion := .moving } :=
  (recomputed_self { s with feed := { s.feed with motion := .moving } } .low).symm

/-- A counted edge with feed-run active at standstill: every arm recomputed with class LOW, the feed MOVING and the window started. -/
theorem countMotion_of_standstill {s : State} (hrun : s.pins.feedRun = true) (hstill : s.feed.motion = .standstill) :
    s.countMotion = { s with feed := { s.feed with motion := .moving } }.recomputed .low
      { s.feed with motion := .moving, stall := some (s.now + s.geometry.stallWindow) } := by
  have hcounted : s.countMotion =
      { s.endStandstill with feed := { s.endStandstill.feed with stall := some (s.endStandstill.now + s.endStandstill.geometry.stallWindow) } } := by
    unfold State.countMotion
    rw [if_pos hrun]
    dsimp only
    rw [if_pos hstill]
  obtain ⟨hgeometry, -, -, hnow, hfeed⟩ :=
    recomputed_conditions { s with feed := { s.feed with motion := .moving } } .low { s.feed with motion := .moving }
  have hset := recomputed_withFeed { s with feed := { s.feed with motion := .moving } } .low { s.feed with motion := .moving }
    { s.feed with motion := .moving, stall := some (s.now + s.geometry.stallWindow) }
  rw [← endStandstill_eq] at hgeometry hnow hfeed hset
  rw [hcounted, hnow, hgeometry, hfeed]
  exact hset

theorem feed_publish (old new : State) : (publish old new).feed = new.feed := by
  obtain ⟨m, h, -⟩ := publish_ram old new
  rw [h]

/-- Settles O11: the recompute comes first, and the edge then counts in the state it leaves, whose feed is the one named. -/
theorem standstillEndsAtACountedEdge : Obligations.StandstillEndsAtACountedEdge := by
  unfold Obligations.StandstillEndsAtACountedEdge
  intro s u i o f hrun hfeedRun hstill hu hf
  have hcounted : (s.withEyes i o).countMotion = u.recomputed .low f := by
    rw [hu, hf]
    exact countMotion_of_standstill (s := s.withEyes i o) hfeedRun hstill
  have hpublished := fun g => recomputed_publish (s := s) (u := u) (by rw [hu]; rfl) .low g
  obtain ⟨hgeometry, hmode, hpins, -, hfeed⟩ := recomputed_conditions u .low f
  have hset := recomputed_withFeed u .low f
  generalize State.recomputed u .low = after at hcounted hpublished hgeometry hmode hpins hfeed hset
  have hugeometry : u.geometry = s.geometry := by rw [hu]; rfl
  have humode : u.mode = s.mode := by rw [hu]; rfl
  have hupins : u.pins.eyeIn = i ∧ u.pins.eyeOut = o := by rw [hu]; exact ⟨rfl, rfl⟩
  have hfields : f.edges = s.feed.edges ∧ f.position = s.feed.position ∧ f.peak = s.feed.peak ∧ f.eyeIn = s.feed.eyeIn
      ∧ f.eyeOut = s.feed.eyeOut ∧ f.blockage = s.feed.blockage ∧ f.marks = s.feed.marks := by
    rw [hf]
    exact ⟨rfl, rfl, rfl, rfl, rfl, rfl, rfl⟩
  obtain ⟨hedges, hposition, hpeak, hin, hout, hblockage, hmarks⟩ := hfields
  have answers : ∀ (e : Edge) (step : State → State), (∀ x : State, x.takeEdge e = step x.countMotion) → ∀ g : Feed,
      step (after f) = { after f with feed := g } → Recomputes (.encoderEdge e i o) s u { u with feed := g } .low := by
    intro e step he g hstep
    refine answers_of_act (f := fun s => (s.seeEyes i o).takeEdge e) rfl hrun ?_
    have hthen : (s.seeEyes i o).takeEdge e = after g := (he (s.withEyes i o)).trans ((congrArg step hcounted).trans (hstep.trans (hset g)))
    rw [hthen]
    exact hpublished g
  have hedge : ∀ (e : Edge) (step : State → State), (∀ x : State, x.takeEdge e = step x.countMotion) →
      (s.seeEyes i o).takeEdge e = step (after f) := fun e step he => (he (s.withEyes i o)).trans (congrArg step hcounted)
  rw [← hedges, ← hposition, ← hpeak, ← hin, ← hout, ← hblockage, ← hmarks]
  refine ⟨fun e he => ?_, ?_⟩
  · refine answers_of_act (f := fun s => (s.seeEyes i o).takeEdge e) rfl hrun ?_
    have hmotion : MotionKept (after f) ((s.seeEyes i o).takeEdge e) := by
      cases e with
      | noDirection => exact absurd rfl he
      | forward => rw [hedge .forward State.forwardEdge takeEdge_forward]; exact .forwardEdge _
      | reverse => rw [hedge .reverse State.reverseEdge takeEdge_reverse]; exact .reverseEdge _
    rw [feed_publish, hmotion.1, hmotion.2, hfeed, hf]
    exact ⟨rfl, rfl⟩
  clear hedge hset hpublished hcounted
  generalize after f = y at hgeometry hmode hpins hfeed answers
  rw [← hgeometry.trans hugeometry, ← hmode.trans humode]
  clear hf hedges hposition hpeak hin hout hblockage hmarks
  subst hfeed
  refine ⟨fun hwithin => ?_, fun hne => ?_, fun hres hbehind => ?_, fun hres hahead hin hout hunworked hnone => ?_,
    fun hzero hworks hlimit => ?_, fun hzero hidle => ?_⟩
  · exact answers .forward State.forwardEdge takeEdge_forward _ (forwardEdge_within hwithin)
  · exact answers .reverse State.reverseEdge takeEdge_reverse _ (reverseEdge_within hne)
  · exact answers .forward State.forwardEdge takeEdge_forward _ (forwardEdge_behind hres hbehind)
  · refine answers .forward State.forwardEdge takeEdge_forward _ ((forwardEdge_newPeak hres hahead).trans
      (newPeak_quiet (s := y.peaked) ?_ ?_ hunworked hnone markFuel))
    · exact hin.trans (by rw [← hupins.1, ← hpins]; rfl)
    · exact hout.trans (by rw [← hupins.2, ← hpins]; rfl)
  · exact answers .reverse State.reverseEdge takeEdge_reverse _ (reverseEdge_quiet hzero hworks hlimit)
  · exact answers .reverse State.reverseEdge takeEdge_reverse _ (reverseEdge_rebases hzero hidle)

end Sys2Proof.Machine
end

section
/-! PROOF. The head event (R44 to R50, R58, R65, R66). -/

namespace Sys2Proof.Machine

/-! ### The call for a scan -/

theorem headScan_eq (u : State) : u.headScan = { u with manifest := { u.manifest with
    scanning := u.manifest.scanning || (u.manifest.staged.isEmpty && decide (u.cfg.preload ≠ .running))
    scanRequest := if u.manifest.staged ≠ [] ∨ u.cfg.preload = .running then u.manifest.scanRequest else u.manifest.scanning } } := by
  have same : ∀ scanning scanRequest, u.manifest.scanning = scanning → u.manifest.scanRequest = scanRequest →
      u = { u with manifest := { u.manifest with scanning := scanning, scanRequest := scanRequest } } := by
    rintro _ _ rfl rfl
    rfl
  unfold State.headScan
  by_cases hempty : u.manifest.staged = []
  · rw [if_pos (List.isEmpty_iff.mpr hempty), List.isEmpty_iff.mpr hempty, Bool.true_and]
    by_cases hpreload : u.cfg.preload = .running
    · rw [requestScan_of_preload hpreload, if_pos (.inr hpreload), decide_eq_false (not_not.mpr hpreload), Bool.or_false]
    · rw [if_neg (not_or.mpr ⟨not_not.mpr hempty, hpreload⟩), decide_eq_true hpreload, Bool.or_true]
      cases hscanning : u.manifest.scanning with
      | true =>
        rw [requestScan_of_scanning hpreload hscanning, ← hscanning]
      | false => exact requestScan_of_idle hpreload hscanning
  · rw [if_neg (by rwa [List.isEmpty_iff]), if_pos (.inl hempty), List.isEmpty_eq_false_iff.mpr hempty, Bool.false_and, Bool.or_false]

/-! ### The record's place among the records -/

/-- The record that a rotor works on, or the new record behind those that are all PASSED. -/
theorem current?_append {s u : State} {q : Record} (hqueue : u.queue = s.queue ++ [q]) (r : RotorId) (hphase : q.phase r = .approach) :
    u.current? r = (s.current? r).or (some q) := by
  have hlast : [q].filter (fun x => x.phase r != .passed) = [q] := List.filter_cons_of_pos (by rw [hphase]; rfl)
  unfold State.current? State.pendingAt
  rw [hqueue, List.filter_append, hlast, List.head?_append]
  rfl

/-- The mark table with the lift mark of a new record at a rotor where it is current. -/
def State.withLiftMark (s : State) (r : RotorId) (t : Tag) (head : Pos) (x : MarkTable) : MarkTable :=
  if (s.current? r).isSome then x
  else x.set (clientOf r) t (some ⟨.lift, posAdd head ((s.geometry.toolPlane r : Int) - s.geometry.entryLead)⟩)

theorem armIfCurrent_new {s u : State} {q : Record} (hqueue : u.queue = s.queue ++ [q]) (r : RotorId) (hphase : q.phase r = .approach)
    (htag : ∀ x ∈ s.queue, x.tag ≠ q.tag) (hgeometry : u.geometry = s.geometry)
    (hahead : u.ahead (posAdd q.head ((s.geometry.toolPlane r : Int) - s.geometry.entryLead))) :
    u.armIfCurrent r q = { u with feed := { u.feed with marks := s.withLiftMark r q.tag q.head u.feed.marks } } := by
  unfold State.armIfCurrent State.withLiftMark
  rw [current?_append hqueue r hphase]
  cases hcurrent : s.current? r with
  | some c =>
    have hmem : c ∈ s.queue := List.mem_of_mem_filter (List.mem_of_mem_head? hcurrent)
    exact if_neg (htag c hmem)
  | none =>
    have hplace : u.pointOf r q (-(s.geometry.entryLead : Int)) = posAdd q.head ((s.geometry.toolPlane r : Int) - s.geometry.entryLead) := by
      unfold State.pointOf
      rw [hgeometry, Int.sub_eq_add_neg]
    have harm : u.armLift State.arming r q = u.placeMark (clientOf r) q.tag .lift
        (posAdd q.head ((s.geometry.toolPlane r : Int) - s.geometry.entryLead)) := by
      unfold State.armLift
      rw [hgeometry, hplace]
      exact arming_ahead hahead
    exact (if_pos rfl).trans harm

/-! ### The record that is created -/

/-- The staged queue with a LOG ticket at its head marked bound (R30, R45). -/
def boundStaged : List StagedTicket → List StagedTicket
  | e :: rest => if e.kind = .log then { e with bound := true } :: rest else e :: rest
  | [] => []

theorem bindHead_of_log (s : State) : (if s.headIsLog then s.bindHead true else s) =
    { s with manifest := { s.manifest with staged := boundStaged s.manifest.staged } } := by
  have same : ∀ l, s.manifest.staged = l → s = { s with manifest := { s.manifest with staged := l } } := by
    rintro _ rfl
    rfl
  unfold State.headIsLog State.bindHead
  cases hstaged : s.manifest.staged with
  | nil => exact same [] hstaged
  | cons e rest =>
    have hbound : boundStaged (e :: rest) = if e.kind = .log then { e with bound := true } :: rest else e :: rest := rfl
    rw [hbound]
    dsimp only
    by_cases hkind : e.kind = .log
    · rw [if_pos (beq_iff_eq.mpr hkind), if_pos hkind]
    · rw [if_neg (mt beq_iff_eq.mp hkind), if_neg hkind]
      exact same (e :: rest) hstaged

/-- The record that a head event creates. -/
def State.newRecord (s : State) (t : Tag) (head : Pos) : Record := s.classed (s.boundRecord t head)

/-- A classing changes the class, the reading, the latched sample and the two flags. -/
theorem classed_fields (s : State) (b : Record) : { s.classed b with
    latched := b.latched
    tempClass := b.tempClass
    reading := b.reading
    tempHeld := b.tempHeld
    tempUnknown := b.tempUnknown } = b := by
  unfold State.classed
  dsimp only
  split
  · rfl
  · rfl
  · split
    · rfl
    · split
      · split <;> rfl
      · rfl

/-- TRANSIT_FULL once a record has joined (R64, R170). -/
def State.filled (v : State) : State := if v.queue.length ≥ maxRecords then v.putHold .transitFull true else v

theorem filled_eq (v : State) : v.filled = { v with
    holds := { v.holds with transitFull := decide (6 ≤ v.queue.length) || v.holds.transitFull } } := by
  unfold State.filled
  by_cases hfull : v.queue.length ≥ maxRecords
  · have h : decide (6 ≤ v.queue.length) = true := decide_eq_true hfull
    rw [h]
    exact if_pos hfull
  · have h : decide (6 ≤ v.queue.length) = false := decide_eq_false hfull
    rw [h]
    exact if_neg hfull

theorem createRecord_joins (s : State) (t : Tag) (head : Pos) : s.createRecord t head =
    ((State.filled { (if s.headIsLog then s.bindHead true else s) with
      queue := (if s.headIsLog then s.bindHead true else s).queue ++ [s.newRecord t head]
      temp := (if s.headIsLog then s.bindHead true else s).temp.hold (s.newRecord t head) }).armIfCurrent
        .r1 (s.newRecord t head)).armIfCurrent .r2 (s.newRecord t head) := rfl

theorem createRecord_eq {s : State} {t : Tag} {head : Pos} (htag : ∀ x ∈ s.queue, x.tag ≠ t)
    (hahead : ∀ r, s.ahead (posAdd head ((s.geometry.toolPlane r : Int) - s.geometry.entryLead)))
    (hnew : (s.newRecord t head).tag = t ∧ (s.newRecord t head).head = head ∧ ∀ r, (s.newRecord t head).phase r = .approach) :
    s.createRecord t head = { s with
      manifest := { s.manifest with staged := boundStaged s.manifest.staged }
      queue := s.queue ++ [s.newRecord t head]
      temp := s.temp.hold (s.newRecord t head)
      holds := { s.holds with transitFull := decide (5 ≤ s.queue.length) || s.holds.transitFull }
      feed := { s.feed with marks := s.withLiftMark .r2 t head (s.withLiftMark .r1 t head s.feed.marks) } } := by
  obtain ⟨u, hu⟩ : ∃ u : State, u = { s with
      manifest := { s.manifest with staged := boundStaged s.manifest.staged }
      queue := s.queue ++ [s.newRecord t head]
      temp := s.temp.hold (s.newRecord t head)
      holds := { s.holds with transitFull := decide (5 ≤ s.queue.length) || s.holds.transitFull } } := ⟨_, rfl⟩
  have happended : s.createRecord t head = (u.armIfCurrent .r1 (s.newRecord t head)).armIfCurrent .r2 (s.newRecord t head) := by
    have hlength : decide (6 ≤ (s.queue ++ [s.newRecord t head]).length) = decide (5 ≤ s.queue.length) := by
      rw [List.length_append]
      exact decide_eq_decide.mpr Nat.succ_le_succ_iff
    rw [createRecord_joins, bindHead_of_log, filled_eq, hu, ← hlength]
  obtain ⟨hnewTag, hnewHead, hphase⟩ := hnew
  have hfirst := armIfCurrent_new (s := s) (u := u) (q := s.newRecord t head) (by rw [hu]) .r1 (hphase .r1) (by rw [hnewTag]; exact htag)
    (by rw [hu]) (by rw [hnewHead, hu]; exact hahead .r1)
  rw [happended, hfirst]
  rw [hnewTag, hnewHead]
  have hsecond := armIfCurrent_new (s := s) (u := { u with feed := { u.feed with marks := s.withLiftMark .r1 t head u.feed.marks } })
    (q := s.newRecord t head) (by rw [hu]) .r2 (hphase .r2) (by rw [hnewTag]; exact htag) (by rw [hu])
    (by rw [hnewHead, hu]; exact hahead .r2)
  rw [hsecond, hnewTag, hnewHead, hu]

/-! ### What the record takes from the ticket at the head -/

/-- The record on the row of its species, with the ticket's length and stations (R45). -/
def Record.withProfile (q : Record) (row : SpeciesRow) (area : List Byte) : Record :=
  { q with
    row := some row
    rowUsed := logSpecies area
    expected := some (logExpected area)
    working := logExpected area
    stations := logStations area }

theorem boundRecord_orphan {s : State} (h : s.headIsLog = false) (t : Tag) (head : Pos) : s.boundRecord t head = s.orphanRecord t head := by
  unfold State.headIsLog at h
  unfold State.boundRecord
  cases hstaged : s.manifest.staged with
  | nil => rfl
  | cons e rest =>
    rw [hstaged] at h
    exact if_neg fun hkind => Bool.noConfusion ((beq_iff_eq.mpr hkind).symm.trans h)

section
variable {s : State} {e : StagedTicket} {rest : List StagedTicket} (hstaged : s.manifest.staged = e :: rest) (hkind : e.kind = .log)
  (t : Tag) (head : Pos)
include hstaged hkind

theorem boundRecord_failed {why : ProfileFault} (h : e.check = .failed why) :
    s.boundRecord t head = { (s.orphanRecord t head).bindTicket e with profileFault := some why } := by
  unfold State.boundRecord
  rw [hstaged]
  dsimp only
  rw [if_pos hkind, h]

theorem boundRecord_good (h : ∀ why, e.check ≠ .failed why) :
    s.boundRecord t head = ((s.orphanRecord t head).bindTicket e).withProfile (s.row (logSpecies e.area)) e.area := by
  unfold State.boundRecord
  rw [hstaged]
  dsimp only
  rw [if_pos hkind]
  cases hcheck : e.check with
  | failed why => exact absurd hcheck (h why)
  | passed => rfl
  | notMade => rfl

end

/-- What every new record begins with (R44, R63). -/
structure Record.begins (q : Record) (s : State) (t : Tag) (head : Pos) : Prop where
  named : q.tag = t
  starts : q.head = head
  tail : q.tail = none
  provisional : q.provisional = true
  outfeed : q.outfeed = .inMachine
  view1 : q.view1 = .initial
  view2 : q.view2 = .initial
  relation : q.relation = s.relationTo head s.queue.getLast?

theorem begins_boundRecord (s : State) (t : Tag) (head : Pos) : (s.boundRecord t head).begins s t head
    ∧ (s.boundRecord t head).tempHeld = false ∧ (s.boundRecord t head).tempUnknown = false := by
  have orphan : (s.orphanRecord t head).begins s t head ∧ (s.orphanRecord t head).tempHeld = false
      ∧ (s.orphanRecord t head).tempUnknown = false := ⟨⟨rfl, rfl, rfl, rfl, rfl, rfl, rfl, rfl⟩, rfl, rfl⟩
  unfold State.boundRecord
  dsimp only
  split
  · split
    · split
      · exact ⟨⟨rfl, rfl, rfl, rfl, rfl, rfl, rfl, rfl⟩, rfl, rfl⟩
      · exact ⟨⟨rfl, rfl, rfl, rfl, rfl, rfl, rfl, rfl⟩, rfl, rfl⟩
      · exact ⟨⟨rfl, rfl, rfl, rfl, rfl, rfl, rfl, rfl⟩, rfl, rfl⟩
    · exact orphan
  · exact orphan

/-- A new record but for what its classing sets. -/
def Record.unclassed (q : Record) : Record :=
  { q with latched := none, tempClass := none, reading := none, tempHeld := false, tempUnknown := false }

theorem unclassed_newRecord (s : State) (t : Tag) (head : Pos) : (s.newRecord t head).unclassed = (s.boundRecord t head).unclassed := by
  have h := congrArg Record.unclassed (classed_fields s (s.boundRecord t head))
  exact h

theorem begins_newRecord (s : State) (t : Tag) (head : Pos) : (s.newRecord t head).begins s t head := by
  have h := unclassed_newRecord s t head
  have hbegins := (begins_boundRecord s t head).1
  exact ⟨(congrArg Record.tag h).trans hbegins.named, (congrArg Record.head h).trans hbegins.starts, (congrArg Record.tail h).trans hbegins.tail,
    (congrArg Record.provisional h).trans hbegins.provisional, (congrArg Record.outfeed h).trans hbegins.outfeed,
    (congrArg Record.view1 h).trans hbegins.view1, (congrArg Record.view2 h).trans hbegins.view2,
    (congrArg Record.relation h).trans hbegins.relation⟩

theorem Record.begins.phase {q : Record} {s : State} {t : Tag} {head : Pos} (h : q.begins s t head) (r : RotorId) :
    q.phase r = .approach := by
  cases r with
  | r1 => exact congrArg RotorView.phase h.view1
  | r2 => exact congrArg RotorView.phase h.view2

/-- A classing does not depend on what an earlier one has set. -/
theorem classed_congr {s : State} {q b : Record} (h : q.unclassed = b.unclassed) (hheld : q.tempHeld = b.tempHeld)
    (hunknown : q.tempUnknown = b.tempUnknown) : s.classed q = s.classed b := by
  have hq : q = { b with latched := q.latched, tempClass := q.tempClass, reading := q.reading } := by
    have g := congrArg (fun x : Record => { x with
      latched := q.latched
      tempClass := q.tempClass
      reading := q.reading
      tempHeld := q.tempHeld
      tempUnknown := q.tempUnknown }) h
    refine Eq.trans g ?_
    rw [hheld, hunknown]
    rfl
  generalize q.latched = latched at hq
  generalize q.tempClass = cls at hq
  generalize q.reading = reading at hq
  subst hq
  rfl

theorem newRecord_classed (s : State) (t : Tag) (head : Pos) :
    s.newRecord t head = s.classed { s.newRecord t head with tempHeld := false, tempUnknown := false } := by
  obtain ⟨-, hheld, hunknown⟩ := begins_boundRecord s t head
  refine (classed_congr ?_ hheld.symm hunknown.symm).symm
  exact unclassed_newRecord s t head

/-! ### The predecessor relation -/

theorem relationTo_none (s : State) (head : Pos) : s.relationTo head none = .apart := rfl

theorem relationTo_some (s : State) (head : Pos) {p : Record} {tail : Pos} (htail : p.tail = some tail) : s.relationTo head (some p) =
    if p.kind = .stub then
      if posDiff head tail < s.geometry.entryLead then .stubBehind else .apart
    else if posDiff head tail < s.geometry.jointGap then .joint
    else if posDiff head tail < s.geometry.entryLead then .close
    else .apart := by
  unfold State.relationTo
  dsimp only
  rw [htail]
  cases p.kind <;> rfl

/-! ### The statement -/

theorem headEvent_creates {s : State} {t : Tag} {head : Pos} (hmode : s.mode = .run ∨ s.mode = .hold) (hroom : s.queue.length < 6)
    (htag : s.freeTag = some t) : s.headEvent head = (s.createRecord t head).headScan := by
  unfold State.headEvent
  rcases hmode with hmode | hmode <;> (rw [hmode, htag]; exact if_pos hroom)

theorem get_withLiftMark (s : State) (r : RotorId) (t : Tag) (head : Pos) (x : MarkTable) (c : Client) :
    (s.withLiftMark r t head x).get c t = if (s.current? r).isSome = false ∧ clientOf r = c then
      some ⟨.lift, posAdd head ((s.geometry.toolPlane r : Int) - s.geometry.entryLead)⟩ else x.get c t := by
  unfold State.withLiftMark
  cases (s.current? r).isSome with
  | true => rfl
  | false =>
    refine (MarkTable.get_set x (clientOf r) c t t _).trans ?_
    simp only [and_true, true_and]

theorem get_liftMarks (s : State) (r : RotorId) (t : Tag) (head : Pos) :
    (s.withLiftMark .r2 t head (s.withLiftMark .r1 t head s.feed.marks)).get (clientOf r) t = if (s.current? r).isSome = false then
      some ⟨.lift, posAdd head ((s.geometry.toolPlane r : Int) - s.geometry.entryLead)⟩ else s.feed.marks.get (clientOf r) t := by
  rw [get_withLiftMark, get_withLiftMark]
  cases r with
  | r1 => rw [if_neg fun h => nomatch h.2]; simp only [and_true]
  | r2 =>
    simp only [and_true]
    split
    · rfl
    · exact if_neg fun h => nomatch h.2

theorem isEmpty_boundStaged (l : List StagedTicket) : (boundStaged l).isEmpty = l.isEmpty := by
  cases l with
  | nil => rfl
  | cons e rest =>
    unfold boundStaged
    dsimp only
    split <;> rfl

theorem boundStaged_nil_iff (l : List StagedTicket) : boundStaged l = [] ↔ l = [] := by
  rw [← List.isEmpty_iff, isEmpty_boundStaged, List.isEmpty_iff]

theorem hold_eq (x : Temperature) (q : Record) : x.hold q = { x with heldLogs := if q.tempHeld then x.heldLogs + 1 else x.heldLogs } := by
  unfold Temperature.hold
  split <;> rfl

/-- Settles O24: the record that joins is the one bound and classed; the marks are those of the rotors without a current record. -/
theorem headEventCreatesAProvisionalRecord : Obligations.HeadEventCreatesAProvisionalRecord := by
  unfold Obligations.HeadEventCreatesAProvisionalRecord
  intro s head
  refine ⟨fun hmode hroom hahead t ht => ?_, headScan_eq, fun hmode hfull => ?_, fun hmode => ?_⟩
  · have hbegins := begins_newRecord s t head
    have hcreated := createRecord_eq (freeTag_free ht) hahead ⟨hbegins.named, hbegins.starts, hbegins.phase⟩
    have hfields := unclassed_newRecord s t head
    have hclassed := newRecord_classed s t head
    rw [headEvent_creates hmode hroom ht, headScan_eq, hcreated]
    clear hcreated
    generalize s.newRecord t head = q at hbegins hfields hclassed
    refine ⟨q, rfl, hbegins.named, hbegins.starts, hbegins.tail, hbegins.provisional, hbegins.outfeed, hbegins.phase .r1, hbegins.phase .r2,
      fun hempty => ?_, fun p tail hlast htail => ?_, rfl, fun r hr => ?_, fun r hr => ?_, fun hlog => ?_, ?_, fun e rest hstaged hkind => ?_,
      hclassed, hold_eq s.temp q, rfl⟩
    · rw [hbegins.relation, hempty]
      rfl
    · rw [hbegins.relation, hlast, relationTo_some s head htail]
    · exact (get_liftMarks s r t head).trans (if_pos (by rw [hr]; rfl))
    · exact (get_liftMarks s r t head).trans (if_neg (by rw [hr]; nofun))
    · rw [boundRecord_orphan hlog] at hfields
      exact ⟨congrArg Record.kind hfields, congrArg Record.frame hfields, congrArg Record.hostTag hfields, congrArg Record.row hfields,
        congrArg Record.rowUsed hfields, congrArg Record.noLearn hfields, congrArg Record.orientation hfields,
        congrArg Record.frozenFlag hfields, congrArg Record.expected hfields, congrArg Record.working hfields,
        congrArg Record.profileFault hfields, congrArg Record.stations hfields⟩
    · dsimp only
      rw [isEmpty_boundStaged]
      simp only [ne_eq, boundStaged_nil_iff]
      rfl
    · have common : ∀ b : Record, q.unclassed = (b.bindTicket e).unclassed → q.kind = .log ∧ q.frame = some e.frame ∧ q.hostTag = some e.tag
          ∧ q.orientation = logOrientation e.area ∧ q.frozenFlag = logFrozenFlag e.area ∧ q.noLearn = logNoLearn e.area := fun b h =>
        ⟨congrArg Record.kind h, congrArg Record.frame h, congrArg Record.hostTag h, congrArg Record.orientation h, congrArg Record.frozenFlag h,
          congrArg Record.noLearn h⟩
      have hcommon : q.kind = .log ∧ q.frame = some e.frame ∧ q.hostTag = some e.tag ∧ q.orientation = logOrientation e.area
          ∧ q.frozenFlag = logFrozenFlag e.area ∧ q.noLearn = logNoLearn e.area := by
        by_cases hfailed : ∃ why, e.check = .failed why
        · obtain ⟨why, hwhy⟩ := hfailed
          rw [boundRecord_failed hstaged hkind t head hwhy] at hfields
          exact common { s.orphanRecord t head with profileFault := some why } hfields
        · rw [boundRecord_good hstaged hkind t head fun why h => hfailed ⟨why, h⟩] at hfields
          exact common ((s.orphanRecord t head).withProfile (s.row (logSpecies e.area)) e.area) hfields
      obtain ⟨hlog, hframe, htag, horientation, hflag, hlearn⟩ := hcommon
      refine ⟨hlog, hframe, htag, fun why hwhy => ?_, horientation, hflag, hlearn, fun why hwhy => ?_,
        fun hpassed species length hspecies hlength => ?_⟩
      · rw [boundRecord_failed hstaged hkind t head hwhy] at hfields
        exact ⟨congrArg Record.profileFault hfields, congrArg Record.row hfields⟩
      · rw [boundRecord_failed hstaged hkind t head hwhy] at hfields
        exact ⟨congrArg Record.rowUsed hfields, congrArg Record.stations hfields, congrArg Record.expected hfields,
          congrArg Record.working hfields⟩
      · rw [boundRecord_good hstaged hkind t head fun why h => by rw [hpassed] at h; exact nomatch h] at hfields
        subst hspecies hlength
        refine ⟨congrArg Record.profileFault hfields, congrArg Record.row hfields, congrArg Record.rowUsed hfields,
          congrArg Record.expected hfields, congrArg Record.working hfields, (congrArg Record.stations hfields).trans ?_⟩
        refine List.map_congr_left fun k _ => ?_
        have haddr : 22 + 4 * k = 20 + 4 * k + 2 := by omega
        rw [haddr]
  · unfold State.headEvent
    rcases hmode with hmode | hmode <;> (rw [hmode]; exact if_neg (Nat.not_lt.mpr hfull))
  · unfold State.headEvent
    rcases hmode with hmode | hmode <;> rw [hmode]

end Sys2Proof.Machine
end

section
/-! PROOF. The geometry block (section 12.5), its checks (R195) and the GEOMETRY ticket (R196). -/

namespace Sys2Proof.Machine

/-! ### The block's fields -/

/-- A field as a value with its bounds. -/
def RangedField.triple (f : RangedField) : Int × Int × Int := (f.value, f.low, f.high)

/-- The fields of the block, each a value with its bounds. -/
def Geometry.triples (g : Geometry) : List (Int × Int × Int) := g.rangedFields.map RangedField.triple

theorem toBytes_eq (g : Geometry) : g.toBytes = g.triples.flatMap (fun f => wordI f.1) ++ List.replicate 40 0 := by
  unfold Geometry.triples
  rw [List.flatMap_map]
  rfl

/-- The values of a block given word by word. -/
theorem values_ofWords (w : Nat → Word) : (Geometry.ofWords w).triples.map Prod.fst =
    (List.range 44).map fun k => if k = 9 then (w k).toInt else ((w k).toNat : Int) := rfl

theorem value_ofWords {w : Nat → Word} {k : Nat} {v low high : Int} (h : (Geometry.ofWords w).triples[k]? = some (v, low, high)) :
    v = if k = 9 then (w k).toInt else ((w k).toNat : Int) := by
  have hvalue : ((Geometry.ofWords w).triples.map Prod.fst)[k]? = some v := by rw [List.getElem?_map, h]; rfl
  rw [values_ofWords, List.getElem?_map, Option.map_eq_some_iff] at hvalue
  obtain ⟨j, hj, hv⟩ := hvalue
  have hjk : j = k := by
    obtain ⟨hlt, heq⟩ := List.getElem?_eq_some_iff.mp hj
    rw [List.getElem_range] at heq
    exact heq.symm
  rw [← hv, hjk]

/-- A value lies within its bounds. -/
def tripleOk (f : Int × Int × Int) : Bool := decide (f.2.1 ≤ f.1 ∧ f.1 ≤ f.2.2)

theorem firstOutOfRange_eq (g : Geometry) : g.firstOutOfRange = (g.triples.findIdx? fun f => !tripleOk f).map fun k => 2 * k := by
  unfold Geometry.triples
  rw [List.findIdx?_map]
  rfl

theorem firstOutOfRange_some {g : Geometry} {before behind : List (Int × Int × Int)} {v low high : Int}
    (h : g.triples = before ++ (v, low, high) :: behind) (hout : v < low ∨ high < v) (hbefore : ∀ f ∈ before, f.2.1 ≤ f.1 ∧ f.1 ≤ f.2.2) :
    g.firstOutOfRange = some (2 * before.length) := by
  have hnone : before.findIdx? (fun f => !tripleOk f) = none := List.findIdx?_eq_none_iff.mpr fun f hf => by
    unfold tripleOk
    rw [decide_eq_true (hbefore f hf)]
    rfl
  have hbad : (!tripleOk (v, low, high)) = true := by
    unfold tripleOk
    rw [decide_eq_false (by dsimp only; omega)]
    rfl
  rw [firstOutOfRange_eq, h, List.findIdx?_append, hnone, List.findIdx?_cons, hbad]
  simp

theorem firstOutOfRange_none {g : Geometry} (h : ∀ f ∈ g.triples, f.2.1 ≤ f.1 ∧ f.1 ≤ f.2.2) : g.firstOutOfRange = none := by
  rw [firstOutOfRange_eq, List.findIdx?_eq_none_iff.mpr]
  · rfl
  · intro f hf
    unfold tripleOk
    rw [decide_eq_true (h f hf)]
    rfl

theorem firstFailed_outOfRange {g : Geometry} {k : Nat} (h : g.firstOutOfRange = some k) : g.firstFailed = some 1 := by
  unfold Geometry.firstFailed
  rw [h]
  rfl

theorem firstFailed_inRange {g : Geometry} (h : g.firstOutOfRange = none) : g.firstFailed =
    if (g.d1 : Int) - g.entryLead < g.stubLimit + g.eyeDebounce then some 2
    else if g.d2 < g.d1 + 600 then some 3
    else if g.d3 < g.d2 + 300 then some 4
    else if ¬ (g.band1 < g.band2 ∧ g.band2 < g.band3 ∧ g.band3 < g.band4 ∧ g.band4 < g.band5) then some 5
    else if g.supplyLow ≤ g.supplyCritical + g.supplyHysteresis then some 6
    else if g.slotsNormal < g.slotsLow then some 7
    else if g.maxAperture < g.guardDiameter + g.clearance then some 8
    else none := by
  have hbands : (!(decide (g.band1 < g.band2) && decide (g.band2 < g.band3) && decide (g.band3 < g.band4)
      && decide (g.band4 < g.band5))) = true ↔ ¬ (g.band1 < g.band2 ∧ g.band2 < g.band3 ∧ g.band3 < g.band4 ∧ g.band4 < g.band5) := by
    simp only [Bool.not_eq_true', Bool.and_eq_false_iff, decide_eq_false_iff_not]
    omega
  unfold Geometry.firstFailed
  rw [h]
  simp only [Option.isSome_none, Bool.false_eq_true, if_false, hbands, Nat.not_lt]

/-! ### A closure after a change of the flow alone -/

theorem FlowOnly.closeFrame {s t : State} (h : FlowOnly s t) (f : Nat) (tag : Word) (res : Result) (detail : Nat)
    (fields : List (Nat × List Byte)) : FlowOnly (s.closeFrame f tag res detail fields) (t.closeFrame f tag res detail fields) := by
  have hcounters : t.counters = s.counters := by have k := congrArg State.counters h.1; exact k
  refine ⟨?_, ?_⟩
  · rw [closeFrame_eq s, closeFrame_eq t]
    generalize (s.closeFrame f tag res detail fields).ram = m
    generalize (t.closeFrame f tag res detail fields).ram = m'
    have g := congrArg (fun z : State => { z with
      counters := z.counters.finish res
      cause := z.cause ||| oneBit (if res.rejects then Cause.rejected else .closed).place }) h.1
    exact g
  · have hstate : t.frameState f = s.frameState f := by unfold State.frameState; rw [h.2]
    rw [closeFrame_ram, closeFrame_ram, hstate, h.2, hcounters, h.now]

theorem FlowOnly.checkedHead {s t : State} (h : FlowOnly s t) (l : List StagedTicket) : t.checkedHead l = s.checkedHead l := by
  have hrow : ∀ k, t.row k = s.row k := fun k => by unfold State.row; rw [h.species]
  have hcheck : t.logFieldCheck = s.logFieldCheck := funext fun area => by
    unfold State.logFieldCheck
    rw [hrow, h.geometry]
  unfold State.checkedHead
  rw [hcheck]

theorem FlowOnly.departHead {s t : State} (h : FlowOnly s t) : FlowOnly s.departHead t.departHead := by
  refine ⟨?_, by rw [departHead_ram, departHead_ram, h.2]⟩
  have hcfg : t.cfg = s.cfg := by have k := congrArg State.cfg h.1; exact k
  rw [departHead_eq s, departHead_eq t, h.checkedHead, h.manifest, hcfg]
  generalize s.checkedHead s.manifest.staged.tail = staged
  have g := congrArg (fun z : State => { z with
    cfg := s.cfg
    manifest := { s.manifest with
      staged := staged
      scanning := s.manifest.scanning || decide (s.cfg.preload ≠ Preload.running)
      scanRequest := if s.cfg.preload = Preload.running then s.manifest.scanRequest else s.manifest.scanning } }) h.1
  exact g

theorem FlowOnly.finishHead {s t : State} (h : FlowOnly s t) (e : StagedTicket) (res : Result) (detail : Nat)
    (fields : List (Nat × List Byte)) : FlowOnly (s.finishHead e res detail fields) (t.finishHead e res detail fields) :=
  (h.closeFrame ..).departHead

/-- A closed head leaves the arms, the arbiter and the rotors. -/
theorem finishHead_fields (s : State) (e : StagedTicket) (res : Result) (detail : Nat) (fields : List (Nat × List Byte)) :
    { s.finishHead e res detail fields with ram := s.ram, counters := s.counters, cause := s.cause, manifest := s.manifest } = s := by
  have g := congrArg (fun z : State => { z with ram := s.ram, counters := s.counters, cause := s.cause, manifest := s.manifest })
    (departHead_fields (s.closeFrame e.frame e.tag res detail fields))
  have k := congrArg (fun z : State => { z with ram := s.ram, counters := s.counters, cause := s.cause, manifest := s.manifest })
    (closeFrame_fields s e.frame e.tag res detail fields)
  exact Eq.trans g k

section
variable (s : State) (e : StagedTicket) (res : Result) (detail : Nat) (fields : List (Nat × List Byte))

theorem arm_finishHead (a : ArmId) : (s.finishHead e res detail fields).arm a = s.arm a := by
  have k := congrArg (fun z : State => z.arm a) (finishHead_fields s e res detail fields)
  exact k

theorem arbiter_finishHead : (s.finishHead e res detail fields).arbiter = s.arbiter := by
  have k := congrArg State.arbiter (finishHead_fields s e res detail fields)
  exact k

theorem now_finishHead : (s.finishHead e res detail fields).now = s.now := by
  have k := congrArg State.now (finishHead_fields s e res detail fields)
  exact k

theorem geometry_finishHead : (s.finishHead e res detail fields).geometry = s.geometry := by
  have k := congrArg State.geometry (finishHead_fields s e res detail fields)
  exact k

end

/-! ### The arms and the wait list under a new geometry -/

/-- The state with a geometry in force, before the arms and the requests follow it (R196). -/
def State.withGeometry (s : State) (g : Geometry) : State :=
  { s with
    geometry := g
    geometryValid := true
    feed := { s.feed with edges := if g.encoderResolution = s.geometry.encoderResolution then s.feed.edges else 0 }
    temp := { s.temp with heldLogs := min s.temp.heldLogs g.tempHoldLimit }
    arbiter := { s.arbiter with slots := slotsFor g s.supply.level } }

theorem installGeometry_eq (s : State) (g : Geometry) :
    s.installGeometry g = (allArms.foldl State.newRelease (s.withGeometry g).elevateAged).arbitrate := rfl

/-- A STANDBY arm vented to the release target, which becomes its target (R102). -/
def Arm.releasedTo (c : Arm) (release : Nat) : Arm := { c.ventedTo release with target := release }

theorem arm_newRelease (s : State) (a : ArmId) : (s.newRelease a).arm a =
    if (s.arm a).state = .standby then (s.arm a).releasedTo (releaseTarget s.geometry) else s.arm a := by
  unfold State.newRelease
  split
  · have hvented : (s.vent a (releaseTarget s.geometry)).arm a = (s.arm a).ventedTo (releaseTarget s.geometry) :=
      arm_self_of_set (arms_vent s a _)
    rw [State.updArm_self, hvented]
    rfl
  · rfl

theorem arm_installGeometry (s : State) (g : Geometry) (a : ArmId) : GrantedFrom (s.withGeometry g) (s.installGeometry g) a
    (if (s.arm a).state = .standby then (s.arm a).releasedTo (releaseTarget g) else s.arm a) := by
  have helevated : FlowOnly (s.withGeometry g) (s.withGeometry g).elevateAged := .elevateAged _
  have harms : (s.withGeometry g).elevateAged.arm a = s.arm a := rfl
  obtain ⟨-, hdone⟩ := foldl_oneArm (f := State.newRelease) (R := FlowOnly) .refl (fun _ _ _ h k => h.trans k) FlowOnly.newRelease
    OneArm.newRelease (s.withGeometry g).elevateAged (by decide : allArms.Nodup)
  obtain ⟨u, hflow, harm, heq⟩ := hdone a (mem_allArms a)
  have hreleased := helevated.trans (FlowOnly.foldl FlowOnly.newRelease allArms _)
  rw [installGeometry_eq]
  refine (GrantedFrom.of_eq ?_).then_only hreleased.now hreleased.geometry (grantedOnly_arbitrate _ a)
  rw [heq, arm_newRelease, harm, harms, (helevated.trans hflow).geometry]
  rfl

/-- An entry of the wait list stays, leaves or is elevated by the new limits. -/
theorem wait_installGeometry (s : State) (g : Geometry) {x : WaitEntry} (h : x ∈ (s.installGeometry g).arbiter.wait) :
    ∃ y ∈ s.arbiter.wait, x = if (s.withGeometry g).ageReached y then { y with elevated := true } else y := by
  have hreleased : ∀ (as : List ArmId) (u : State), x ∈ (as.foldl State.newRelease u).arbiter.wait → x ∈ u.arbiter.wait := by
    intro as
    induction as with
    | nil => exact fun u hx => hx
    | cons a as ih =>
      intro u hx
      have hone := ih _ hx
      unfold State.newRelease at hone
      split at hone
      · exact List.mem_of_mem_filter hone
      · exact hone
  rw [installGeometry_eq] at h
  obtain ⟨y, hy, hxy⟩ := List.mem_map.mp (hreleased allArms _ (mem_wait_arbitrate h))
  exact ⟨y, hy, hxy.symm⟩

/-! ### The statement -/

section
variable {s : State} {e : StagedTicket}

theorem takeGeometry_mode (h : s.mode ≠ .config) : s.takeGeometry e = s.headFinished e .mode s.mode.code [] := if_pos h

theorem takeGeometry_refused {n : Nat} (h : s.mode = .config) (hn : (ticketGeometry e.area).firstFailed = some n) :
    (∀ k, (ticketGeometry e.area).firstOutOfRange = some k → s.takeGeometry e = s.headFinished e .field n [(142, wordN k)])
      ∧ ((ticketGeometry e.area).firstOutOfRange = none → s.takeGeometry e = s.headFinished e .field n []) := by
  unfold State.takeGeometry
  rw [if_neg (not_not.mpr h)]
  dsimp only
  rw [hn]
  refine ⟨fun k hk => ?_, fun hk => ?_⟩
  · rw [hk]; rfl
  · rw [hk]; rfl

theorem takeGeometry_accepted (h : s.mode = .config) (hn : (ticketGeometry e.area).firstFailed = none) :
    s.takeGeometry e = (s.installGeometry (ticketGeometry e.area)).finishHead e .done 0
      [(140, bytesOfWord (sumWords (ticketGeometry e.area).toBytes))] := by
  unfold State.takeGeometry
  rw [if_neg (not_not.mpr h)]
  dsimp only
  rw [hn]

end

/-- What ageing does to a waiting request: its arm and its entry stand, and it is elevated when its age says so. -/
theorem aged_fields (aged : Bool) (y : WaitEntry) :
    (if aged then { y with elevated := true } else y).arm = y.arm
      ∧ (if aged then { y with elevated := true } else y).entered = y.entered
      ∧ (if aged then { y with elevated := true } else y).elevated = (y.elevated || aged) := by
  cases aged with
  | false => exact ⟨rfl, rfl, (Bool.or_false _).symm⟩
  | true => exact ⟨rfl, rfl, (Bool.or_true _).symm⟩

/-- Settles O21: the block as its list of fields; a geometry that passes is installed, the STANDBY arms follow the release target and the
requests the limits, and the closure then touches none of it. -/
theorem geometryTicketReplacesTheGeometry : Obligations.GeometryTicketReplacesTheGeometry := by
  unfold Obligations.GeometryTicketReplacesTheGeometry
  refine ⟨fun g fields hfields => ?_, fun s e rest g hrun hstaged hkind hg => ?_⟩
  · have htriples : fields = g.triples := hfields
    rw [htriples]
    refine ⟨fun w hw k v low high h => value_ofWords (w := w) (hw ▸ h), toBytes_eq g, fun before v low high behind h hout hbefore => ?_,
      fun h => firstFailed_inRange (firstOutOfRange_none h)⟩
    have hfirst := firstOutOfRange_some h hout hbefore
    exact ⟨firstFailed_outOfRange hfirst, hfirst⟩
  · have hticket : ticketGeometry e.area = g := hg.symm
    have htake := takeUp_geometry hstaged hkind
    rw [← hticket]
    refine ⟨fun hmode => ?_, fun hmode hfailed k hk => ?_, fun hmode n hfailed hn => ?_, fun hmode hpassed => ?_⟩
    · exact reaches_of_act (f := State.takeUp) rfl hrun (htake.trans (takeGeometry_mode hmode))
    · exact reaches_of_act (f := State.takeUp) rfl hrun (htake.trans ((takeGeometry_refused hmode hfailed).1 k hk))
    · refine reaches_of_act (f := State.takeUp) rfl hrun (htake.trans ((takeGeometry_refused hmode hfailed).2 ?_))
      cases hout : (ticketGeometry e.area).firstOutOfRange with
      | none => rfl
      | some k => exact absurd (Option.some.inj (hfailed.symm.trans (firstFailed_outOfRange hout))) hn
    · refine answers_of_act (f := State.takeUp) rfl hrun fun u release hu hrelease => ?_
      have hfinished : u = (s.withGeometry (ticketGeometry e.area)).finishHead e .done 0
          [(140, bytesOfWord (sumWords (ticketGeometry e.area).toBytes))] := hu
      have hflow : FlowOnly u ((s.installGeometry (ticketGeometry e.area)).finishHead e .done 0
          [(140, bytesOfWord (sumWords (ticketGeometry e.area).toBytes))]) := by
        rw [hfinished]
        exact (installGeometry_flowOnly s (ticketGeometry e.area)).finishHead ..
      have harm := arm_installGeometry s (ticketGeometry e.area)
      have hwait := fun x => wait_installGeometry s (ticketGeometry e.area) (x := x)
      have harms : ∀ a, u.arm a = s.arm a := fun a => by rw [hfinished, arm_finishHead]; rfl
      have hnow : u.now = s.now := by rw [hfinished, now_finishHead]; rfl
      have hgeometry : u.geometry = ticketGeometry e.area := by rw [hfinished, geometry_finishHead]; rfl
      rw [htake, takeGeometry_accepted hmode hpassed]
      clear hu hfinished
      generalize s.installGeometry (ticketGeometry e.area) = v at hflow harm hwait
      refine ⟨hflow.withoutFlow_publish s, hflow.framesKept s rfl, fun a ha => ?_, fun a ha => ?_, fun x hx => ?_⟩
      · have hgrant := harm a
        rw [if_pos ha] at hgrant
        rw [arm_publish, arm_finishHead, hgrant.of_idle rfl, hrelease]
        rfl
      · have hgrant := harm a
        rw [if_neg ha] at hgrant
        unfold GrantedOnly GrantedFrom
        rw [arm_publish, arm_finishHead, harms, hnow, hgeometry]
        exact hgrant
      · rw [arbiter_publish, arbiter_finishHead] at hx
        obtain ⟨y, hy, hxy⟩ := hwait x hx
        refine ⟨y, hy, ?_⟩
        rw [hxy]
        exact aged_fields ((s.withGeometry (ticketGeometry e.area)).ageReached y) y

end Sys2Proof.Machine
end

section
/-! PROOF. ARM tickets: their checks, the arm taken out, and its return (R130, R131). -/

namespace Sys2Proof.Machine

/-! ### The arm a ticket names -/

theorem armOf_none {rotor index : Nat} (h : rotor = 0 ∨ 2 < rotor ∨ index = 0 ∨ 5 < index) : armOf rotor index = none := by
  have harms : ∀ r, index = 0 ∨ 5 < index → (if index = 0 then none else (armsOf r)[index - 1]?) = none := fun r hindex => by
    rcases hindex with hzero | hbig
    · exact if_pos hzero
    · rw [if_neg (by omega), List.getElem?_eq_none_iff]
      cases r
      all_goals exact Nat.le_sub_one_of_lt hbig
  unfold armOf
  split
  · exact harms .r1 (by omega)
  · exact harms .r2 (by omega)
  · rfl

theorem armCheck_refused {action n : Nat} {c : Arm}
    (h : n = 2 ∧ action ≠ 1 ∧ action ≠ 2 ∨ n = 3 ∧ action = 2 ∧ c.present = false) : armCheck action c = some n := by
  unfold armCheck
  rcases h with ⟨rfl, hone, htwo⟩ | ⟨rfl, rfl, habsent⟩
  · rw [if_pos ⟨hone, htwo⟩]
  · rw [if_neg (by omega), if_pos ⟨rfl, by rw [habsent]; rfl⟩]

theorem armCheck_out (c : Arm) : armCheck 1 c = none := rfl

theorem armCheck_return {c : Arm} (h : c.present = true) : armCheck 2 c = none := by
  unfold armCheck
  rw [if_neg (by omega), if_neg (by rw [h]; nofun)]

section
variable {s : State} {e : StagedTicket} {rotor index action : Nat} {a : ArmId} (hrotor : rotor = (areaWord e.area 8).toNat)
  (hindex : index = (areaWord e.area 10).toNat) (haction : action = (areaWord e.area 12).toNat)
include hrotor hindex haction

theorem takeArm_noArm (h : armOf rotor index = none) :
    s.takeArm e = s.headFinished e .field 1 [(140, byteN rotor), (141, byteN index), (142, byteN action)] := by
  subst hrotor hindex haction
  unfold State.takeArm
  dsimp only
  rw [h]
  rfl

theorem takeArm_refused {n : Nat} (h : armOf rotor index = some a) (hn : armCheck action (s.arm a) = some n) :
    s.takeArm e = s.headFinished e .field n (armOutcome rotor index action (s.arm a)) := by
  subst hrotor hindex haction
  unfold State.takeArm
  dsimp only
  rw [h]
  dsimp only
  rw [hn]
  rfl

theorem takeArm_accepted (h : armOf rotor index = some a) (hn : armCheck action (s.arm a) = none) :
    s.takeArm e = (s.armAction a action).finishHead e .done 0 (armOutcome rotor index action ((s.armAction a action).arm a)) := by
  subst hrotor hindex haction
  unfold State.takeArm
  dsimp only
  rw [h]
  dsimp only
  rw [hn]

end

/-! ### What a RETURN does -/

theorem returnArm_inService {s : State} {a : ArmId} (h : (s.arm a).state ≠ .out) : s.returnArm a = s := if_pos h

theorem returnArm_pending {s : State} {a : ArmId} (hout : (s.arm a).state = .out)
    (h : (s.current? (rotorOf a)).isSome = true ∨ s.latch = true) :
    s.returnArm a = s.setArm a { s.arm a with returnPending := true } := by
  refine (if_neg (not_not.mpr hout)).trans (if_neg ?_)
  rcases h with hcurrent | hlatch
  · obtain ⟨b, hb⟩ := Option.isSome_iff_exists.mp hcurrent
    rw [hb]
    nofun
  · rw [hlatch, Bool.not_true, Bool.and_false]
    nofun

theorem returnArm_atOnce {s : State} {a : ArmId} (hout : (s.arm a).state = .out) (hcurrent : s.current? (rotorOf a) = none)
    (hlatch : s.latch = false) : s.returnArm a = ((s.returnToStandby a).startPark (rotorOf a)).arbitrate :=
  (if_neg (not_not.mpr hout)).trans (if_pos (by rw [hcurrent, hlatch]; rfl))

/-! ### The closure after it -/

/-- Grants that follow stay so through the closure of the ticket and its publication, which raise no ROTOR. -/
theorem GrantsFollow.finishHead {w : State} (old : State) (e : StagedTicket) (fields : List (Nat × List Byte)) :
    GrantsFollow w (publish old (w.arbitrate.finishHead e .done 0 fields)) := by
  have hflow : FlowOnly w w.arbitrate := .arbitrate w
  have hfields := finishHead_fields w.arbitrate e .done 0 fields
  obtain ⟨m, hpublish, -⟩ := publish_ram old (w.arbitrate.finishHead e .done 0 fields)
  refine ⟨?_, ?_, ?_, ?_, fun b => ?_⟩
  · rw [hpublish]
    exact (congrArg State.now hfields).trans hflow.now
  · rw [hpublish]
    exact (congrArg State.holds hfields).trans hflow.holds
  · rw [pendingCause_congr (cause_publish ..), pendingCause_finishHead]
    exact pendingCause_congr hflow.cause .rotor
  · rw [hpublish]
    exact (congrArg State.queue hfields).trans (queue_arbitrate w)
  · refine (grantedOnly_arbitrate w b).congr_arm ?_
    rw [arm_publish, arm_finishHead]

/-- A park timer's start takes no part in what the grants follow. -/
theorem GrantsFollow.of_startPark {w t : State} {r : RotorId} (h : GrantsFollow (w.startPark r) t) : GrantsFollow w t := by
  obtain ⟨arms, -, queue, holds, cause, -, now, geometry, -, -⟩ := startPark_fields w r
  have hbefore : ∀ b, GrantedOnly w (w.startPark r) b := fun b => .of_arm (congrArg (fun x : Arms => x.get b) arms)
  exact ⟨h.now.trans now, h.holds.trans holds, h.rotor.trans (pendingCause_congr cause .rotor), h.queue.trans queue,
    fun b => (hbefore b).trans now geometry (h.arms b)⟩

theorem length_checkedHead (s : State) (l : List StagedTicket) : (s.checkedHead l).length = l.length := by
  cases l with
  | nil => rfl
  | cons b l => rfl

/-- The act leaves the counters, the staged queue and the clock. -/
structure HeadStands (s u : State) : Prop where
  counters : u.counters = s.counters
  manifest : u.manifest = s.manifest
  now : u.now = s.now
  geometry : u.geometry = s.geometry

theorem HeadStands.of_flowOnly {s u : State} (h : FlowOnly s u) : HeadStands s u :=
  ⟨by have k := congrArg State.counters h.1; exact k, h.manifest, h.now, h.geometry⟩

theorem HeadStands.trans {s u v : State} (h : HeadStands s u) (g : HeadStands u v) : HeadStands s v :=
  ⟨g.counters.trans h.counters, g.manifest.trans h.manifest, g.now.trans h.now, g.geometry.trans h.geometry⟩

theorem HeadStands.countChanged (s : State) (r : RotorId) (old : Nat) : HeadStands s (s.countChanged r old) := by
  obtain ⟨holds, cause, hcounted⟩ := counted_fields s r old
  have hset : HeadStands s (s.counted r old) := by rw [hcounted]; exact ⟨rfl, rfl, rfl, rfl⟩
  rw [countChanged_eq]
  exact hset.trans (.of_flowOnly (.recomputeAll ..))

theorem HeadStands.putOut (s : State) (a : ArmId) (cause : OutCause) : HeadStands s (s.putOut a cause) := by
  by_cases h : (s.arm a).state = .out
  · rw [putOut_out h]
    exact ⟨rfl, rfl, rfl, rfl⟩
  · rw [putOut_inService h]
    exact (HeadStands.of_flowOnly (flowOnly_leftService s a cause)).trans (.countChanged ..)

/-- The closure of the head, where the act before it left the staged queue and the counters. -/
theorem head_closed {s u : State} {e : StagedTicket} {rest : List StagedTicket} (old : State) (fields : List (Nat × List Byte))
    (h : HeadStands s u) (hstaged : s.manifest.staged = e :: rest) :
    (publish old (u.finishHead e .done 0 fields)).manifest.staged.length = rest.length
      ∧ (publish old (u.finishHead e .done 0 fields)).counters.closures = s.counters.closures + 1
      ∧ (publish old (u.finishHead e .done 0 fields)).pendingCause .closed = true := by
  obtain ⟨m, hpublish, -⟩ := publish_ram old (u.finishHead e .done 0 fields)
  have hmanifest : (u.closeFrame e.frame e.tag .done 0 fields).manifest = u.manifest := by
    have k := congrArg State.manifest (closeFrame_fields u e.frame e.tag .done 0 fields)
    exact k
  refine ⟨?_, ?_, ?_⟩
  · rw [hpublish]
    unfold State.finishHead
    rw [departHead_eq]
    dsimp only
    rw [length_checkedHead, hmanifest, h.manifest, hstaged]
    rfl
  · rw [counters_publish, counters_finishHead, h.counters]
    rfl
  · rw [pendingCause_congr (cause_publish ..), pendingCause_finishHead]
    rfl

/-! ### The arm taken out, and its return -/

/-- The arm that goes OUT, or takes the new cause. -/
theorem put_out {s t : State} {a : ArmId} {cause : OutCause} (ht : GrantsFollow (s.putOut a cause) t)
    (hstanding : (t.arm a).standing = ((s.putOut a cause).arm a).standing) :
    (t.arm a).state = .out ∧ (t.arm a).outCause = some cause ∧ (t.arm a).returnPending = false ∧ (t.arm a).inserted = false
      ∧ ((s.arm a).state ≠ .out → t.activeCount (rotorOf a) + 1 = s.activeCount (rotorOf a) ∧ CountFollows s t a)
      ∧ ((s.arm a).state = .out → t.holds = s.holds ∧ t.queue = s.queue
        ∧ t.pendingCause .rotor = s.pendingCause .rotor ∧ ∀ b, b ≠ a → GrantedOnly s t b) := by
  by_cases hout : (s.arm a).state = .out
  · rw [putOut_out hout] at ht hstanding
    rw [State.arm_setArm_self] at hstanding
    refine ⟨(congrArg Arm.state hstanding).trans hout, congrArg Arm.outCause hstanding, congrArg Arm.returnPending hstanding,
      congrArg Arm.inserted hstanding, fun h => absurd hout h, fun _ => ⟨ht.holds, ht.queue, ht.rotor, fun b hb => ?_⟩⟩
    have hbefore : GrantedOnly s (s.setArm a { s.arm a with outCause := some cause, returnPending := false, inserted := false }) b :=
      .of_arm ((State.arm_setArm ..).trans (if_neg (Ne.symm hb)))
    exact hbefore.trans rfl rfl (ht.arms b)
  · obtain ⟨hleft, -, hcount, hfollows⟩ := left_follows hout ht
    exact ⟨hleft.state, hleft.outCause, hleft.returnPending, hleft.inserted, fun _ => ⟨hcount, hfollows⟩, fun h => absurd h hout⟩

/-- An arm that has returned, with all that follows the count's change. -/
theorem returned_follows {s t : State} {a : ArmId} (hout : (s.arm a).state = .out) (ht : GrantsFollow (s.returnToStandby a) t) :
    (t.arm a).state = .standby ∧ (t.arm a).outCause = none ∧ (t.arm a).returnPending = false ∧ (t.arm a).inserted = false
      ∧ t.activeCount (rotorOf a) = s.activeCount (rotorOf a) + 1 ∧ CountFollows s t a := by
  have hat := atStandby_backToStandby hout
  rw [returnToStandby_eq] at ht
  have hwait : ((s.backToStandby a).arm a).flow.isWaiting = false := by rw [hat.flow]; rfl
  have hengaged : ((s.backToStandby a).arm a).state ≠ .engaged := by rw [hat.state]; decide
  have hothers := (oneArm_backToStandby s a).others
  have harm := arm_of_counted hwait hengaged ht
  have hflow : FlowOnly { s with now := (s.backToStandby a).now } (s.backToStandby a) := by
    have k := flowOnly_backToStandby s a
    rw [k.now]
    exact k
  have hcount : s.activeCount (rotorOf a) + 1 = t.activeCount (rotorOf a) :=
    activeCount_left (by rw [harm, hat.state]; decide) hout fun b hb => by rw [state_of_counted ht, hothers b hb]
  obtain ⟨hcause, hpending, hinserted⟩ := hat.returned hout
  rw [harm]
  exact ⟨hat.state, hcause, hpending, hinserted, hcount.symm, countFollows_of hflow hothers hwait hengaged ht⟩

/-- Settles O20: by the check that fails (`armCheck`), and by what a changed count brings (`put_out`, `returned_follows`). -/
theorem armTicketTakesArmsOutAndBack : Obligations.ArmTicketTakesArmsOutAndBack := by
  intro s e rest rotor index action hrun hstaged hkind hrotor hindex haction
  have htake : s.takeUp = s.takeArm e := takeUp_arm hstaged hkind
  refine ⟨fun h => reaches_of_act (f := State.takeUp) rfl hrun (htake.trans (takeArm_noArm hrotor hindex haction (armOf_none h))),
    fun a ha => ⟨fun n hn => ?_, ?_, ?_, ?_, ?_⟩⟩
  · exact reaches_of_act (f := State.takeUp) rfl hrun
      (htake.trans (takeArm_refused hrotor hindex haction ha (armCheck_refused hn)))
  · rintro rfl
    refine answers_of_act (f := State.takeUp) rfl hrun ?_
    have hact : s.armAction a 1 = (s.putOut a .byTicket).arbitrate := rfl
    rw [htake, takeArm_accepted hrotor hindex haction ha (armCheck_out _), hact]
    generalize armOutcome rotor index 1 ((s.putOut a .byTicket).arbitrate.arm a) = fields
    obtain ⟨hlength, hclosures, hclosed⟩ := head_closed s fields ((HeadStands.putOut s a .byTicket).trans (.of_flowOnly (.arbitrate _))) hstaged
    obtain ⟨hstate, hcause, hpending, hinserted, hleft, hstays⟩ := put_out (GrantsFollow.finishHead (w := s.putOut a .byTicket) s e fields)
      (by rw [arm_publish, arm_finishHead, (StandingKept.arbitrate _).arm])
    exact ⟨hstate, hcause, hpending, hinserted, hlength, hclosures, hclosed, hleft, hstays⟩
  · rintro rfl hpresent hin
    have hact : s.armAction a 2 = s := returnArm_inService hin
    refine reaches_of_act (f := State.takeUp) rfl hrun ?_
    rw [htake, takeArm_accepted hrotor hindex haction ha (armCheck_return hpresent), hact]
    unfold armOutcome
    rw [hpresent]
    rfl
  · rintro rfl hpresent hout hwaits
    have hact : s.armAction a 2 = s.setArm a { s.arm a with returnPending := true } := returnArm_pending hout hwaits
    refine reaches_of_act (f := State.takeUp) rfl hrun ?_
    rw [htake, takeArm_accepted hrotor hindex haction ha (armCheck_return hpresent), hact, State.arm_setArm_self]
    unfold armOutcome
    dsimp only
    rw [hpresent, hout]
    rfl
  · rintro rfl hpresent hout hcurrent hlatch
    refine answers_of_act (f := State.takeUp) rfl hrun ?_
    have hact : s.armAction a 2 = ((s.returnToStandby a).startPark (rotorOf a)).arbitrate := returnArm_atOnce hout hcurrent hlatch
    rw [htake, takeArm_accepted hrotor hindex haction ha (armCheck_return hpresent), hact]
    generalize armOutcome rotor index 2 (((s.returnToStandby a).startPark (rotorOf a)).arbitrate.arm a) = fields
    have hgrants := GrantsFollow.finishHead (w := (s.returnToStandby a).startPark (rotorOf a)) s e fields
    obtain ⟨hstate, hcause, hpending, hinserted, hcount, hfollows⟩ := returned_follows hout hgrants.of_startPark
    refine ⟨hstate, hcause, hpending, hinserted, hcount, ?_, hfollows⟩
    have hstands : HeadStands s (s.returnToStandby a) := (HeadStands.of_flowOnly (flowOnly_backToStandby s a)).trans (.countChanged ..)
    have hpark : (((s.returnToStandby a).startPark (rotorOf a)).arbitrate.rotor (rotorOf a)).park = some (s.now + s.geometry.parkDelay) := by
      obtain ⟨-, -, -, -, -, -, -, -, hpark, -⟩ := startPark_fields (s.returnToStandby a) (rotorOf a)
      rw [(FlowOnly.arbitrate _).parkTimer, hpark, hstands.now, hstands.geometry]
    have hfields := finishHead_fields (((s.returnToStandby a).startPark (rotorOf a)).arbitrate) e .done 0 fields
    obtain ⟨m, hpublish, -⟩ := publish_ram s ((((s.returnToStandby a).startPark (rotorOf a)).arbitrate).finishHead e .done 0 fields)
    rw [hpublish]
    exact (congrArg (fun z : State => (z.rotor (rotorOf a)).park) hfields).trans hpark

end Sys2Proof.Machine
end

section
/-! PROOF. Records and their marks: what a record of a tag holds after a change, and the nearest point ahead in BODY (R70). -/

namespace Sys2Proof.Machine

/-! ### The record of a tag -/

theorem find?_map_tag {f : Record → Record} (hf : ∀ q, (f q).tag = q.tag) (l : List Record) (x : Tag) :
    (l.map f).find? (fun q => q.tag == x) = (l.find? fun q => q.tag == x).map f := by
  rw [List.find?_map]
  congr 2
  funext q
  exact congrArg (· == x) (hf q)

theorem record?_tag {s : State} {x : Tag} {q : Record} (h : s.record? x = some q) : q.tag = x :=
  beq_iff_eq.mp (List.find?_some h :)

theorem record?_updRecord (s : State) {g : Tag} {f : Record → Record} (hf : ∀ q, (f q).tag = q.tag) (x : Tag) :
    (s.updRecord g f).record? x = (s.record? x).map fun q => if q.tag == g then f q else q :=
  find?_map_tag (fun q => by split; exacts [hf q, rfl]) s.queue x

theorem record?_updRecord_self {s : State} {g : Tag} {f : Record → Record} {q : Record} (hf : ∀ q, (f q).tag = q.tag)
    (h : s.record? g = some q) : (s.updRecord g f).record? g = some (f q) := by
  rw [record?_updRecord s hf, h, Option.map_some, if_pos (beq_iff_eq.mpr (record?_tag h))]

theorem record?_updView_self {s : State} {r : RotorId} {g : Tag} {f : RotorView → RotorView} {q : Record}
    (h : s.record? g = some q) : (s.updView r g f).record? g = some (q.updView r f) :=
  record?_updRecord_self (fun q => tag_updView q r f) h

theorem record?_updView_other {s : State} {r : RotorId} {g x : Tag} {f : RotorView → RotorView} (hx : x ≠ g) :
    (s.updView r g f).record? x = s.record? x := by
  refine (record?_updRecord s (fun q => tag_updView q r f) x).trans ?_
  cases h : s.record? x with
  | none => rfl
  | some q =>
    rw [Option.map_some, if_neg]
    rw [record?_tag h, beq_iff_eq]
    exact hx

/-- A change of the flow alone leaves the record of a tag, but for its maximum targets. -/
theorem FlowOnly.record {s t : State} (h : FlowOnly s t) {x : Tag} {q : Record} (hq : s.record? x = some q) :
    ∃ p, t.record? x = some p ∧ p.withoutTargets = q.withoutTargets := by
  have hqueue : t.queue.map Record.withoutTargets = s.queue.map Record.withoutTargets := congrArg State.queue h.1
  have hfind := fun l : List Record => find?_map_tag (f := Record.withoutTargets) (fun _ => rfl) l x
  have hrecord : (t.record? x).map Record.withoutTargets = (s.record? x).map Record.withoutTargets := by
    unfold State.record?
    rw [← hfind, ← hfind, hqueue]
  rw [hq] at hrecord
  exact Option.map_eq_some_iff.mp hrecord

/-- The view without the maximum target, which a change of the flow leaves. -/
def RotorView.withoutTarget (w : RotorView) : RotorView := { w with maxTarget := 0 }

theorem view_withoutTargets (q : Record) (r : RotorId) : q.withoutTargets.view r = (q.view r).withoutTarget := by cases r <;> rfl

theorem view_of_withoutTargets {p q : Record} (h : p.withoutTargets = q.withoutTargets) (r : RotorId) :
    (p.view r).withoutTarget = (q.view r).withoutTarget := by
  rw [← view_withoutTargets, ← view_withoutTargets, h]

theorem phase_of_withoutTargets {p q : Record} (h : p.withoutTargets = q.withoutTargets) (r : RotorId) : p.phase r = q.phase r := by
  have k := congrArg RotorView.phase (view_of_withoutTargets h r)
  exact k

theorem core_of_withoutTargets {p q : Record} (h : p.withoutTargets = q.withoutTargets) : p.core = q.core := by
  have k := congrArg Record.core h
  exact k

/-! ### The nearest point ahead -/

/-- What the mark of a record in BODY is: the nearest followed point beyond a distance, else the release position of a known tail. -/
structure State.NearestMark (s : State) (r : RotorId) (q : Record) (beyond : Nat) (m : Option Mark) : Prop where
  point : ∀ d, s.followedPoint q beyond d → (∀ e, s.followedPoint q beyond e → d ≤ e) →
    m = some ⟨.sectionPoint, posAdd q.head (s.geometry.toolPlane r + d)⟩
  release : (∀ d, ¬ s.followedPoint q beyond d) → ∀ tail, q.tail = some tail →
    m = some ⟨.release, posAdd tail ((s.geometry.toolPlane r : Int) - s.geometry.releaseLead)⟩
  nowhere : (∀ d, ¬ s.followedPoint q beyond d) → q.tail = none → m = none

theorem State.NearestMark.armed {s t : State} {r : RotorId} {q : Record} {beyond : Nat} {m : Option Mark}
    (h : s.NearestMark r q beyond m) (ht : t.feed.marks.get (clientOf r) q.tag = m) : NearestArmed s t r q beyond := by
  subst ht
  exact ⟨h.point, h.release, h.nowhere⟩

/-- The record without its distance followed, which says where it may be followed. -/
def Record.shape (q : Record) : Pos × Option Pos × Nat × List Station × Option SpeciesRow × Orientation × Tag :=
  (q.head, q.tail, q.working, q.stations, q.row, q.orientation, q.tag)

theorem followedPoint_congr {s t : State} {p q : Record} (hgeometry : t.geometry = s.geometry) (hshape : p.shape = q.shape)
    (beyond : Nat) (d : Int) : t.followedPoint p beyond d ↔ s.followedPoint q beyond d := by
  simp only [Record.shape, Prod.mk.injEq] at hshape
  obtain ⟨-, htail, hworking, hstations, hrow, horientation, -⟩ := hshape
  unfold State.followedPoint Record.boundaryAt
  rw [hgeometry, htail, hworking, hstations, hrow, horientation]

theorem nearestAhead_congr {s t : State} {p q : Record} (hgeometry : t.geometry = s.geometry) (hpeak : t.feed.peak = s.feed.peak)
    (hshape : p.shape = q.shape) {r : RotorId} {beyond : Nat} (h : s.nearestAhead r q beyond) : t.nearestAhead r p beyond := by
  have hfollowed := followedPoint_congr hgeometry hshape beyond
  simp only [Record.shape, Prod.mk.injEq] at hshape
  obtain ⟨hhead, htail, -⟩ := hshape
  unfold State.nearestAhead State.ahead at h ⊢
  simp only [hfollowed, hgeometry, hpeak, hhead, htail]
  exact h

theorem NearestMark.congr {s t : State} {p q : Record} (hgeometry : t.geometry = s.geometry) (hshape : p.shape = q.shape)
    {r : RotorId} {beyond : Nat} {m : Option Mark} (h : t.NearestMark r p beyond m) : s.NearestMark r q beyond m := by
  have hfollowed := followedPoint_congr hgeometry hshape beyond
  simp only [Record.shape, Prod.mk.injEq] at hshape
  obtain ⟨hhead, htail, -⟩ := hshape
  obtain ⟨hpoint, hrelease, hnowhere⟩ := h
  simp only [hfollowed, hgeometry, hhead, htail] at hpoint hrelease hnowhere
  exact ⟨hpoint, hrelease, hnowhere⟩

theorem mem_zoneBoundaries {q : Record} {d : Int} : d ∈ q.zoneBoundaries ↔ q.boundaryAt d := by
  unfold Record.zoneBoundaries Record.boundaryAt
  cases hrow : q.row with
  | none => simp
  | some row =>
    cases horientation : q.orientation with
    | buttFirst => simp
    | topFirst => simp

theorem mem_sectionPoints {s : State} {r : RotorId} {q : Record} {d : Int} :
    d ∈ s.sectionPoints r q ↔ s.followedPoint q (q.view r).followed d := by
  unfold State.sectionPoints State.followedPoint
  rw [List.mem_filter, List.mem_append, mem_zoneBoundaries, List.mem_map]
  simp only [Bool.and_eq_true, decide_eq_true_eq, eq_comm (a := d)]
  cases htail : q.tail with
  | none => simp [and_assoc]
  | some tail => simp [and_assoc]

/-- The arming of the nearest point puts its mark, which lies ahead, in the record's place. -/
theorem armNearest_ahead {s : State} {arm : Arming} {r : RotorId} {q : Record} (harm : arm.placesAhead)
    (h : s.nearestAhead r q (q.view r).followed) :
    ∃ m, s.armNearest arm r q = s.setMark (clientOf r) q.tag m ∧ s.NearestMark r q (q.view r).followed m := by
  obtain ⟨hpoint, hrelease⟩ := h
  have hmem := fun d => mem_sectionPoints (s := s) (r := r) (q := q) (d := d)
  unfold State.armNearest
  cases hmin : (s.sectionPoints r q).min? with
  | some d =>
    obtain ⟨hd, hleast⟩ := List.min?_eq_some_iff.mp hmin
    rw [hmem] at hd
    have hnearest : ∀ e, s.followedPoint q (q.view r).followed e → d ≤ e := fun e he => hleast e ((hmem e).mpr he)
    refine ⟨_, harm s _ _ _ _ (hpoint d hd hnearest), fun e he hall => ?_, fun hnone => absurd hd (hnone d), fun hnone => absurd hd (hnone d)⟩
    rw [Int.le_antisymm (hall d hd) (hnearest e he)]
    rfl
  | none =>
    have hempty : ∀ d, ¬ s.followedPoint q (q.view r).followed d := fun d hd => by
      have k := (hmem d).mpr hd
      rw [List.min?_eq_none_iff.mp hmin] at k
      exact nomatch k
    cases htail : q.tail with
    | some tail =>
      refine ⟨_, harm s _ _ _ _ (hrelease hempty tail htail), fun d hd => absurd hd (hempty d), fun _ x hx => ?_, fun _ hx => ?_⟩
      · rw [htail] at hx
        rw [← Option.some.inj hx]
        rfl
      · rw [htail] at hx
        exact nomatch hx
    | none =>
      refine ⟨none, rfl, fun d hd => absurd hd (hempty d), fun _ x hx => ?_, fun _ _ => rfl⟩
      rw [htail] at hx
      exact nomatch hx

theorem shape_updView (q : Record) (r : RotorId) (f : RotorView → RotorView) : (q.updView r f).shape = q.shape := by cases r <;> rfl

theorem shape_of_core {p q : Record} (h : p.core = q.core) : p.shape = q.shape := by
  have k := congrArg Record.shape h
  exact k

theorem get_marks_setMark_self (s : State) (c : Client) (x : Tag) (m : Option Mark) : (s.setMark c x m).feed.marks.get c x = m :=
  (MarkTable.get_set ..).trans (if_pos ⟨rfl, rfl⟩)

/-! ### The body marks -/

section
variable {s u : State} {arm : Arming} {r : RotorId} {q : Record} {beyond : Nat}

/-- After a recompute of the rotor's arms the nearest point is armed, and the arbiter makes its grants. -/
theorem body_rearmed (harm : arm.placesAhead) (hq : s.record? q.tag = some q) (h : s.nearestAhead r q beyond)
    {f : RotorView → RotorView} (hf : (f (q.view r)).followed = beyond) (hu : u = s.updView r q.tag f) (forced : Bool) {t : State}
    (ht : t = ((u.recomputeAll (armsOf r) forced (.fixed .normal)).rearmBody arm r q.tag).arbitrate) :
    (t.record? q.tag).map (fun x => x.phase r) = some (f (q.view r)).phase
      ∧ Retargeted u t (fun a => rotorOf a = r) forced (fun _ => .normal) ∧ NearestArmed s t r q beyond := by
  have hrecorded : u.record? q.tag = some (q.updView r f) := by rw [hu]; exact record?_updView_self hq
  obtain ⟨v, hv⟩ : ∃ v, v = u.recomputeAll (armsOf r) forced (.fixed .normal) := ⟨_, rfl⟩
  have hflow : FlowOnly u v := by rw [hv]; exact .recomputeAll ..
  obtain ⟨x, hx, hxq⟩ := hflow.record hrecorded
  have hview : (x.view r).withoutTarget = (f (q.view r)).withoutTarget := by
    rw [view_of_withoutTargets hxq r, view_updView_self]
  have hphase : (x.view r).phase = (f (q.view r)).phase := by
    have k := congrArg RotorView.phase hview
    exact k
  have hfollowed : (x.view r).followed = beyond := (congrArg RotorView.followed hview :).trans hf
  have hshape : x.shape = q.shape := (shape_of_core (core_of_withoutTargets hxq)).trans (shape_updView q r f)
  have htag : x.tag = q.tag := record?_tag hx
  have hgeometry : v.geometry = s.geometry := by rw [hflow.geometry, hu]; rfl
  have hfeed : v.feed = s.feed := by rw [hflow.feed, hu]; rfl
  have hahead := nearestAhead_congr hgeometry (congrArg Feed.peak hfeed) hshape h
  rw [← hfollowed] at hahead
  obtain ⟨m, harmed, hm⟩ := armNearest_ahead harm hahead
  rw [hfollowed] at hm
  have hrearm : v.rearmBody arm r q.tag = v.setMark (clientOf r) q.tag m := by
    unfold State.rearmBody
    rw [hx]
    dsimp only
    rw [harmed, htag]
  rw [← hv, hrearm] at ht
  have hgrants : FlowOnly (v.setMark (clientOf r) q.tag m) t := by rw [ht]; exact .arbitrate _
  refine ⟨?_, ?_, ?_⟩
  · obtain ⟨y, hy, hyx⟩ := hgrants.record (x := q.tag) (q := x) hx
    rw [hy, Option.map_some, phase_of_withoutTargets hyx]
    exact congrArg some hphase
  · refine (retargeted_recomputeAll (t := t) (forced := forced) (k := .fixed .normal) (.refl u) (nodup_armsOf r) (fun _ => rfl)
      fun a => ?_).congr_on fun b => (mem_armsOf ..).symm
    rw [← hv, ht]
    exact (GrantedOnly.of_arm rfl).trans rfl rfl (grantedOnly_arbitrate (v.setMark (clientOf r) q.tag m) a)
  · refine (NearestMark.congr hgeometry hshape hm).armed ?_
    rw [hgrants.feed]
    exact get_marks_setMark_self ..

end

/-- A mark delivered to a rotor's client goes to that rotor. -/
theorem deliverMark_clientOf (s : State) (arm : Arming) (r : RotorId) (q : Record) (m : Mark) :
    s.deliverMark arm (clientOf r) q m = s.rotorMark arm r q m := by cases r <;> rfl

/-- Settles O28: the record is moved on, the rotor's arms are recomputed and the nearest point is armed (`body_rearmed`). -/
theorem bodyMarksFollowTheSectionPoints : Obligations.BodyMarksFollowTheSectionPoints := by
  intro s t u arm r q p beyond harm hq hahead
  refine ⟨fun hbeyond hu ht => ?_, fun hbeyond hu ht => ?_⟩
  · refine body_rearmed harm hq hahead (f := fun w => { w with phase := .body, followed := beyond }) rfl hu true ?_
    rw [ht, deliverMark_clientOf, hu, hbeyond]
    rfl
  · refine body_rearmed harm hq hahead (f := fun w => { w with followed := beyond }) rfl hu false ?_
    rw [ht, deliverMark_clientOf, hu, hbeyond]
    rfl

end Sys2Proof.Machine
end

section
/-! PROOF. The hand-over of a tail to one rotor (the table of R71). -/

namespace Sys2Proof.Machine

/-! ### Marks and the current record -/

/-- A place filled with what it holds. -/
theorem MarkTable.set_get_self (x : MarkTable) (c : Client) (t : Tag) : x.set c t (x.get c t) = x := by
  have row : ∀ y : MarkRow, y.set t (y.get t) = y := fun y => by fin_cases t <;> rfl
  cases c with
  | rotor1 => exact congrArg (fun y : MarkRow => { x with rotor1 := y }) (row x.rotor1)
  | rotor2 => exact congrArg (fun y : MarkRow => { x with rotor2 := y }) (row x.rotor2)
  | transit => exact congrArg (fun y : MarkRow => { x with transit := y }) (row x.transit)

theorem setMark_get_self (s : State) (c : Client) (t : Tag) : s.setMark c t (s.feed.marks.get c t) = s := by
  unfold State.setMark
  rw [MarkTable.set_get_self]

/-- What names a record at a rotor: its tag and whether it is PASSED there. -/
def Record.named (r : RotorId) (q : Record) : Tag × Bool := (q.tag, q.phase r != .passed)

theorem current?_named {s t : State} {r : RotorId} (h : t.queue.map (Record.named r) = s.queue.map (Record.named r)) :
    (t.current? r).map Record.tag = (s.current? r).map Record.tag := by
  have hfirst : ∀ l : List Record, (l.filter fun q => q.phase r != .passed).head?.map Record.tag =
      (((l.map (Record.named r)).filter Prod.snd).map Prod.fst).head? := fun l => by
    rw [List.filter_map, List.map_map, List.head?_map]
    rfl
  unfold State.current? State.pendingAt
  rw [hfirst, hfirst, h]

theorem FlowOnly.named {s t : State} (h : FlowOnly s t) (r : RotorId) : t.queue.map (Record.named r) = s.queue.map (Record.named r) := by
  have hqueue : t.queue.map Record.withoutTargets = s.queue.map Record.withoutTargets := congrArg State.queue h.1
  have hnamed : ∀ l : List Record, l.map (Record.named r) = (l.map Record.withoutTargets).map (Record.named r) := fun l => by
    rw [List.map_map]
    exact List.map_congr_left fun q _ => by cases r <;> rfl
  rw [hnamed t.queue, hnamed s.queue, hqueue]

theorem isCurrent_iff (s : State) (r : RotorId) (t : Tag) : s.isCurrent r t = true ↔ (s.current? r).map Record.tag = some t := by
  unfold State.isCurrent
  cases s.current? r with
  | none => exact ⟨nofun, nofun⟩
  | some q => exact beq_iff_eq.trans Option.some_inj.symm

/-! ### The arms of a rotor with a stub in LIFT -/

theorem reliftForStub_spared {s : State} {a : ArmId} {t : Tag} (h : (s.arm a).state = .out
    ∨ ((s.arm a).state = .opened ∨ (s.arm a).state = .lifting) ∧ (s.arm a).aperture = s.geometry.maxAperture) :
    s.reliftForStub t a = s := by
  unfold State.reliftForStub
  dsimp only
  rcases h with hout | hwide
  · rw [liftInService_out hout, ite_self]
  · rw [if_pos hwide]

theorem reliftForStub_asked {s : State} {a : ArmId} {t : Tag}
    (h : ¬ (((s.arm a).state = .opened ∨ (s.arm a).state = .lifting) ∧ (s.arm a).aperture = s.geometry.maxAperture)) :
    s.reliftForStub t a = s.liftInService s.geometry.maxAperture (some t) a := if_neg h

theorem OneArm.reliftForStub (t : Tag) (s : State) (a : ArmId) : OneArm a s (s.reliftForStub t a) := by
  unfold State.reliftForStub
  dsimp only
  split
  · exact .refl a s
  · exact .liftInService ..

theorem FlowOnly.reliftForStub (t : Tag) (s : State) (a : ArmId) : FlowOnly s (s.reliftForStub t a) := by
  unfold State.reliftForStub
  dsimp only
  split
  · exact .refl s
  · exact .liftInService ..

/-- A rotor's arms asked for "maximum aperture" by a stub handed over in LIFT. -/
theorem arm_reliftForStubs (s : State) (t : Tag) (r : RotorId) :
    FlowOnly s ((armsOf r).foldl (State.reliftForStub t) s)
      ∧ (∀ a, rotorOf a ≠ r → ((armsOf r).foldl (State.reliftForStub t) s).arm a = s.arm a)
      ∧ ∀ a, rotorOf a = r →
        (((s.arm a).state = .out
            ∨ ((s.arm a).state = .opened ∨ (s.arm a).state = .lifting) ∧ (s.arm a).aperture = s.geometry.maxAperture) →
          ((armsOf r).foldl (State.reliftForStub t) s).arm a = s.arm a)
        ∧ ((s.arm a).state ≠ .out →
          ¬ (((s.arm a).state = .opened ∨ (s.arm a).state = .lifting) ∧ (s.arm a).aperture = s.geometry.maxAperture) →
          ((armsOf r).foldl (State.reliftForStub t) s).arm a =
            (s.arm a).askedLift (s.ventHeld a) s.geometry.maxAperture (some t)) := by
  obtain ⟨hkept, hdone⟩ := foldl_oneArm (f := State.reliftForStub t) (R := FlowOnly) .refl (fun _ _ _ => .trans) (.reliftForStub t)
    (OneArm.reliftForStub t) s (nodup_armsOf r)
  refine ⟨.foldl (.reliftForStub t) _ s, fun a ha => hkept a fun h => ha ((mem_armsOf ..).mp h), fun a ha => ?_⟩
  obtain ⟨u, hflow, harm, heq⟩ := hdone a ((mem_armsOf ..).mpr ha)
  refine ⟨fun h => ?_, fun hout hwide => ?_⟩
  · rw [← harm, ← hflow.geometry] at h
    rw [heq, reliftForStub_spared h, harm]
  · rw [← harm, ← hflow.geometry] at hwide
    rw [← harm] at hout
    rw [heq, reliftForStub_asked hwide, arm_liftInService hout, harm, hflow.ventHeld, hflow.geometry]

/-! ### One rotor -/

/-- What the hand-over of a tail does at a rotor: from `v` to `u` its arms are asked, and `m` is then the record's mark there. -/
structure HandOver (v u : State) (r : RotorId) (z : Record) (tail : Pos) (m : Option Mark) : Prop where
  flow : FlowOnly v u
  others : ∀ a, rotorOf a ≠ r → u.arm a = v.arm a
  handed : ∀ t : State, t.feed.marks.get (clientOf r) z.tag = m → (∀ a, rotorOf a = r → GrantedOnly u t a) → HandedOver v t r z tail

/-- Where the arms stand as they stood, the record no stub in LIFT. -/
theorem HandOver.of_marks {v : State} {r : RotorId} {z : Record} {tail : Pos} {m : Option Mark}
    (hlift : ¬ (z.phase r = .lift ∧ z.working < v.geometry.stubLimit))
    (hentry : z.phase r = .entry → v.geometry.stubLimit ≤ z.working → ∀ release rampEnd : Pos,
      release = posAdd tail ((v.geometry.toolPlane r : Int) - v.geometry.releaseLead) →
      rampEnd = posAdd z.head ((v.geometry.toolPlane r : Int) + v.geometry.rampLength) →
      (reached rampEnd release = true → m = some ⟨.release, release⟩)
        ∧ (reached rampEnd release = false → m = v.feed.marks.get (clientOf r) z.tag))
    (hbody : z.phase r = .body → v.geometry.stubLimit ≤ z.working → v.NearestMark r z (z.view r).followed m)
    (hstays : z.phase r = .approach ∨ z.phase r = .lift ∧ v.geometry.stubLimit ≤ z.working → m = v.feed.marks.get (clientOf r) z.tag) :
    HandOver v v r z tail m := by
  refine ⟨.refl v, fun _ _ => rfl, fun t ht hgrants => ⟨fun hphase hshort => absurd ⟨hphase, hshort⟩ hlift, ?_, ?_, ?_, fun _ => hgrants⟩⟩
  · subst ht
    exact hentry
  · exact fun hphase hlong => (hbody hphase hlong).armed ht
  · subst ht
    exact hstays

section
variable {v : State} {r : RotorId} {z : Record} {tail : Pos}

/-- A stub in LIFT (R71). -/
theorem handOver_stub (hkind : z.kind = .stub) (hphase : z.phase r = .lift) (hshort : z.working < v.geometry.stubLimit)
    (htail : z.tail = some tail) (hahead : v.ahead (posAdd tail (v.geometry.toolPlane r))) :
    ∃ u m, v.handOver r z = u.setMark (clientOf r) z.tag m ∧ HandOver v u r z tail m := by
  obtain ⟨hflow, hothers, harms⟩ := arm_reliftForStubs v z.tag r
  have hover : v.handOver r z = if ((armsOf r).foldl (State.reliftForStub z.tag) v).isCurrent r z.tag
      then ((armsOf r).foldl (State.reliftForStub z.tag) v).armFirst State.arming r z
      else (armsOf r).foldl (State.reliftForStub z.tag) v := by
    unfold State.handOver
    rw [hphase, hkind]
  generalize (armsOf r).foldl (State.reliftForStub z.tag) v = u at hflow hothers harms hover
  have hcurrent := isCurrent_iff u r z.tag
  rw [current?_named (hflow.named r)] at hcurrent
  have hfirst : u.armFirst State.arming r z = u.setMark (clientOf r) z.tag (some ⟨.tail, posAdd tail (v.geometry.toolPlane r)⟩) := by
    unfold State.armFirst State.tailPoint
    rw [hkind, htail, hflow.geometry]
    refine arming_ahead ?_
    rw [hflow.feed]
    exact hahead
  have hasked : ∀ t : State, (∀ a, rotorOf a = r → GrantedOnly u t a) → ∀ a, rotorOf a = r →
      (((v.arm a).state = .out
          ∨ ((v.arm a).state = .opened ∨ (v.arm a).state = .lifting) ∧ (v.arm a).aperture = v.geometry.maxAperture) →
        GrantedOnly v t a)
      ∧ ((v.arm a).state ≠ .out →
        ¬ (((v.arm a).state = .opened ∨ (v.arm a).state = .lifting) ∧ (v.arm a).aperture = v.geometry.maxAperture) →
        GrantedFrom v t a ((v.arm a).askedLift (v.ventHeld a) v.geometry.maxAperture (some z.tag))) := fun t hgrants a ha =>
    ⟨fun h => (GrantedOnly.of_arm ((harms a ha).1 h)).trans hflow.now hflow.geometry (hgrants a ha),
      fun hout hwide => (GrantedFrom.of_eq ((harms a ha).2 hout hwide)).then_only hflow.now hflow.geometry (hgrants a ha)⟩
  have hbody : ¬ z.phase r = .body := by rw [hphase]; nofun
  have hentry : ¬ z.phase r = .entry := by rw [hphase]; nofun
  have hstays : ¬ (z.phase r = .approach ∨ z.phase r = .lift ∧ v.geometry.stubLimit ≤ z.working) := by
    rw [hphase]
    rintro (h | ⟨-, h⟩)
    · exact nomatch h
    · exact absurd h (Nat.not_le_of_lt hshort)
  by_cases hc : (v.current? r).map Record.tag = some z.tag
  · refine ⟨u, _, ?_, hflow, hothers, fun t ht hgrants => ⟨fun _ _ => ⟨fun _ => ht, fun h => absurd hc h, hasked t hgrants⟩,
      fun h => absurd h hentry, fun h => absurd h hbody, fun h => absurd h hstays, fun h => absurd ⟨hphase, hshort⟩ h⟩⟩
    rw [hover, if_pos (hcurrent.mpr hc), hfirst]
  · refine ⟨u, u.feed.marks.get (clientOf r) z.tag, ?_, hflow, hothers, fun t ht hgrants => ⟨fun _ _ => ⟨fun h => absurd h hc,
      fun _ => ht.trans (by rw [hflow.feed]), hasked t hgrants⟩,
      fun h => absurd h hentry, fun h => absurd h hbody, fun h => absurd h hstays, fun h => absurd ⟨hphase, hshort⟩ h⟩⟩
    rw [hover, if_neg fun h => hc (hcurrent.mp h), setMark_get_self]

theorem handOver_other (h : ∀ p k, z.phase r = p → z.kind = k → ¬ (p = .lift ∧ k = .stub) ∧ ¬ (p = .entry ∧ k ≠ .stub)
    ∧ ¬ (p = .body ∧ k ≠ .stub)) : v.handOver r z = v := by
  obtain ⟨hlift, hentry, hbody⟩ := h _ _ rfl rfl
  unfold State.handOver
  split
  · exact absurd ⟨by assumption, by assumption⟩ hlift
  · exact absurd ⟨by assumption, by simp_all⟩ hentry
  · exact absurd ⟨by assumption, by simp_all⟩ hentry
  · exact absurd ⟨by assumption, by simp_all⟩ hbody
  · exact absurd ⟨by assumption, by simp_all⟩ hbody
  · rfl

/-- A LOG or ORPHAN in ENTRY (R71). -/
theorem handOver_entry (hkind : z.kind ≠ .stub) (hphase : z.phase r = .entry) (htail : z.tail = some tail)
    (hahead : v.ahead (posAdd tail ((v.geometry.toolPlane r : Int) - v.geometry.releaseLead))) :
    ∃ u m, v.handOver r z = u.setMark (clientOf r) z.tag m ∧ HandOver v u r z tail m := by
  have hover : v.handOver r z = match v.skipsBody r z with
      | some p => v.arming (clientOf r) z.tag .release p
      | none => v := by
    unfold State.handOver
    rw [hphase]
    cases hk : z.kind with
    | stub => exact absurd hk hkind
    | log => rfl
    | orphan => rfl
  have hlift : ¬ (z.phase r = .lift ∧ z.working < v.geometry.stubLimit) := by rw [hphase]; exact fun h => nomatch h.1
  have hbody : ¬ z.phase r = .body := by rw [hphase]; nofun
  have hstays : ¬ (z.phase r = .approach ∨ z.phase r = .lift ∧ v.geometry.stubLimit ≤ z.working) := by rw [hphase]; simp
  by_cases hskip : reached (v.pointOf r z v.geometry.rampLength) (v.releasePoint r tail) = true
  · have hskips : v.skipsBody r z = some (v.releasePoint r tail) := by
      unfold State.skipsBody
      rw [htail]
      exact if_pos hskip
    rw [hskips] at hover
    refine ⟨v, some ⟨.release, v.releasePoint r tail⟩, hover.trans (arming_ahead hahead), .of_marks hlift (fun _ _ release rampEnd hr he => ?_)
      (fun h => absurd h hbody) fun h => absurd h hstays⟩
    subst hr he
    exact ⟨fun _ => rfl, fun h => absurd hskip (Bool.eq_false_iff.mp h)⟩
  · have hskips : v.skipsBody r z = none := by
      unfold State.skipsBody
      rw [htail]
      exact if_neg hskip
    rw [hskips] at hover
    refine ⟨v, v.feed.marks.get (clientOf r) z.tag, hover.trans (setMark_get_self ..).symm, .of_marks hlift
      (fun _ _ release rampEnd hr he => ?_) (fun h => absurd h hbody) fun h => absurd h hstays⟩
    subst hr he
    exact ⟨fun h => absurd h hskip, fun _ => rfl⟩

/-- A LOG or ORPHAN in BODY (R71). -/
theorem handOver_body (hkind : z.kind ≠ .stub) (hphase : z.phase r = .body) (hahead : v.nearestAhead r z (z.view r).followed) :
    ∃ u m, v.handOver r z = u.setMark (clientOf r) z.tag m ∧ HandOver v u r z tail m := by
  have hover : v.handOver r z = v.armNearest State.arming r z := by
    unfold State.handOver
    rw [hphase]
    cases hk : z.kind with
    | stub => exact absurd hk hkind
    | log => rfl
    | orphan => rfl
  obtain ⟨m, harmed, hm⟩ := armNearest_ahead (arm := State.arming) (fun _ _ _ _ _ h => arming_ahead h) hahead
  refine ⟨v, m, hover.trans harmed, .of_marks ?_ (fun h => ?_) (fun _ _ => hm) fun h => ?_⟩
  · rw [hphase]
    exact fun h => nomatch h.1
  · rw [hphase] at h
    exact nomatch h
  · rw [hphase] at h
    rcases h with h | ⟨h, -⟩ <;> exact nomatch h

/-- The hand-over to one rotor: its arms are asked, and its mark is set or stays. -/
theorem handOver_hands (hkind : z.kind = .stub ↔ z.working < v.geometry.stubLimit) (htail : z.tail = some tail)
    (hahead : v.handOverAhead r z tail) : ∃ u m, v.handOver r z = u.setMark (clientOf r) z.tag m ∧ HandOver v u r z tail m := by
  obtain ⟨hlift, hentry, hbody⟩ := hahead
  have hlong : z.kind ≠ .stub → v.geometry.stubLimit ≤ z.working := fun h => Nat.le_of_not_lt fun hlt => h (hkind.mpr hlt)
  have hquiet : ¬ (z.phase r = .lift ∧ z.working < v.geometry.stubLimit) →
      (z.phase r = .entry → ¬ v.geometry.stubLimit ≤ z.working) → (z.phase r = .body → ¬ v.geometry.stubLimit ≤ z.working) →
      v.handOver r z = v → ∃ u m, v.handOver r z = u.setMark (clientOf r) z.tag m ∧ HandOver v u r z tail m := fun hl he hb heq =>
    ⟨v, v.feed.marks.get (clientOf r) z.tag, heq.trans (setMark_get_self ..).symm,
      .of_marks hl (fun h k => absurd k (he h)) (fun h k => absurd k (hb h)) fun _ => rfl⟩
  by_cases hstub : z.kind = .stub
  · have hshort := hkind.mp hstub
    by_cases hphase : z.phase r = .lift
    · exact handOver_stub hstub hphase hshort htail (hlift hphase hshort)
    · refine hquiet (fun h => hphase h.1) (fun _ => Nat.not_le_of_lt hshort) (fun _ => Nat.not_le_of_lt hshort) (handOver_other ?_)
      rintro p k rfl rfl
      exact ⟨fun h => hphase h.1, fun h => h.2 hstub, fun h => h.2 hstub⟩
  · have hl := hlong hstub
    by_cases hphase : z.phase r = .entry
    · exact handOver_entry hstub hphase htail (hentry hphase hl)
    · by_cases hb : z.phase r = .body
      · exact handOver_body hstub hb (hbody hb hl)
      · refine hquiet (fun h => absurd h.2 (Nat.not_lt_of_le hl)) (fun h => absurd h hphase) (fun h => absurd h hb) (handOver_other ?_)
        rintro p k rfl rfl
        exact ⟨fun h => hstub h.2, fun h => hphase h.1, fun h => hb h.1⟩

end

/-! ### The form of the statements -/

/-- The hand-over is the same from a state, of a record, that differ in nothing it names. -/
theorem HandedOver.congr {s v t : State} {r : RotorId} {y z : Record} {tail : Pos} (hgeometry : v.geometry = s.geometry)
    (hnow : v.now = s.now) (hcurrent : (v.current? r).map Record.tag = (s.current? r).map Record.tag)
    (hmarks : v.feed.marks.get (clientOf r) y.tag = s.feed.marks.get (clientOf r) y.tag)
    (harms : ∀ a, rotorOf a = r → v.arm a = s.arm a) (hheld : ∀ a, v.ventHeld a = s.ventHeld a) (hphase : z.phase r = y.phase r)
    (hworking : z.working = y.working) (htag : z.tag = y.tag) (hhead : z.head = y.head)
    (hfollowed : (z.view r).followed = (y.view r).followed) (hshape : s.geometry.stubLimit ≤ y.working → z.shape = y.shape)
    (h : HandedOver v t r z tail) : HandedOver s t r y tail := by
  obtain ⟨hlift, hentry, hbody, hstays, hgrants⟩ := h
  rw [hphase, hworking, hgeometry] at hlift hentry hbody hstays hgrants
  rw [hcurrent, htag, hmarks] at hlift
  rw [htag, hmarks, hhead] at hentry
  rw [htag, hmarks] at hstays
  rw [hfollowed] at hbody
  unfold GrantedOnly GrantedFrom at hlift hgrants
  rw [hnow, hgeometry] at hlift hgrants
  refine ⟨fun hp hw => ?_, hentry, fun hp hw => ?_, hstays, fun hp a ha => ?_⟩
  · obtain ⟨hcur, hnot, hasked⟩ := hlift hp hw
    refine ⟨hcur, hnot, fun a ha => ?_⟩
    have hone := hasked a ha
    rw [harms a ha, hheld] at hone
    exact hone
  · obtain ⟨hpoint, hrelease, hnowhere⟩ := hbody hp hw
    rw [htag] at hpoint hrelease hnowhere
    have hmark : v.NearestMark r z (y.view r).followed (t.feed.marks.get (clientOf r) y.tag) := ⟨hpoint, hrelease, hnowhere⟩
    exact (NearestMark.congr hgeometry (hshape hw) hmark).armed rfl
  · have hone := hgrants hp a ha
    rw [harms a ha] at hone
    exact hone

end Sys2Proof.Machine
end

section
/-! PROOF. The tail event: the record is classified by its measured length and handed over (R51 to R56, R71, R79). -/

namespace Sys2Proof.Machine

/-! ### The classification -/

/-- The record as the classification leaves it (R52, R53, R55). -/
def State.settledRecord (s : State) (z : Record) : Record :=
  if z.working < s.geometry.stubLimit then z.demote
  else if z.kind = .log then { z with lengthMismatch := z.lengthMismatch || lengthOff s.geometry z }
  else z

theorem settledRecord_tag (s : State) (z : Record) : (s.settledRecord z).tag = z.tag := by
  unfold State.settledRecord
  split
  · rfl
  · split <;> rfl

theorem putRecord_eq (s : State) (z : Record) : s.putRecord z = { s with queue := s.queue.map fun x => if x.tag == z.tag then z else x } := rfl

section
variable {s : State} {z : Record}

theorem classify_stub (h : z.working < s.geometry.stubLimit) : s.classify z = State.putRecord { s with
    counters := { s.counters with stubs := s.counters.stubs + 1 }
    manifest := if z.frame.isSome then { s.manifest with staged := unboundHead s.manifest.staged } else s.manifest } (s.settledRecord z) := by
  have hsettled : s.settledRecord z = z.demote := if_pos h
  refine (if_pos h).trans ?_
  rw [hsettled, bindHead_eq]
  cases z.frame with
  | none => rfl
  | some f => rfl

theorem classify_orphan (h : s.geometry.stubLimit ≤ z.working) (hkind : z.kind = .orphan) : s.classify z =
    (State.putRecord { s with counters := { s.counters with orphans := s.counters.orphans + 1 } } (s.settledRecord z)).raise .orphan := by
  have hlong : ¬ z.working < s.geometry.stubLimit := Nat.not_lt_of_le h
  have hsettled : s.settledRecord z = z := (if_neg hlong).trans (if_neg (by rw [hkind]; nofun))
  refine (if_neg hlong).trans ?_
  rw [hsettled, hkind]

theorem classify_of_stub (h : s.geometry.stubLimit ≤ z.working) (hkind : z.kind = .stub) : s.classify z = s.putRecord (s.settledRecord z) := by
  have hlong : ¬ z.working < s.geometry.stubLimit := Nat.not_lt_of_le h
  have hsettled : s.settledRecord z = z := (if_neg hlong).trans (if_neg (by rw [hkind]; nofun))
  refine (if_neg hlong).trans ?_
  rw [hsettled, hkind]

/-- What leaves the head of the staged queue does not depend on the records and the counters. -/
theorem departHead_beside (s : State) (queue : List Record) (counters : Counters) :
    State.departHead { s with queue := queue, counters := counters } =
      { s with
        queue := queue
        counters := counters
        manifest := s.departHead.manifest } := by
  have hchecked : State.checkedHead { s with queue := queue, counters := counters } = s.checkedHead := rfl
  rw [departHead_eq s, departHead_eq { s with queue := queue, counters := counters }, hchecked]

theorem classify_log (h : s.geometry.stubLimit ≤ z.working) (hkind : z.kind = .log) : s.classify z = State.putRecord { s with
    counters := { s.counters with
      mismatches := if lengthOff s.geometry z = true then s.counters.mismatches + 1 else s.counters.mismatches }
    manifest := s.departHead.manifest } (s.settledRecord z) := by
  have hlong : ¬ z.working < s.geometry.stubLimit := Nat.not_lt_of_le h
  have hsettled : s.settledRecord z = { z with lengthMismatch := z.lengthMismatch || lengthOff s.geometry z } :=
    (if_neg hlong).trans (if_pos hkind)
  have hconfirm : s.classify z = s.confirmLog z := by
    refine (if_neg hlong).trans ?_
    rw [hkind]
  rw [hconfirm, hsettled]
  unfold State.confirmLog
  dsimp only
  cases lengthOff s.geometry z with
  | true => exact departHead_beside s _ _
  | false => exact departHead_beside s _ s.counters

/-- The classification touches the record, the counters, the staged queue and the causes. -/
theorem classify_fields (s : State) (z : Record) : ∃ counters manifest cause, s.classify z = { s with
    counters := counters
    manifest := manifest
    cause := cause
    queue := s.queue.map fun x => if x.tag == z.tag then s.settledRecord z else x } := by
  have hput : ∀ u : State, u.queue = s.queue → (u.putRecord (s.settledRecord z)).queue =
      s.queue.map fun x => if x.tag == z.tag then s.settledRecord z else x := fun u hu => by
    rw [putRecord_eq, settledRecord_tag]
    exact congrArg (List.map _) hu
  by_cases hshort : z.working < s.geometry.stubLimit
  · rw [classify_stub hshort, ← hput _ rfl]
    exact ⟨_, _, s.cause, rfl⟩
  · have hlong := Nat.le_of_not_lt hshort
    cases hkind : z.kind with
    | stub =>
      rw [classify_of_stub hlong hkind, ← hput s rfl]
      exact ⟨_, _, s.cause, rfl⟩
    | orphan =>
      rw [classify_orphan hlong hkind, ← hput { s with counters := { s.counters with orphans := s.counters.orphans + 1 } } rfl]
      exact ⟨_, _, _, rfl⟩
    | log =>
      rw [classify_log hlong hkind, ← hput _ rfl]
      exact ⟨_, _, s.cause, rfl⟩

end

/-! ### The hand-over to both rotors -/

theorem Worked.handOver (s : State) (r : RotorId) (z : Record) : Worked s (s.handOver r z) := by
  unfold State.handOver
  split
  · refine (Worked.of_flowOnly (arm_reliftForStubs s z.tag r).1).trans ?_
    dsimp only
    split
    · exact .armFirst works_arming _ r z
    · exact .refl _
  · split
    · exact works_arming ..
    · exact .refl s
  · split
    · exact works_arming ..
    · exact .refl s
  · exact .armNearest works_arming s r z
  · exact .armNearest works_arming s r z
  · exact .refl s

theorem handOverBoth_of_record {s : State} {t : Tag} {z : Record} (h : s.record? t = some z) :
    s.handOverBoth t = ((s.handOver .r1 z).handOver .r2 z).arbitrate := by
  unfold State.handOverBoth
  rw [h]

theorem Worked.handOverBoth (s : State) (t : Tag) : Worked s (s.handOverBoth t) := by
  unfold State.handOverBoth
  split
  · exact ((Worked.handOver s .r1 _).trans (.handOver _ .r2 _)).trans (.arbitrate _)
  · exact .refl s

/-- What a rotor's marks leave of the state beside the records. -/
theorem Worked.stays {s t : State} (h : Worked s t) : t.ram = s.ram ∧ t.counters = s.counters ∧ t.manifest = s.manifest
    ∧ t.feed.peak = s.feed.peak ∧ t.geometry = s.geometry := by
  obtain ⟨hoverlaid, -, -⟩ := h
  refine ⟨?_, ?_, ?_, ?_, ?_⟩
  · have k := congrArg State.ram hoverlaid
    exact k
  · have k := congrArg State.counters hoverlaid
    exact k
  · have k := congrArg State.manifest hoverlaid
    exact k
  · have k := congrArg (fun x : State => x.feed.peak) hoverlaid
    exact k
  · have k := congrArg State.geometry hoverlaid
    exact k

theorem handOverAhead_congr {s v : State} {r : RotorId} {y z : Record} {tail : Pos} (hgeometry : v.geometry = s.geometry)
    (hpeak : v.feed.peak = s.feed.peak) (hphase : z.phase r = y.phase r) (hworking : z.working = y.working)
    (hfollowed : (z.view r).followed = (y.view r).followed) (hshape : s.geometry.stubLimit ≤ y.working → z.shape = y.shape)
    (h : s.handOverAhead r y tail) : v.handOverAhead r z tail := by
  obtain ⟨hlift, hentry, hbody⟩ := h
  unfold State.handOverAhead
  rw [hgeometry, hphase, hworking, hfollowed]
  unfold State.ahead at hlift hentry ⊢
  rw [hpeak]
  exact ⟨hlift, hentry, fun hp hw => nearestAhead_congr hgeometry hpeak (hshape hw) (hbody hp hw)⟩

theorem named_setMark (u : State) (c : Client) (x : Tag) (m : Option Mark) (r : RotorId) :
    (u.setMark c x m).queue.map (Record.named r) = u.queue.map (Record.named r) := rfl

theorem clientOf_ne {r r' : RotorId} (h : r ≠ r') : clientOf r ≠ clientOf r' := by
  cases r with
  | r1 => cases r' with
    | r1 => exact absurd rfl h
    | r2 => nofun
  | r2 => cases r' with
    | r1 => nofun
    | r2 => exact absurd rfl h

theorem get_marks_setMark_other (s : State) {c c' : Client} (x y : Tag) (m : Option Mark) (h : c ≠ c') :
    (s.setMark c x m).feed.marks.get c' y = s.feed.marks.get c' y :=
  (MarkTable.get_set ..).trans (if_neg fun k => h k.1)

/-- Both rotors have the tail handed to them. -/
theorem handOverBoth_hands {v t : State} {z : Record} {tail : Pos} (hrecord : v.record? z.tag = some z)
    (hkind : z.kind = .stub ↔ z.working < v.geometry.stubLimit) (htail : z.tail = some tail) (hahead : ∀ r, v.handOverAhead r z tail)
    (hmarks : ∀ r, t.feed.marks.get (clientOf r) z.tag = (v.handOverBoth z.tag).feed.marks.get (clientOf r) z.tag)
    (harms : ∀ a, t.arm a = (v.handOverBoth z.tag).arm a) (r : RotorId) : HandedOver v t r z tail := by
  obtain ⟨u1, m1, hover1, flow1, others1, handed1⟩ := handOver_hands hkind htail (hahead .r1)
  obtain ⟨v', hv'⟩ : ∃ v', v' = u1.setMark (clientOf .r1) z.tag m1 := ⟨_, rfl⟩
  have hgeometry : v'.geometry = v.geometry := by rw [hv']; exact flow1.geometry
  have hnow : v'.now = v.now := by rw [hv']; exact flow1.now
  have hpeak : v'.feed.peak = v.feed.peak := by
    have k := congrArg Feed.peak flow1.feed
    rw [hv']
    exact k
  have hheld : ∀ a, v'.ventHeld a = v.ventHeld a := fun a => by rw [hv']; exact flow1.ventHeld a
  have harm1 : ∀ a, v'.arm a = u1.arm a := fun a => by rw [hv']; rfl
  have hmark1 : v'.feed.marks.get (clientOf .r1) z.tag = m1 := by rw [hv']; exact get_marks_setMark_self ..
  have hmark2 : v'.feed.marks.get (clientOf .r2) z.tag = v.feed.marks.get (clientOf .r2) z.tag := by
    rw [hv', get_marks_setMark_other _ _ _ _ (clientOf_ne (r := .r1) (r' := .r2) (by decide)), flow1.feed]
  have hcurrent : (v'.current? .r2).map Record.tag = (v.current? .r2).map Record.tag :=
    current?_named (by rw [hv', named_setMark, flow1.named])
  rw [← hv'] at hover1
  obtain ⟨u2, m2, hover2, flow2, others2, handed2⟩ := handOver_hands (v := v') (r := .r2) (by rw [hgeometry]; exact hkind) htail
    (handOverAhead_congr hgeometry hpeak rfl rfl rfl (fun _ => rfl) (hahead .r2))
  have hboth : v.handOverBoth z.tag = (u2.setMark (clientOf .r2) z.tag m2).arbitrate := by
    rw [handOverBoth_of_record hrecord, hover1, hover2]
  have hgrants : FlowOnly (u2.setMark (clientOf .r2) z.tag m2) (v.handOverBoth z.tag) := by rw [hboth]; exact .arbitrate _
  have hgranted : ∀ a, GrantedOnly u2 t a := fun a => by
    refine GrantedFrom.congr_arm (t := v.handOverBoth z.tag) ?_ (harms a)
    rw [hboth]
    exact grantedOnly_arbitrate (u2.setMark (clientOf .r2) z.tag m2) a
  cases r with
  | r1 =>
    refine handed1 t ?_ fun a ha => ?_
    · rw [hmarks, hgrants.feed, get_marks_setMark_other _ _ _ _ (clientOf_ne (r := .r2) (r' := .r1) (by decide)), flow2.feed, hmark1]
    · exact (GrantedOnly.of_arm ((others2 a (by rw [ha]; nofun)).trans (harm1 a))).trans
        (flow2.now.trans (hnow.trans flow1.now.symm)) (flow2.geometry.trans (hgeometry.trans flow1.geometry.symm)) (hgranted a)
  | r2 =>
    have hafter : HandedOver v' t .r2 z tail := handed2 t (by rw [hmarks, hgrants.feed, get_marks_setMark_self]) fun a _ => hgranted a
    exact hafter.congr hgeometry hnow hcurrent hmark2 (fun a ha => (harm1 a).trans (others1 a (by rw [ha]; nofun))) hheld rfl rfl rfl rfl
      rfl fun _ => rfl

/-! ### The tail event -/

section
variable {s : State} {q : Record} {tail : Pos}

theorem tailEvent_eq (h : s.queue.getLast? = some q) : s.tailEvent tail = State.arming ((s.classify (q.withTail tail)).handOverBoth q.tag)
    .transit q.tag .outfeed (posAdd tail ((s.classify (q.withTail tail)).handOverBoth q.tag).geometry.d3) := by
  unfold State.tailEvent
  rw [h]

/-- The newest record is in the queue, so the record of its tag is the one put there. -/
theorem record?_put {z : Record} (hq : q ∈ s.queue) (htag : z.tag = q.tag) :
    (s.queue.map fun x => if x.tag == q.tag then z else x).find? (fun x => x.tag == q.tag) = some z := by
  have hkeeps : ∀ x : Record, (if x.tag == q.tag then z else x).tag = x.tag := fun x => by
    split
    · rename_i h
      exact htag.trans (beq_iff_eq.mp h).symm
    · rfl
  rw [find?_map_tag hkeeps]
  cases h : s.queue.find? fun x => x.tag == q.tag with
  | none => exact absurd (List.find?_eq_none.mp h q hq) (by simp)
  | some x => rw [Option.map_some, if_pos (List.find?_some h :)]

end

theorem withTail_phase (q : Record) (tail : Pos) (r : RotorId) : (q.withTail tail).phase r = q.phase r := by cases r <;> rfl

theorem settledRecord_view (s : State) (z : Record) (r : RotorId) : (s.settledRecord z).view r = z.view r := by
  unfold State.settledRecord
  split
  · cases r <;> rfl
  · split
    · cases r <;> rfl
    · rfl

/-- What a record is beside its views and flags, which a rotor's marks leave. -/
theorem eq_of_core {x z : Record} (h : x.core = z.core) : x = { z with
    view1 := x.view1
    view2 := x.view2
    stall := x.stall
    rotorDown := x.rotorDown } := by
  have k := congrArg (fun c : Record => { c with
    view1 := x.view1
    view2 := x.view2
    stall := x.stall
    rotorDown := x.rotorDown }) h
  exact k

end Sys2Proof.Machine
end

section
/-! PROOF. O25, from the classification and the hand-over. -/

namespace Sys2Proof.Machine

/-! ### What the classified record is -/

section
variable {s : State} {q : Record} {tail : Pos}

theorem settledRecord_short (h : (q.withTail tail).working < s.geometry.stubLimit) :
    s.settledRecord (q.withTail tail) = (q.withTail tail).demote := if_pos h

theorem settledRecord_log (h : s.geometry.stubLimit ≤ (q.withTail tail).working) (hkind : q.kind = .log) :
    s.settledRecord (q.withTail tail) = { q.withTail tail with
      lengthMismatch := q.lengthMismatch || lengthOff s.geometry (q.withTail tail) } :=
  (if_neg (Nat.not_lt_of_le h)).trans (if_pos hkind)

theorem settledRecord_other (h : s.geometry.stubLimit ≤ (q.withTail tail).working) (hkind : q.kind ≠ .log) :
    s.settledRecord (q.withTail tail) = q.withTail tail := (if_neg (Nat.not_lt_of_le h)).trans (if_neg hkind)

theorem lengthOff_withTail (g : Geometry) : lengthOff g (q.withTail tail) =
    (q.expected.map fun m => decide ((g.lengthTolerance : Int) < ((((posDiff tail q.head).toNat : Nat) : Int) - m).natAbs)).getD false := by
  unfold lengthOff Record.withTail
  dsimp only
  cases q.expected with
  | none => rfl
  | some m => rfl

/-- The record that the classification leaves is a stub exactly when it is short, one that was no stub. -/
theorem settledRecord_stub (hkind : q.kind ≠ .stub) : (s.settledRecord (q.withTail tail)).kind = .stub ↔
    (s.settledRecord (q.withTail tail)).working < s.geometry.stubLimit := by
  by_cases hshort : (q.withTail tail).working < s.geometry.stubLimit
  · rw [settledRecord_short hshort]
    exact ⟨fun _ => hshort, fun _ => rfl⟩
  · have hlong := Nat.le_of_not_lt hshort
    have hno : ∀ p : Record, p.kind = q.kind → p.working = (q.withTail tail).working → (p.kind = .stub ↔ p.working < s.geometry.stubLimit) :=
      fun p hk hw => ⟨fun h => absurd (hk.symm.trans h) hkind, fun h => absurd (hw ▸ h) hshort⟩
    by_cases hlog : q.kind = .log
    · rw [settledRecord_log hlong hlog]
      exact hno _ rfl rfl
    · rw [settledRecord_other hlong hlog]
      exact hno _ rfl rfl

/-- What stands in the record whatever its class: its tail and its length. -/
theorem settledRecord_common : ∃ z, z = s.settledRecord (q.withTail tail) ∧ z.tag = q.tag ∧ z.tail = some tail
    ∧ z.measured = some (posDiff tail q.head).toNat ∧ z.working = (posDiff tail q.head).toNat ∧ z.provisional = false ∧ z.head = q.head
    ∧ ∀ r, z.view r = q.view r := by
  refine ⟨_, rfl, settledRecord_tag .., ?_⟩
  have hview : ∀ r, (s.settledRecord (q.withTail tail)).view r = q.view r := fun r => by
    rw [settledRecord_view]
    cases r <;> rfl
  refine ⟨?_, ?_, ?_, ?_, ?_, hview⟩
  all_goals
    unfold State.settledRecord
    split
    · rfl
    · split <;> rfl

theorem settledRecord_shape (h : s.geometry.stubLimit ≤ (q.withTail tail).working) :
    (s.settledRecord (q.withTail tail)).shape = (q.withTail tail).shape := by
  by_cases hlog : q.kind = .log
  · rw [settledRecord_log h hlog]
    rfl
  · rw [settledRecord_other h hlog]

/-! ### The tail event as one change -/

/-- The tail event, where the outfeed mark lies ahead: the classification, what the rotors' marks may touch, and the mark. -/
theorem tailEvent_ahead (hlast : s.queue.getLast? = some q) (hahead : s.ahead (posAdd tail s.geometry.d3)) :
    ∃ v w, v = s.classify (q.withTail tail) ∧ w = v.handOverBoth q.tag ∧ Worked v w
      ∧ s.tailEvent tail = w.setMark .transit q.tag (some ⟨.outfeed, posAdd tail s.geometry.d3⟩) := by
  refine ⟨_, _, rfl, rfl, .handOverBoth .., ?_⟩
  obtain ⟨-, -, -, hpeak, hgeometry⟩ := (Worked.handOverBoth (s.classify (q.withTail tail)) q.tag).stays
  obtain ⟨counters, manifest, cause, hv⟩ := classify_fields s (q.withTail tail)
  have hpeak' : (s.classify (q.withTail tail)).feed.peak = s.feed.peak := by rw [hv]
  have hgeometry' : (s.classify (q.withTail tail)).geometry = s.geometry := by rw [hv]
  rw [tailEvent_eq hlast, hgeometry, hgeometry']
  refine arming_ahead ?_
  rw [hpeak, hpeak']
  exact hahead

end

/-- A record that has the tag of one of a queue without double tags is that one. -/
theorem eq_of_tag {l : List Record} (hnodup : (l.map Record.tag).Nodup) {x q : Record} (hx : x ∈ l) (hq : q ∈ l) (h : x.tag = q.tag) :
    x = q := List.inj_on_of_nodup_map hnodup hx hq h

/-- The newest record classified keeps its place among those a rotor works on. -/
theorem named_classified {s : State} {q z : Record} (hq : q ∈ s.queue) (hnodup : (s.queue.map Record.tag).Nodup) (r : RotorId)
    (hz : z.named r = q.named r) :
    (s.queue.map fun x => if x.tag == q.tag then z else x).map (Record.named r) = s.queue.map (Record.named r) := by
  rw [List.map_map]
  refine List.map_congr_left fun x hx => ?_
  by_cases htag : x.tag = q.tag
  · rw [eq_of_tag hnodup hx hq htag]
    exact (congrArg (Record.named r) (if_pos (beq_iff_eq.mpr rfl))).trans hz
  · exact congrArg (Record.named r) (if_neg fun h => htag (beq_iff_eq.mp h))

/-- Settles O25: by the measured length, and each rotor's row of the table (`handOverBoth_hands`). -/
theorem tailEventClassifiesTheRecord : Obligations.TailEventClassifiesTheRecord := by
  intro s t tail q hlast ht hahead n hn
  subst hn
  obtain ⟨v, w, hv, hw, hworked, heq⟩ := tailEvent_ahead hlast hahead
  rw [heq] at ht
  have hq : q ∈ s.queue := List.mem_of_getLast? hlast
  obtain ⟨z, hz, htag, htail, hmeasured, hworking, hprovisional, hhead, hview⟩ := settledRecord_common (s := s) (q := q) (tail := tail)
  obtain ⟨counters, manifest, cause, hfields⟩ := classify_fields s (q.withTail tail)
  rw [← hv, ← hz] at hfields
  have hrecord : v.record? q.tag = some z := by
    rw [hfields]
    exact record?_put hq htag
  obtain ⟨x, hx, hcore⟩ : ∃ x, t.record? q.tag = some x ∧ x.core = z.core := by
    have hmap := hworked.record q.tag
    rw [hrecord] at hmap
    obtain ⟨x, hx, hcore⟩ := Option.map_eq_some_iff.mp hmap
    exact ⟨x, by rw [ht]; exact hx, hcore⟩
  replace hcore := eq_of_core hcore
  obtain ⟨hram, hcounters, hmanifest, -, -⟩ := hworked.stays
  have htram : t.ram = s.ram := by
    rw [ht]
    exact hram.trans (by rw [hfields])
  have htcounters : t.counters = v.counters := by rw [ht]; exact hcounters
  have htmanifest : t.manifest = v.manifest := by rw [ht]; exact hmanifest
  have hraised : ∀ c, v.pendingCause c = true → t.pendingCause c = true := fun c hc => by
    rw [ht]
    exact hworked.2.2 c hc
  refine ⟨?_, htram, ⟨x, hx, ?_, ?_, ?_, ?_, ?_, fun hshort => ?_, fun hlong => ?_⟩, fun hshort => ?_, fun hlong hkind => ?_,
    fun hlong hkind => ?_, fun hkind hnodup y hy hover r => ?_⟩
  · rw [ht]
    exact get_marks_setMark_self ..
  · rw [hcore]
    exact htail
  · rw [hcore]
    exact hmeasured
  · rw [hcore]
    exact hworking
  · rw [hcore]
    exact hprovisional
  · rw [hcore]
    exact hhead
  · rw [settledRecord_short hshort] at hz
    rw [hcore, hz]
    exact ⟨rfl, rfl, rfl, rfl, rfl, rfl, rfl, rfl, rfl, rfl⟩
  · by_cases hlog : q.kind = .log
    · rw [settledRecord_log hlong hlog] at hz
      rw [hcore, hz]
      refine ⟨rfl, rfl, rfl, rfl, rfl, rfl, rfl, rfl, rfl, rfl, fun h => absurd (hlog.symm.trans h) (by decide), fun _ off hoff => ?_⟩
      have hoff' : lengthOff s.geometry (q.withTail tail) = off := by
        rw [hoff, lengthOff_withTail]
        cases q.expected with
        | none => rfl
        | some m => rfl
      refine ⟨by rw [hoff'], ?_⟩
      rw [htcounters, hv, classify_log (z := q.withTail tail) hlong hlog, hoff']
      rfl
    · rw [settledRecord_other hlong hlog] at hz
      rw [hcore, hz]
      exact ⟨rfl, rfl, rfl, rfl, rfl, rfl, rfl, rfl, rfl, rfl, fun _ => rfl, fun h => absurd h hlog⟩
  · have hstub := classify_stub (s := s) (z := q.withTail tail) hshort
    rw [← hv] at hstub
    refine ⟨by rw [htcounters, hstub]; rfl, fun hframe => ?_, fun hframe => ?_⟩
    · rw [htmanifest, hstub]
      exact if_neg (by rw [show (q.withTail tail).frame = q.frame from rfl, hframe]; nofun)
    · rw [htmanifest, hstub]
      refine (if_pos hframe).trans ?_
      cases s.manifest.staged with
      | nil => rfl
      | cons e rest => rfl
  · have horphan := classify_orphan (s := s) (z := q.withTail tail) hlong hkind
    rw [← hv] at horphan
    refine ⟨by rw [htcounters, horphan]; rfl, hraised _ ?_, by rw [htmanifest, horphan]; rfl⟩
    rw [horphan, State.pendingCause_raise]
    rfl
  · rw [htmanifest, hv, classify_log (z := q.withTail tail) hlong hkind]
    rfl
  · subst hy
    have hvq : z.phase r = q.phase r := congrArg RotorView.phase (hview r)
    have hgeometry : v.geometry = s.geometry := by rw [hfields]
    have hshape : s.geometry.stubLimit ≤ (posDiff tail q.head).toNat →
        z.shape = Record.shape { q with tail := some tail, working := (posDiff tail q.head).toNat } := fun hlong => by
      rw [hz]
      exact settledRecord_shape hlong
    have hviews : ∀ p : RotorId, z.phase p = Record.phase { q with tail := some tail, working := (posDiff tail q.head).toNat } p
        ∧ (z.view p).followed = (Record.view { q with tail := some tail, working := (posDiff tail q.head).toNat } p).followed := fun p => by
      have k := hview p
      cases p
      all_goals exact ⟨congrArg RotorView.phase k, congrArg RotorView.followed k⟩
    have hstub : z.kind = .stub ↔ z.working < v.geometry.stubLimit := by
      rw [hz, hgeometry]
      exact settledRecord_stub hkind
    rw [← htag] at hrecord hw
    have hhanded : HandedOver v t r z tail := by
      refine handOverBoth_hands hrecord hstub htail (fun p => ?_) (fun p => ?_) (fun a => ?_) r
      · obtain ⟨hphase, hfollowed⟩ := hviews p
        exact handOverAhead_congr hgeometry (by rw [hfields]) hphase hworking hfollowed hshape (hover p)
      · rw [ht, ← hw]
        refine get_marks_setMark_other _ _ _ _ ?_
        cases p <;> nofun
      · rw [ht, ← hw]
        rfl
    obtain ⟨hphase, hfollowed⟩ := hviews r
    refine hhanded.congr hgeometry (by rw [hfields]) (current?_named ?_) (by rw [hfields]) (fun a _ => by rw [hfields]; rfl)
      (fun a => by rw [hfields]; rfl) hphase hworking htag hhead hfollowed hshape
    rw [hfields]
    exact named_classified hq hnodup r (by unfold Record.named; rw [htag, hvq])

end Sys2Proof.Machine
end

section
/-! PROOF. A LIFT asked of the arms of a rotor one after another (R68, R76, R114), where arms return by it and the ENGAGED arms still to be
asked are recomputed meanwhile (R105, R131, R132). -/

namespace Sys2Proof.Machine

/-! ### A forced recompute of one arm -/

theorem standing_workingToward (c : Arm) (held : Bool) (v : Nat) (cls : FlowClass) : (c.workingToward held v cls).standing = c.standing := by
  unfold Arm.workingToward
  dsimp only
  split
  · rfl
  split
  · split <;> rfl
  · split <;> rfl
  · split <;> rfl
  · rfl

/-- An arm whose flow is no LIFT works toward a target without becoming one. -/
theorem isLifting_workingToward {c : Arm} (h : c.isLifting = false) (held : Bool) (v : Nat) (cls : FlowClass) :
    (c.workingToward held v cls).isLifting = false := by
  unfold Arm.workingToward
  dsimp only
  split
  · exact h
  split
  · split <;> rfl
  · rename_i hflow
    unfold Arm.isLifting at h
    rw [hflow] at h
    split
    · exact h
    · rfl
  · rename_i hflow
    unfold Arm.isLifting at h
    rw [hflow] at h
    split
    · exact h
    · rfl
  · exact h

theorem recompute_of_lifting {s : State} {a : ArmId} (h : (s.arm a).isLifting = true) (forced : Bool) (k : RecomputeClass) :
    s.recompute forced k a = s := by
  by_cases hstate : (s.arm a).state = .engaged
  · cases hq : (s.arm a).tag.bind s.record? with
    | none => exact recompute_of_no_record hq ..
    | some q =>
      cases hv : s.targetFor a q with
      | none => exact recompute_of_no_target hq hv ..
      | some v =>
        obtain ⟨row, hrow⟩ := targetFor_row hv
        rw [recompute_of_target hstate hq hrow hv, deliver_of_not_taken (.inl h)]
  · exact recompute_of_not_engaged hstate ..

theorem arm_recompute_forced {s : State} {a : ArmId} {q : Record} (hstate : (s.arm a).state = .engaged) (hlift : (s.arm a).isLifting = false)
    (hq : (s.arm a).tag.bind s.record? = some q) : (s.recompute true .byPhase a).arm a =
      (s.targetFor a q).toList.foldl (fun c v => c.workingToward (s.ventHeld a) v (phaseClass (q.phase (rotorOf a)))) (s.arm a) := by
  cases hv : s.targetFor a q with
  | none => rw [recompute_of_no_target hq hv]; rfl
  | some v =>
    obtain ⟨row, hrow⟩ := targetFor_row hv
    rw [recompute_of_target hstate hq hrow hv, arm_deliver hlift (.inl rfl)]
    rfl

/-- A target depends on the geometry, the motion, the rotor's count, the arm's relief and the record alone. -/
theorem targetFor_alike {u v : State} {a : ArmId} {p q : Record} (hgeometry : v.geometry = u.geometry) (hfeed : v.feed = u.feed)
    (hcount : v.activeCount (rotorOf a) = u.activeCount (rotorOf a)) (hrelief : (v.arm a).relief = (u.arm a).relief)
    (hpq : p.bare = q.bare) : v.targetFor a p = u.targetFor a q := by
  rw [← targetFor_bare v, ← targetFor_bare u, hpq]
  generalize q.bare = q
  have hbody : ∀ row c, v.bodyTarget a row c q = u.bodyTarget a row c q := fun row c => by
    unfold State.bodyTarget State.sectionDistance
    dsimp only
    rw [hgeometry, hfeed, hcount, hrelief]
  have hentry : ∀ row, v.entryTarget row = u.entryTarget row := fun row => by
    unfold State.entryTarget
    rw [hgeometry, hfeed]
  unfold State.targetFor
  simp only [hbody, hentry]

/-! ### The state with arms returned -/

theorem geometry_withReturned (bs : List ArmId) : ∀ s : State, (s.withReturned bs).geometry = s.geometry := by
  induction bs with
  | nil => exact fun _ => rfl
  | cons b bs ih => exact fun s => ih (s.setArm b { s.arm b with state := .parked })

theorem feed_withReturned (bs : List ArmId) : ∀ s : State, (s.withReturned bs).feed = s.feed := by
  induction bs with
  | nil => exact fun _ => rfl
  | cons b bs ih => exact fun s => ih (s.setArm b { s.arm b with state := .parked })

theorem arm_withReturned {a : ArmId} : ∀ {bs : List ArmId} (s : State), a ∉ bs → (s.withReturned bs).arm a = s.arm a
  | [], _, _ => rfl
  | b :: bs, s, h => by
    rw [List.mem_cons, not_or] at h
    exact (arm_withReturned (s.setArm b { s.arm b with state := .parked }) h.2).trans
      ((State.arm_setArm ..).trans (if_neg (Ne.symm h.1)))

/-- Arms that were OUT raise their rotor's count by their number. -/
theorem activeCount_withReturned {r : RotorId} : ∀ {bs : List ArmId} {s : State}, bs.Nodup →
    (∀ b ∈ bs, rotorOf b = r ∧ (s.arm b).state = .out) → (s.withReturned bs).activeCount r = s.activeCount r + bs.length
  | [], _, _, _ => rfl
  | b :: bs, s, hnodup, hbs => by
    obtain ⟨hb, hnodup⟩ := List.nodup_cons.mp hnodup
    obtain ⟨rfl, hout⟩ := hbs b List.mem_cons_self
    have hothers : ∀ c, c ≠ b → (s.setArm b { s.arm b with state := .parked }).arm c = s.arm c := fun c hc =>
      (State.arm_setArm ..).trans (if_neg (Ne.symm hc))
    have hself : (s.setArm b { s.arm b with state := .parked }).arm b = { s.arm b with state := .parked } := State.arm_setArm_self ..
    have hrise : s.activeCount (rotorOf b) + 1 = (s.setArm b { s.arm b with state := .parked }).activeCount (rotorOf b) :=
      activeCount_left (by rw [hself]; nofun) hout fun c hc => by rw [hothers c hc]
    have hrest := activeCount_withReturned (r := rotorOf b) (s := s.setArm b { s.arm b with state := .parked }) hnodup fun c hc => by
      obtain ⟨hrotor, hstate⟩ := hbs c (List.mem_cons_of_mem b hc)
      exact ⟨hrotor, by rw [hothers c fun h => hb (h ▸ hc), hstate]⟩
    exact hrest.trans (by rw [← hrise, List.length_cons]; omega)

/-! ### An arm still to be asked -/

/-- The targets that an ENGAGED arm is given on its record as arms return one after another. -/
def State.recallTargets (s : State) (a : ArmId) (q : Record) (bs : List ArmId) : List Nat :=
  (List.range bs.length).filterMap fun k => (s.withReturned (bs.take (k + 1))).targetFor a q

theorem recallTargets_append (s : State) (a : ArmId) (q : Record) (bs : List ArmId) (b : ArmId) :
    s.recallTargets a q (bs ++ [b]) = s.recallTargets a q bs ++ ((s.withReturned (bs ++ [b])).targetFor a q).toList := by
  have hbefore : (List.range bs.length).filterMap (fun k => (s.withReturned ((bs ++ [b]).take (k + 1))).targetFor a q) =
      s.recallTargets a q bs := List.filterMap_congr fun k hk => by
    rw [List.take_append_of_le_length (Nat.succ_le_of_lt (List.mem_range.mp hk))]
  have hlast : (bs ++ [b]).take (bs.length + 1) = bs ++ [b] := List.take_of_length_le (by rw [List.length_append]; rfl)
  unfold State.recallTargets
  rw [List.length_append, List.length_singleton, List.range_succ, List.filterMap_append]
  refine congrArg₂ (· ++ ·) hbefore ?_
  rw [List.filterMap_cons, hlast]
  cases (s.withReturned (bs ++ [b])).targetFor a q <;> rfl

/-- An arm once some arms have returned: ENGAGED and without a LIFT, it works toward one target after the other. -/
def State.recalled (s : State) (a : ArmId) (bs : List ArmId) : Arm :=
  if (s.arm a).state = .engaged ∧ (s.arm a).isLifting = false then
    (((s.arm a).tag.bind s.record?).map fun q => (s.recallTargets a q bs).foldl
      (fun c v => c.workingToward (s.ventHeld a) v (phaseClass (q.phase (rotorOf a)))) (s.arm a)).getD (s.arm a)
  else s.arm a

theorem beforeLift_eq (s : State) (a : ArmId) : s.beforeLift a =
    s.recalled a ((s.returning (rotorOf a)).filter fun b => decide (armCode b < armCode a)) := by
  unfold State.beforeLift State.recalled
  cases (s.arm a).tag.bind s.record? <;> rfl

section
variable {s : State} {a : ArmId}

theorem recalled_idle (h : ¬ ((s.arm a).state = .engaged ∧ (s.arm a).isLifting = false)) (bs : List ArmId) : s.recalled a bs = s.arm a :=
  if_neg h

theorem recalled_noRecord (h : (s.arm a).tag.bind s.record? = none) (bs : List ArmId) : s.recalled a bs = s.arm a := by
  unfold State.recalled
  rw [h]
  exact ite_self _

theorem recalled_on {q : Record} (h : (s.arm a).state = .engaged ∧ (s.arm a).isLifting = false) (hq : (s.arm a).tag.bind s.record? = some q)
    (bs : List ArmId) : s.recalled a bs = (s.recallTargets a q bs).foldl
      (fun c v => c.workingToward (s.ventHeld a) v (phaseClass (q.phase (rotorOf a)))) (s.arm a) := by
  unfold State.recalled
  rw [if_pos h, hq]
  rfl

theorem recalled_nil (s : State) (a : ArmId) : s.recalled a [] = s.arm a := by
  unfold State.recalled
  cases (s.arm a).tag.bind s.record? with
  | none => exact ite_self _
  | some q => exact ite_self _

theorem foldl_workingToward {held : Bool} {cls : FlowClass} : ∀ {vs : List Nat} {c : Arm}, c.isLifting = false →
    (vs.foldl (fun c v => c.workingToward held v cls) c).standing = c.standing
      ∧ (vs.foldl (fun c v => c.workingToward held v cls) c).isLifting = false
  | [], _, h => ⟨rfl, h⟩
  | v :: vs, c, h => by
    obtain ⟨hstanding, hlift⟩ := foldl_workingToward (held := held) (cls := cls) (vs := vs) (isLifting_workingToward h held v cls)
    exact ⟨hstanding.trans (standing_workingToward ..), hlift⟩

/-- One arm more has returned: the recompute that its return calls. -/
theorem arm_recalled_step {y : State} {bs : List ArmId} {b : ArmId} (harm : y.arm a = s.recalled a bs)
    (hgeometry : y.geometry = s.geometry) (hfeed : y.feed = s.feed) (hheld : y.ventHeld a = s.ventHeld a)
    (hqueue : y.queue.map Record.bare = s.queue.map Record.bare)
    (hcount : y.activeCount (rotorOf a) = (s.withReturned (bs ++ [b])).activeCount (rotorOf a)) (ha : a ∉ bs ++ [b]) :
    (y.recompute true .byPhase a).arm a = s.recalled a (bs ++ [b]) := by
  by_cases hcond : (s.arm a).state = .engaged ∧ (s.arm a).isLifting = false
  swap
  · rw [recalled_idle hcond] at harm ⊢
    rw [← harm] at hcond ⊢
    by_cases hstate : (y.arm a).state = .engaged
    · rw [recompute_of_lifting (Bool.not_eq_false _ ▸ fun h => hcond ⟨hstate, h⟩)]
    · rw [recompute_of_not_engaged hstate]
  have hrecords : ∀ t, (y.record? t).map Record.bare = (s.record? t).map Record.bare := record?_bare hqueue
  cases hq : (s.arm a).tag.bind s.record? with
  | none =>
    rw [recalled_noRecord hq] at harm ⊢
    have hnone : (y.arm a).tag.bind y.record? = none := by
      rw [harm]
      cases htag : (s.arm a).tag with
      | none => rfl
      | some t =>
        rw [htag] at hq
        exact Option.map_eq_none_iff.mp ((hrecords t).trans (congrArg (Option.map Record.bare) hq))
    rw [recompute_of_no_record hnone, harm]
  | some q =>
    rw [recalled_on hcond hq] at harm ⊢
    obtain ⟨hstanding, hlift⟩ := foldl_workingToward (held := s.ventHeld a) (cls := phaseClass (q.phase (rotorOf a)))
      (vs := s.recallTargets a q bs) hcond.2
    rw [← harm] at hstanding hlift
    have hstate : (y.arm a).state = .engaged := (congrArg Arm.state hstanding :).trans hcond.1
    have htag : (y.arm a).tag = (s.arm a).tag := by have k := congrArg Arm.tag hstanding; exact k
    have hrelief : (y.arm a).relief = (s.arm a).relief := by have k := congrArg Arm.relief hstanding; exact k
    obtain ⟨p, hp, hpq⟩ : ∃ p, (y.arm a).tag.bind y.record? = some p ∧ p.bare = q.bare := by
      rw [htag]
      cases hsome : (s.arm a).tag with
      | none => rw [hsome] at hq; exact nomatch hq
      | some t =>
        rw [hsome] at hq
        exact Option.map_eq_some_iff.mp ((hrecords t).trans (congrArg (Option.map Record.bare) hq))
    have hphase : p.phase (rotorOf a) = q.phase (rotorOf a) := by rw [← phase_bare p, hpq, phase_bare]
    have htarget : y.targetFor a p = (s.withReturned (bs ++ [b])).targetFor a q :=
      targetFor_alike (hgeometry.trans (geometry_withReturned ..).symm) (hfeed.trans (feed_withReturned ..).symm) hcount
        (hrelief.trans (by rw [arm_withReturned s ha])) hpq
    rw [arm_recompute_forced hstate hlift hp, htarget, hphase, hheld, harm, recallTargets_append, List.foldl_append]

end

end Sys2Proof.Machine
end

section
/-! PROOF. The LIFT asked of the arms of a rotor in their order, and what the arms that return by it bring (R68, R76, R114, R131, R132). -/

namespace Sys2Proof.Machine

/-! ### One arm's turn -/

/-- A LIFT asked of an arm, unless its state is among those that keep their move (R76). -/
def State.askUnless (skip : ArmState → Bool) (aperture : Nat) (t : Option Tag) (s : State) (a : ArmId) : State :=
  if skip (s.arm a).state then s else s.askLift aperture t a

/-- The states of arms that keep their aperture and move behind a stub (R76). -/
def keepsBehindStub : ArmState → Bool
  | .opened | .lifting => true
  | _ => false

theorem askUnless_never (aperture : Nat) (t : Option Tag) : State.askUnless (fun _ => false) aperture t = State.askLift aperture t :=
  funext fun _ => funext fun _ => rfl

theorem askUnless_behindStub (aperture : Nat) (t : Option Tag) :
    State.askUnless keepsBehindStub aperture t = State.askLiftBehindStub aperture t := by
  funext s a
  unfold State.askUnless State.askLiftBehindStub
  cases (s.arm a).state <;> rfl

/-- The arm that a LIFT takes back into service, before its count's change is delivered (R131). -/
def State.backForLift (s : State) (a : ArmId) : State := s.setArm a { s.arm a with
  state := .parked
  outCause := none
  returnPending := false
  inserted := false }

theorem returnForLift_eq (s : State) (a : ArmId) :
    s.returnForLift a = (s.backForLift a).countChanged (rotorOf a) (s.activeCount (rotorOf a)) := rfl

theorem arm_backForLift_self (s : State) (a : ArmId) : (s.backForLift a).arm a = { s.arm a with
    state := .parked
    outCause := none
    returnPending := false
    inserted := false } := State.arm_setArm_self ..

theorem arm_backForLift_other (s : State) {a b : ArmId} (h : b ≠ a) : (s.backForLift a).arm b = s.arm b :=
  (State.arm_setArm ..).trans (if_neg (Ne.symm h))

theorem flowOnly_backForLift (s : State) (a : ArmId) : FlowOnly s (s.backForLift a) := .setArm ..

section
variable {skip : ArmState → Bool} {aperture : Nat} {t : Option Tag} {s : State} {a : ArmId}

theorem askUnless_skips (h : skip (s.arm a).state = true) : s.askUnless skip aperture t a = s := if_pos h

theorem askUnless_asks (h : skip (s.arm a).state = false) : s.askUnless skip aperture t a = s.askLift aperture t a :=
  if_neg (by rw [h]; nofun)

theorem askLift_service (h : (s.arm a).state ≠ .out) : s.askLift aperture t a = s.liftInService aperture t a := if_neg h

theorem askLift_stays (hout : (s.arm a).state = .out) (h : (s.arm a).returnPending = false) : s.askLift aperture t a = s :=
  (if_pos hout).trans (if_neg (by rw [h]; nofun))

theorem askLift_returns (hout : (s.arm a).state = .out) (h : (s.arm a).returnPending = true) :
    s.askLift aperture t a = (s.returnForLift a).liftInService aperture t a := (if_pos hout).trans (if_pos h)

/-- Whether one arm's turn takes it back into service. -/
def State.isReturning (s : State) (a : ArmId) : Prop := (s.arm a).state = .out ∧ (s.arm a).returnPending = true

theorem isReturning_iff (s : State) (a : ArmId) :
    (decide ((s.arm a).state = .out) && (s.arm a).returnPending) = true ↔ s.isReturning a := by
  rw [Bool.and_eq_true, decide_eq_true_iff]
  rfl

theorem returningOf_singleton (s : State) (a : ArmId) :
    (s.isReturning a → s.returningOf [a] = [a]) ∧ (¬ s.isReturning a → s.returningOf [a] = []) :=
  ⟨fun h => List.filter_cons_of_pos ((isReturning_iff s a).mpr h),
    fun h => List.filter_cons_of_neg fun k => h ((isReturning_iff s a).mp k)⟩

theorem askUnless_returns (hskip : skip .out = false) (h : s.isReturning a) :
    s.askUnless skip aperture t a = (s.returnForLift a).liftInService aperture t a :=
  (askUnless_asks (by rw [h.1]; exact hskip)).trans (askLift_returns h.1 h.2)

/-- The turn of an arm that does not return touches the flow and that arm alone. -/
theorem askUnless_settled (h : ¬ s.isReturning a) : s.askUnless skip aperture t a = s ∨ (s.arm a).state ≠ .out
    ∧ skip (s.arm a).state = false ∧ s.askUnless skip aperture t a = s.liftInService aperture t a := by
  cases hs : skip (s.arm a).state with
  | true => exact .inl (askUnless_skips hs)
  | false =>
    by_cases hout : (s.arm a).state = .out
    · exact .inl ((askUnless_asks hs).trans (askLift_stays hout (Bool.eq_false_iff.mpr fun hr => h ⟨hout, hr⟩)))
    · exact .inr ⟨hout, rfl, (askUnless_asks hs).trans (askLift_service hout)⟩

theorem state_askedLift_ne_out {c : Arm} (h : c.state ≠ .out) (held : Bool) (aperture : Nat) (t : Option Tag) :
    (c.askedLift held aperture t).state ≠ .out ∧ (c.askedLift held aperture t).state ≠ .engaged := by
  rw [(liftTaken_askedLift h held aperture t).state]
  split <;> exact ⟨nofun, nofun⟩

theorem out_liftInService (s : State) (aperture : Nat) (t : Option Tag) (a b : ArmId) :
    ((s.liftInService aperture t a).arm b).state = .out ↔ (s.arm b).state = .out := by
  by_cases hout : (s.arm a).state = .out
  · rw [liftInService_out hout]
  · by_cases hb : b = a
    · subst hb
      rw [arm_liftInService hout]
      exact ⟨fun h => absurd h (state_askedLift_ne_out hout ..).1, fun h => absurd h hout⟩
    · rw [(OneArm.liftInService s aperture t a).others b hb]

theorem returnsTo_askUnless (hskip : skip .out = false) (aperture : Nat) (t : Option Tag) (s : State) (a : ArmId) :
    ReturnsTo (rotorOf a) (s.returningOf [a]).length s (s.askUnless skip aperture t a) := by
  by_cases h : s.isReturning a
  · rw [(returningOf_singleton s a).1 h, askUnless_returns hskip h, returnForLift_eq]
    have hback : ReturnsTo (rotorOf a) 1 s ((s.backForLift a).countChanged (rotorOf a) (s.activeCount (rotorOf a))) :=
      .of_return (flowOnly_backForLift s a) (fun b hb => by rw [arm_backForLift_other s hb]) h.1 (by rw [arm_backForLift_self]; nofun)
    exact hback.trans (.of_flow (.liftInService ..) (out_liftInService _ aperture t a) _)
  · rw [(returningOf_singleton s a).2 h]
    rcases askUnless_settled (skip := skip) (aperture := aperture) (t := t) h with heq | ⟨-, -, heq⟩
    · rw [heq]
      exact .refl ..
    · rw [heq]
      exact .of_flow (.liftInService ..) (out_liftInService s aperture t a) _

theorem Spared.askUnless (hskip : skip .out = false) (aperture : Nat) (t : Option Tag) (s : State) {a b : ArmId} (hab : a ≠ b) :
    Spared a s (s.askUnless skip aperture t b) := by
  by_cases h : s.isReturning b
  · rw [askUnless_returns hskip h, returnForLift_eq]
    have hback : OneArm b s (s.backForLift b) := .updArm s b fun _ => { s.arm b with
      state := .parked
      outCause := none
      returnPending := false
      inserted := false }
    exact ((Spared.of_other hback hab).trans (.countChanged ..)).trans (.of_other (.liftInService ..) hab)
  · rcases askUnless_settled (skip := skip) (aperture := aperture) (t := t) h with heq | ⟨-, -, heq⟩
    · rw [heq]
      exact .refl a s
    · rw [heq]
      exact .of_other (.liftInService ..) hab

/-- An arm of the other rotor stands. -/
theorem arm_askUnless_elsewhere (hskip : skip .out = false) (aperture : Nat) (t : Option Tag) (s : State) {a b : ArmId}
    (hab : rotorOf a ≠ rotorOf b) : (s.askUnless skip aperture t b).arm a = s.arm a := by
  have hne : a ≠ b := fun h => hab (congrArg rotorOf h)
  by_cases h : s.isReturning b
  · obtain ⟨holds, cause, hcounted⟩ := counted_fields (s.backForLift b) (rotorOf b) (s.activeCount (rotorOf b))
    have hcount := (arm_recomputeAll (.refl ((s.backForLift b).counted (rotorOf b) (s.activeCount (rotorOf b)))) true .byPhase
      (nodup_armsOf (rotorOf b)) fun _ _ => rfl).1 a fun hmem => hab ((mem_armsOf ..).mp hmem)
    rw [askUnless_returns hskip h, (OneArm.liftInService _ aperture t b).others a hne, returnForLift_eq, countChanged_eq, hcount, hcounted]
    exact arm_backForLift_other s hne
  · rcases askUnless_settled (skip := skip) (aperture := aperture) (t := t) h with heq | ⟨-, -, heq⟩
    · rw [heq]
    · rw [heq, (OneArm.liftInService s aperture t b).others a hne]

/-- An arm that returns takes the LIFT as one PARKED (R131). -/
theorem askedLift_returned {c : Arm} (h : c.state = .out) (held : Bool) (aperture : Nat) (t : Option Tag) :
    Arm.askedLift { c with
      state := .parked
      outCause := none
      returnPending := false
      inserted := false } held aperture t = c.askedLift held aperture t := by
  unfold Arm.askedLift Arm.disengaged
  simp [h]

/-- The turn of an arm itself: it returns, or takes the LIFT in service. -/
theorem arm_askUnless_self (hskip : skip .out = false) (hasked : skip (s.arm a).state = false)
    (hgoes : (s.arm a).state ≠ .out ∨ (s.arm a).returnPending = true) (aperture : Nat) (t : Option Tag) :
    (s.askUnless skip aperture t a).arm a = (s.arm a).askedLift (s.ventHeld a) aperture t := by
  by_cases hout : (s.arm a).state = .out
  · have hreturns : s.isReturning a := ⟨hout, hgoes.resolve_left fun h => h hout⟩
    obtain ⟨holds, cause, hcounted⟩ := counted_fields (s.backForLift a) (rotorOf a) (s.activeCount (rotorOf a))
    have hback : ((s.backForLift a).counted (rotorOf a) (s.activeCount (rotorOf a))).arm a = { s.arm a with
        state := .parked
        outCause := none
        returnPending := false
        inserted := false } := by
      rw [hcounted]
      exact arm_backForLift_self s a
    have hparked : (s.returnForLift a).arm a = { s.arm a with
        state := .parked
        outCause := none
        returnPending := false
        inserted := false } := by
      rw [returnForLift_eq, countChanged_eq, (arm_recomputeAll (.refl _) true .byPhase (nodup_armsOf (rotorOf a)) fun _ _ => rfl).2 a
        ((mem_armsOf ..).mpr rfl), recompute_of_not_engaged (by rw [hback]; nofun), hback]
    have hheld : (s.returnForLift a).ventHeld a = s.ventHeld a := by
      rw [returnForLift_eq, countChanged_eq, (FlowOnly.recomputeAll ..).ventHeld, hcounted]
      rfl
    rw [askUnless_returns hskip hreturns, arm_liftInService (by rw [hparked]; nofun), hparked, hheld, askedLift_returned hout]
  · rw [askUnless_asks hasked, askLift_service hout, arm_liftInService hout]

end

/-! ### Every arm's turn -/

/-- The arms of a rotor before one of them in their order. -/
theorem armsOf_split (a : ArmId) : ∃ after, armsOf (rotorOf a) =
    (armsOf (rotorOf a)).filter (fun b => decide (armCode b < armCode a)) ++ a :: after := by
  cases a
  all_goals exact ⟨_, rfl⟩

theorem returningOf_append (s : State) (as bs : List ArmId) : s.returningOf (as ++ bs) = s.returningOf as ++ s.returningOf bs :=
  List.filter_append ..

/-- Arms that return leave of the records all that a target depends on. -/
theorem ReturnsTo.bare {r : RotorId} {k : Nat} {s u : State} (h : ReturnsTo r k s u) :
    u.queue.map Record.bare = s.queue.map Record.bare := by
  have through : ∀ l : List Record, l.map Record.bare = (l.map Record.withoutTargets).map Record.bare := fun l => by
    rw [List.map_map]
    exact List.map_congr_left fun q _ => (bare_withoutTargets q).symm
  rw [through u.queue, h.queue]
  split
  · exact (through s.queue).symm
  · rw [List.map_map]
    exact List.map_congr_left fun q _ => (bare_withoutTargets _).trans (bare_countedAt ..)

theorem activeCount_backForLift {s : State} {a : ArmId} (hout : (s.arm a).state = .out) :
    (s.backForLift a).activeCount (rotorOf a) = s.activeCount (rotorOf a) + 1 :=
  (activeCount_left (s := s.backForLift a) (t := s) (by rw [arm_backForLift_self]; nofun) hout
    fun b hb => by rw [arm_backForLift_other s hb]).symm

section
variable {skip : ArmState → Bool} (hskip : skip .out = false) (aperture : Nat) (t : Option Tag)
include hskip

theorem spared_asked (s : State) {a : ArmId} {as : List ArmId} (ha : a ∉ as) :
    Spared a s (as.foldl (State.askUnless skip aperture t) s) :=
  .foldl fun u b hb => .askUnless hskip aperture t u fun h => ha (h ▸ hb)

theorem returnsTo_asked {r : RotorId} {as : List ArmId} (hnodup : as.Nodup) (hrotor : ∀ a ∈ as, rotorOf a = r) (s : State) :
    ReturnsTo r (s.returningOf as).length s (as.foldl (State.askUnless skip aperture t) s) :=
  returnsTo_foldl (fun u a ha => ha ▸ returnsTo_askUnless hskip aperture t u a) (fun u a b hab => .askUnless hskip aperture t u hab)
    hnodup hrotor

theorem arm_asked_elsewhere {r : RotorId} {a : ArmId} (ha : rotorOf a ≠ r) : ∀ {as : List ArmId} (s : State), (∀ b ∈ as, rotorOf b = r) →
    (as.foldl (State.askUnless skip aperture t) s).arm a = s.arm a
  | [], _, _ => rfl
  | b :: _, s, h => (arm_asked_elsewhere ha (s.askUnless skip aperture t b) fun c hc => h c (List.mem_cons_of_mem b hc)).trans
      (arm_askUnless_elsewhere hskip aperture t s fun k => ha (k.trans (h b List.mem_cons_self)))

/-- An arm before its turn: the arms that returned have been counted, and it has been recomputed at each. -/
theorem arm_beforeTurn {r : RotorId} {a : ArmId} (ha : rotorOf a = r) (s : State) (as : List ArmId) : as.Nodup →
    (∀ b ∈ as, rotorOf b = r) → a ∉ as → (as.foldl (State.askUnless skip aperture t) s).arm a = s.recalled a (s.returningOf as) := by
  induction as using List.reverseRecOn with
  | nil => exact fun _ _ _ => (recalled_nil s a).symm
  | append_singleton as b ih =>
    intro hnodup hrotor hnot
    obtain ⟨hasNodup, -, hdisjoint⟩ := List.nodup_append.mp hnodup
    have hb : b ∉ as := fun h => hdisjoint b h b (List.mem_singleton.mpr rfl) rfl
    rw [List.mem_append, List.mem_singleton, not_or] at hnot
    obtain ⟨hnotAs, hab⟩ := hnot
    have hrotors : ∀ c ∈ as, rotorOf c = r := fun c hc => hrotor c (List.mem_append_left _ hc)
    have hrb : rotorOf b = r := hrotor b (List.mem_append_right _ (List.mem_singleton.mpr rfl))
    have hturn := ih hasNodup hrotors hnotAs
    have hreturns := returnsTo_asked hskip aperture t hasNodup hrotors s
    have hspared := spared_asked hskip aperture t s hb
    rw [List.foldl_append, List.foldl_cons, List.foldl_nil]
    generalize as.foldl (State.askUnless skip aperture t) s = u at hturn hreturns hspared
    have hsame : u.isReturning b ↔ s.isReturning b := by
      unfold State.isReturning
      rw [hspared.state, hspared.returnPending]
    rw [returningOf_append]
    by_cases h : u.isReturning b
    · obtain ⟨holds, cause, hcounted⟩ := counted_fields (u.backForLift b) (rotorOf b) (u.activeCount (rotorOf b))
      obtain ⟨y, hy⟩ : ∃ y, y = (u.backForLift b).counted (rotorOf b) (u.activeCount (rotorOf b)) := ⟨_, rfl⟩
      have hcount := (arm_recomputeAll (.refl y) true .byPhase (nodup_armsOf (rotorOf b)) fun _ _ => rfl).2 a
        ((mem_armsOf ..).mpr (ha.trans hrb.symm))
      rw [askUnless_returns hskip h, (OneArm.liftInService _ aperture t b).others a hab, returnForLift_eq, countChanged_eq, ← hy, hcount,
        (returningOf_singleton s b).1 (hsame.mp h)]
      have hbound : s.returningOf as ++ [b] = s.returningOf (as ++ [b]) := by
        rw [returningOf_append, (returningOf_singleton s b).1 (hsame.mp h)]
      have hmem : ∀ c ∈ s.returningOf (as ++ [b]), rotorOf c = r ∧ (s.arm c).state = .out := fun c hc => by
        obtain ⟨hc, hout⟩ := List.mem_filter.mp hc
        exact ⟨hrotor c hc, ((isReturning_iff s c).mp hout).1⟩
      refine arm_recalled_step (y := y) ?_ ?_ ?_ ?_ ?_ ?_ ?_
      · rw [hy, hcounted]
        exact (arm_backForLift_other u hab).trans hturn
      · rw [hy, hcounted]
        exact hreturns.geometry
      · rw [hy, hcounted]
        have k := congrArg State.feed hreturns.beside
        exact k
      · rw [hy, hcounted]
        refine ventHeld_congr ?_ (fun p => ?_) a
        · have k := congrArg State.supply hreturns.beside
          exact k
        · have k := congrArg Rotor.drive (hreturns.rotor p)
          exact k
      · rw [hy, hcounted]
        dsimp only
        rw [List.map_map]
        exact (List.map_congr_left fun q _ => bare_countedAt ..).trans hreturns.bare
      · have hstates : y.activeCount r = (u.backForLift b).activeCount r := by rw [hy, hcounted]; rfl
        have hdistinct : (s.returningOf (as ++ [b])).Nodup := hnodup.filter _
        rw [ha, hbound, activeCount_withReturned hdistinct hmem, hstates, ← hrb, activeCount_backForLift h.1, hrb, hreturns.count,
          returningOf_append, (returningOf_singleton s b).1 (hsame.mp h), List.length_append, List.length_singleton, Nat.add_assoc]
      · intro hmemb
        rw [hbound] at hmemb
        rcases List.mem_append.mp (List.mem_filter.mp hmemb).1 with hin | hin
        · exact hnotAs hin
        · exact hab (List.mem_singleton.mp hin)
    · rw [(returningOf_singleton s b).2 fun k => h (hsame.mpr k), List.append_nil]
      rcases askUnless_settled (skip := skip) (aperture := aperture) (t := t) h with heq | ⟨-, -, heq⟩
      · rw [heq, hturn]
      · rw [heq, (OneArm.liftInService u aperture t b).others a hab, hturn]

/-- An arm once all the arms of its rotor have had their turn. -/
theorem arm_asked (hengaged : skip .engaged = false) (s : State) {r : RotorId} {a : ArmId} (ha : rotorOf a = r) :
    (skip (s.arm a).state = true ∨ (s.arm a).state = .out ∧ (s.arm a).returnPending = false →
        ((armsOf r).foldl (State.askUnless skip aperture t) s).arm a = s.arm a)
      ∧ (skip (s.arm a).state = false → (s.arm a).state ≠ .out ∨ (s.arm a).returnPending = true →
        ((armsOf r).foldl (State.askUnless skip aperture t) s).arm a = (s.beforeLift a).askedLift (s.ventHeld a) aperture t) := by
  subst ha
  obtain ⟨after, hsplit⟩ := armsOf_split a
  have hbefore : s.beforeLift a = s.recalled a (s.returningOf ((armsOf (rotorOf a)).filter fun b => decide (armCode b < armCode a))) := by
    rw [beforeLift_eq]
    exact congrArg (s.recalled a) (List.filter_comm ..)
  have hnodup := nodup_armsOf (rotorOf a)
  have hrotor : ∀ b ∈ armsOf (rotorOf a), rotorOf b = rotorOf a := fun b hb => (mem_armsOf ..).mp hb
  rw [hsplit] at hnodup hrotor
  generalize (armsOf (rotorOf a)).filter (fun b => decide (armCode b < armCode a)) = before at hsplit hbefore hnodup hrotor
  obtain ⟨hfirst, hrest, hdisjoint⟩ := List.nodup_append.mp hnodup
  have hafter : a ∉ after := (List.nodup_cons.mp hrest).1
  have hnot : a ∉ before := fun h => hdisjoint a h a List.mem_cons_self rfl
  have hrotors : ∀ b ∈ before, rotorOf b = rotorOf a := fun b hb => hrotor b (List.mem_append_left _ hb)
  have hturn := arm_beforeTurn hskip aperture t rfl s before hfirst hrotors hnot
  have hspared := spared_asked hskip aperture t s hnot
  have hreturns := returnsTo_asked hskip aperture t hfirst hrotors s
  rw [hsplit, List.foldl_append, List.foldl_cons]
  generalize before.foldl (State.askUnless skip aperture t) s = u at hturn hspared hreturns
  have hlast : ∀ c : Arm, (u.askUnless skip aperture t a).arm a = c → c.state ≠ .engaged →
      (after.foldl (State.askUnless skip aperture t) (u.askUnless skip aperture t a)).arm a = c := fun c hc hstate =>
    ((spared_asked hskip aperture t _ hafter).arm (by rwa [hc])).trans hc
  refine ⟨fun h => ?_, fun hasked hgoes => ?_⟩
  · have hstate : (s.arm a).state ≠ .engaged := by
      rcases h with h | ⟨h, -⟩
      · intro k
        rw [k, hengaged] at h
        exact nomatch h
      · rw [h]
        nofun
    refine hlast _ ?_ hstate
    have hstays : u.askUnless skip aperture t a = u := by
      rw [← hspared.arm hstate] at h
      rcases h with h | ⟨hout, hpending⟩
      · exact askUnless_skips h
      · rcases askUnless_settled (skip := skip) (aperture := aperture) (t := t) (s := u) (a := a)
          (fun k => by rw [k.2] at hpending; exact nomatch hpending) with heq | ⟨hin, -, -⟩
        · exact heq
        · exact absurd hout hin
    rw [hstays, hspared.arm hstate]
  · have hheld : u.ventHeld a = s.ventHeld a := by
      refine ventHeld_congr ?_ (fun p => ?_) a
      · have k := congrArg State.supply hreturns.beside
        exact k
      · have k := congrArg Rotor.drive (hreturns.rotor p)
        exact k
    refine hlast _ ?_ ?_
    · rw [arm_askUnless_self hskip (by rw [hspared.state]; exact hasked) (by rw [hspared.state, hspared.returnPending]; exact hgoes),
        hturn, hheld, hbefore]
    · rw [hbefore, ← hturn]
      by_cases hout : (s.arm a).state = .out
      · rw [hspared.arm (by rw [hout]; nofun), ← askedLift_returned hout]
        exact (state_askedLift_ne_out (show ArmState.parked ≠ .out by decide) ..).2
      · exact (state_askedLift_ne_out (by rw [hspared.state]; exact hout) ..).2

end

end Sys2Proof.Machine
end

section
/-! PROOF. A record's LIFT at a rotor (R68, R75, R76): the arms asked, the record, its first mark, and what the arms that return bring. -/

namespace Sys2Proof.Machine

/-! ### What may follow the arms' turns -/

/-- From `u` to `t` the arbiter has made its grants, and of the records only one of a tag has changed. -/
structure TurnsStand (tag : Option Tag) (u t : State) : Prop where
  arms : ∀ a, GrantedOnly u t a
  holds : t.holds = u.holds
  causes : ∀ c, t.pendingCause c = u.pendingCause c
  records : ∀ x, tag ≠ some x → (t.record? x).map Record.withoutTargets = (u.record? x).map Record.withoutTargets

theorem FlowOnly.records {s t : State} (h : FlowOnly s t) (x : Tag) :
    (t.record? x).map Record.withoutTargets = (s.record? x).map Record.withoutTargets := by
  have hqueue : t.queue.map Record.withoutTargets = s.queue.map Record.withoutTargets := congrArg State.queue h.1
  have hfind := fun l : List Record => find?_map_tag (f := Record.withoutTargets) (fun _ => rfl) l x
  unfold State.record?
  rw [← hfind, ← hfind, hqueue]

/-- The grants after an act on the marks and the record of a tag. -/
theorem TurnsStand.arbitrate {tag : Option Tag} {u v : State} (harms : ∀ a, v.arm a = u.arm a) (hnow : v.now = u.now)
    (hgeometry : v.geometry = u.geometry) (hholds : v.holds = u.holds) (hcause : v.cause = u.cause)
    (hrecords : ∀ x, tag ≠ some x → v.record? x = u.record? x) : TurnsStand tag u v.arbitrate := by
  have hflow : FlowOnly v v.arbitrate := .arbitrate v
  refine ⟨fun a => (GrantedOnly.of_arm (harms a)).trans hnow hgeometry (grantedOnly_arbitrate v a), hflow.holds.trans hholds,
    fun c => pendingCause_congr (hflow.cause.trans hcause) c, fun x hx => ?_⟩
  rw [hflow.records, hrecords x hx]

/-- A record beside the tag, once some arms have returned. -/
theorem ReturnsTo.record {r : RotorId} {k : Nat} {s u : State} (h : ReturnsTo r k s u) (x : Tag) :
    (u.record? x).map Record.withoutTargets =
      (s.record? x).map fun q => (if k = 0 then q else q.countedAt r (s.activeCount r + 1)).withoutTargets := by
  have hcounted : ∀ q : Record, (if k = 0 then q else q.countedAt r (s.activeCount r + 1)).withoutTargets.tag = q.tag := fun q => by
    split
    · rfl
    · have k := congrArg Record.tag (bare_countedAt q r (s.activeCount r + 1))
      exact k
  have hqueue : u.queue.map Record.withoutTargets =
      s.queue.map fun q => (if k = 0 then q else q.countedAt r (s.activeCount r + 1)).withoutTargets := by
    rw [h.queue]
    split <;> rfl
  unfold State.record?
  rw [← find?_map_tag (f := Record.withoutTargets) (fun _ => rfl), hqueue, find?_map_tag hcounted]

/-- The form of the statements: what the arms that returned bring. -/
theorem ReturnsTo.taken {r : RotorId} {s u t : State} {tag : Option Tag} (h : ReturnsTo r (s.returning r).length s u)
    (k : TurnsStand tag u t) : ReturnsTaken s t r tag := by
  have hcounts : ∀ p, t.activeCount p = u.activeCount p := activeCount_of_states fun a => (k.arms a).state
  have hholds : t.holds = if usabilityOf (t.activeCount r) = usabilityOf (s.activeCount r) then s.holds
      else s.holds.put (unusableCause r) false := by rw [k.holds, h.holds, hcounts]
  have hother : ∀ p, p ≠ r → t.activeCount p = s.activeCount p := fun p hp => (hcounts p).trans (h.other p hp)
  refine ⟨(hcounts r).trans h.count, ⟨?_, ?_, fun c => ?_⟩, ?_, fun x y hx hy htag => ?_⟩
  · rw [hholds]
    cases r with
    | r1 => split <;> rfl
    | r2 =>
      rw [hother .r1 nofun, if_pos rfl]
      split <;> rfl
  · rw [hholds]
    cases r with
    | r1 =>
      rw [hother .r2 nofun, if_pos rfl]
      split <;> rfl
    | r2 => split <;> rfl
  · rw [k.causes, h.causes, ← hcounts]
    refine congrArg (fun b => s.pendingCause c || b) (decide_eq_decide.mpr ⟨?_, ?_⟩)
    · rintro ⟨hc, hne⟩
      refine ⟨hc, r, ?_, hne⟩
      cases r <;> decide
    · rintro ⟨hc, p, -, hne⟩
      by_cases hp : p = r
      · exact ⟨hc, hp ▸ hne⟩
      · exact absurd (congrArg usabilityOf (hother p hp)) hne
  · rw [hholds]
    cases r with
    | r1 => split <;> rfl
    | r2 => split <;> rfl
  · have hrecord := (k.records x.tag htag).trans (h.record x.tag)
    rw [hx, hy] at hrecord
    refine (Option.some.inj hrecord).trans ?_
    simp only [List.length_eq_zero_iff]

/-! ### The arms of a rotor asked -/

/-- A LIFT asked of the arms of a rotor, but those that keep their move, and what may follow: the arms and the returns. -/
theorem asked_stands {skip : ArmState → Bool} (hskip : skip .out = false) (hengaged : skip .engaged = false) (aperture : Nat)
    {tag tag' : Option Tag} {s t : State} {r : RotorId}
    (k : TurnsStand tag' ((armsOf r).foldl (State.askUnless skip aperture tag) s) t) :
    ReturnsTaken s t r tag' ∧ (∀ a, rotorOf a ≠ r → GrantedOnly s t a)
      ∧ ∀ a, rotorOf a = r →
        (skip (s.arm a).state = true ∨ (s.arm a).state = .out ∧ (s.arm a).returnPending = false → GrantedOnly s t a)
          ∧ (skip (s.arm a).state = false → (s.arm a).state ≠ .out ∨ (s.arm a).returnPending = true →
            GrantedFrom s t a ((s.beforeLift a).askedLift (s.ventHeld a) aperture tag)) := by
  have hrotor : ∀ a ∈ armsOf r, rotorOf a = r := fun a ha => (mem_armsOf ..).mp ha
  have hreturns := returnsTo_asked hskip aperture tag (nodup_armsOf r) hrotor s
  refine ⟨hreturns.taken k, fun a ha => ?_, fun a ha => ⟨fun h => ?_, fun hasked hgoes => ?_⟩⟩
  · exact (GrantedOnly.of_arm (arm_asked_elsewhere hskip aperture tag ha s hrotor)).trans hreturns.now hreturns.geometry (k.arms a)
  · exact (GrantedOnly.of_arm ((arm_asked hskip aperture tag hengaged s ha).1 h)).trans hreturns.now hreturns.geometry (k.arms a)
  · exact (GrantedFrom.of_eq ((arm_asked hskip aperture tag hengaged s ha).2 hasked hgoes)).then_only hreturns.now hreturns.geometry (k.arms a)

theorem foldl_askUnless_never (aperture : Nat) (tag : Option Tag) (s : State) (r : RotorId) :
    (armsOf r).foldl (State.askUnless (fun _ => false) aperture tag) s = s.askLifts r aperture tag := by
  rw [askUnless_never]
  rfl

theorem liftAsked_of {aperture : Nat} {tag tag' : Option Tag} {s t : State} {r : RotorId} (htag : tag' = tag)
    (k : TurnsStand tag' (s.askLifts r aperture tag) t) : LiftAsked s t r aperture tag := by
  subst htag
  rw [← foldl_askUnless_never] at k
  obtain ⟨hreturns, hothers, harms⟩ := asked_stands (skip := fun _ => false) rfl rfl aperture k
  exact ⟨hothers, fun a ha => ⟨fun hout hpending => (harms a ha).1 (.inr ⟨hout, hpending⟩), fun h => (harms a ha).2 rfl h⟩, hreturns⟩

/-! ### The park timer takes no part -/

section
variable (s : State) (r : RotorId)

theorem ventHeld_stopPark (a : ArmId) : (s.stopPark r).ventHeld a = s.ventHeld a := by
  refine ventHeld_congr ?_ (fun p => ?_) a
  · cases r <;> rfl
  · cases r <;> cases p <;> rfl

theorem beforeLift_stopPark (a : ArmId) : (s.stopPark r).beforeLift a = s.beforeLift a := by
  unfold State.beforeLift
  rw [ventHeld_stopPark]
  have hreturned : ∀ bs q, ((s.stopPark r).withReturned bs).targetFor a q = (s.withReturned bs).targetFor a q := fun bs q => by
    have hsame : (s.stopPark r).withReturned bs = (s.withReturned bs).stopPark r := by
      induction bs generalizing s with
      | nil => rfl
      | cons b bs ih =>
        refine Eq.trans ?_ (ih (s.setArm b { s.arm b with state := .parked }))
        cases r <;> rfl
    rw [hsame]
    cases r <;> rfl
  simp only [hreturned]
  cases r <;> rfl

theorem returnsTaken_stopPark {t : State} {p : RotorId} {tag : Option Tag} (h : ReturnsTaken (s.stopPark r) t p tag) :
    ReturnsTaken s t p tag := by cases r <;> exact h

theorem grantedFrom_stopPark {t : State} {a : ArmId} {c : Arm} (h : GrantedFrom (s.stopPark r) t a c) : GrantedFrom s t a c := by
  cases r <;> exact h

theorem arm_stopPark (a : ArmId) : (s.stopPark r).arm a = s.arm a := by cases r <;> rfl

end

/-! ### The LIFT of a record -/

theorem armFirst_eq (s : State) (arm : Arming) (r : RotorId) (q : Record) :
    s.armFirst arm r q = arm s (clientOf r) q.tag (s.firstMark r q).purpose (s.firstMark r q).position := by
  unfold State.armFirst State.firstMark State.pointOf State.tailPoint
  rw [Int.add_zero]
  cases q.kind with
  | stub => cases q.tail <;> rfl
  | log => rfl
  | orphan => rfl

theorem firstMark_congr {s u : State} (h : u.geometry = s.geometry) (r : RotorId) (q : Record) : u.firstMark r q = s.firstMark r q := by
  unfold State.firstMark
  rw [h]

theorem liftAperture_eq (s : State) (q : Record) : s.liftAperture q = s.ownAperture q := by
  unfold State.liftAperture State.ownAperture Record.headDiameter
  cases q.kind with
  | stub => rfl
  | log => cases q.stations <;> rfl
  | orphan => cases q.stations <;> rfl

/-- What a record's LIFT at a rotor leaves, whatever arms keep their move: the record, its mark, the arms and the returns. -/
theorem lift_taken {skip : ArmState → Bool} (hskip : skip .out = false) (hengaged : skip .engaged = false) (aperture : Nat)
    {s t : State} {arm : Arming} {r : RotorId} {q : Record} (harm : arm.placesAhead) (hq : s.record? q.tag = some q)
    (hahead : s.ahead (s.firstMark r q).position)
    (ht : t = ((((armsOf r).foldl (State.askUnless skip aperture (some q.tag)) (s.stopPark r)).setLifted r q.tag).armFirst arm r q).arbitrate) :
    Lifted s t r q ∧ ReturnsTaken s t r (some q.tag) ∧ (∀ a, rotorOf a ≠ r → GrantedOnly s t a)
      ∧ ∀ a, rotorOf a = r →
        (skip (s.arm a).state = true ∨ (s.arm a).state = .out ∧ (s.arm a).returnPending = false → GrantedOnly s t a)
          ∧ (skip (s.arm a).state = false → (s.arm a).state ≠ .out ∨ (s.arm a).returnPending = true →
            GrantedFrom s t a ((s.beforeLift a).askedLift (s.ventHeld a) aperture (some q.tag))) := by
  have hrotor : ∀ a ∈ armsOf r, rotorOf a = r := fun a ha => (mem_armsOf ..).mp ha
  have hreturns := returnsTo_asked hskip aperture (some q.tag) (nodup_armsOf r) hrotor (s.stopPark r)
  obtain ⟨w, hw⟩ : ∃ w, w = (armsOf r).foldl (State.askUnless skip aperture (some q.tag)) (s.stopPark r) := ⟨_, rfl⟩
  rw [← hw] at ht hreturns
  have hgeometry : w.geometry = s.geometry := hreturns.geometry.trans (by cases r <;> rfl)
  have hfeed : w.feed = s.feed := by
    have k := congrArg State.feed hreturns.beside
    exact Eq.trans k (by cases r <;> rfl)
  have hpark : (w.rotor r).park = none := (hreturns.park r).trans (by cases r <;> rfl)
  have hfirst : (w.setLifted r q.tag).armFirst arm r q = (w.setLifted r q.tag).setMark (clientOf r) q.tag (some (s.firstMark r q)) := by
    have hmark : (w.setLifted r q.tag).firstMark r q = s.firstMark r q := firstMark_congr hgeometry r q
    rw [armFirst_eq, hmark]
    refine harm _ _ _ _ _ ?_
    have hpeak : (w.setLifted r q.tag).feed = w.feed := rfl
    rw [hpeak, hfeed]
    exact hahead
  rw [hfirst] at ht
  have hstands : TurnsStand (some q.tag) w t := by
    rw [ht]
    refine .arbitrate (fun _ => rfl) rfl rfl rfl rfl fun x hx => ?_
    exact record?_updView_other fun h => hx (congrArg some h.symm)
  have hgrants : FlowOnly ((w.setLifted r q.tag).setMark (clientOf r) q.tag (some (s.firstMark r q))) t := by rw [ht]; exact .arbitrate _
  obtain ⟨hreturned, hothers, harms⟩ := asked_stands hskip hengaged aperture (hw ▸ hstands)
  refine ⟨⟨?_, ?_, ?_⟩, returnsTaken_stopPark s r hreturned, fun a ha => grantedFrom_stopPark s r ?_, fun a ha => ?_⟩
  · rw [hgrants.parkTimer]
    exact hpark
  · have hrecord := hreturns.record q.tag
    have hstart : (s.stopPark r).record? q.tag = some q := Eq.trans (by cases r <;> rfl) hq
    rw [hstart] at hrecord
    obtain ⟨x, hx, -⟩ := Option.map_eq_some_iff.mp hrecord
    have hlifted : (w.setLifted r q.tag).record? q.tag = some (x.updView r fun v => { v with
        phase := .lift
        minActive := some (w.activeCount r) }) := record?_updView_self hx
    obtain ⟨y, hy, hyx⟩ := hgrants.record hlifted
    have hview := view_of_withoutTargets hyx r
    rw [view_updView_self] at hview
    have hcount : t.activeCount r = w.activeCount r := activeCount_of_states (fun a => (hstands.arms a).state) r
    refine ⟨y, hy, ?_, ?_⟩
    · have k := congrArg RotorView.phase hview
      exact k
    · have k := congrArg RotorView.minActive hview
      rw [hcount]
      exact k
  · unfold State.armed
    rw [hgrants.feed]
    exact get_marks_setMark_self ..
  · have k := hothers a ha
    unfold GrantedOnly at k
    rwa [arm_stopPark] at k
  · have k := harms a ha
    unfold GrantedOnly at k
    rw [arm_stopPark, beforeLift_stopPark, ventHeld_stopPark] at k
    exact ⟨fun h => grantedFrom_stopPark s r (k.1 h), fun h g => grantedFrom_stopPark s r (k.2 h g)⟩

/-- The LIFT of a record, asked of all the rotor's arms (R68, R75). -/
theorem takeLift_taken {s t : State} {arm : Arming} {r : RotorId} {q : Record} (harm : arm.placesAhead) (hq : s.record? q.tag = some q)
    (hahead : s.ahead (s.firstMark r q).position) (ht : t = (s.takeLift arm r q).arbitrate) :
    Lifted s t r q ∧ LiftAsked s t r (s.ownAperture q) (some q.tag) := by
  have hacts : t = ((((armsOf r).foldl (State.askUnless (fun _ => false) (s.ownAperture q) (some q.tag)) (s.stopPark r)).setLifted r
      q.tag).armFirst arm r q).arbitrate := by
    rw [ht, foldl_askUnless_never, ← liftAperture_eq]
    rfl
  obtain ⟨hlifted, hreturns, hothers, harms⟩ := lift_taken (skip := fun _ => false) rfl rfl (s.ownAperture q) harm hq hahead hacts
  exact ⟨hlifted, hothers, fun a ha => ⟨fun hout hpending => (harms a ha).1 (.inr ⟨hout, hpending⟩), fun h => (harms a ha).2 rfl h⟩, hreturns⟩

end Sys2Proof.Machine
end

section
/-! PROOF. The lift mark and the entry mark (R68, R69, R122, R123, R158, R166, R168). -/

namespace Sys2Proof.Machine

/-! ### The arms at an entry mark -/

theorem leave_ventedTo (c : Arm) (p : Nat) : (c.ventedTo p).leave = c.disengaged.ventedTo p := by
  unfold Arm.leave Arm.disengaged
  by_cases h : c.state = .engaged
  · rw [if_pos h, if_pos (show (c.ventedTo p).state = .engaged from h)]
    rfl
  · rw [if_neg h, if_neg (show ¬ (c.ventedTo p).state = .engaged from h)]

theorem arm_vent_self (s : State) (a : ArmId) (p : Nat) : (s.vent a p).arm a = (s.arm a).ventedTo p := arm_self_of_set (arms_vent s a p)

theorem arm_lateLift (s : State) (q : Record) (a : ArmId) : (s.lateLift q a).arm a = { (s.arm a).disengaged.ventedTo 0 with
    state := .free
    tag := some q.tag
    target := 0 } := by
  unfold State.lateLift
  rw [State.updArm_self, arm_vent_self, leave_ventedTo]

section
variable {s : State} {a : ArmId} {q : Record}

theorem enterArm_opened (h : (s.arm a).state = .opened) : s.enterArm q a = s.updArm a fun c => c.engage q := by
  unfold State.enterArm
  rw [h]

theorem enterArm_out (h : (s.arm a).state = .out) : s.enterArm q a = s := by
  unfold State.enterArm
  rw [h]

theorem enterArm_late (hopened : (s.arm a).state ≠ .opened) (hout : (s.arm a).state ≠ .out) : s.enterArm q a = s.lateLift q a := by
  unfold State.enterArm
  split
  · exact absurd (by assumption) hopened
  · exact absurd (by assumption) hout
  · rfl

end

/-- The arms of a rotor at an entry mark, before their recompute. -/
theorem arm_entered (q : Record) (s : State) (r : RotorId) : FlowOnly s ((armsOf r).foldl (State.enterArm q) s)
    ∧ (∀ a, rotorOf a ≠ r → ((armsOf r).foldl (State.enterArm q) s).arm a = s.arm a)
    ∧ ∀ a, rotorOf a = r →
      ((s.arm a).state = .opened → ((armsOf r).foldl (State.enterArm q) s).arm a = (s.arm a).engage q)
        ∧ ((s.arm a).state = .out → ((armsOf r).foldl (State.enterArm q) s).arm a = s.arm a)
        ∧ ((s.arm a).state ≠ .opened → (s.arm a).state ≠ .out →
          ((armsOf r).foldl (State.enterArm q) s).arm a = { (s.arm a).disengaged.ventedTo 0 with
            state := .free
            tag := some q.tag
            target := 0 }) := by
  obtain ⟨hkept, hdone⟩ := foldl_oneArm (f := State.enterArm q) (R := FlowOnly) .refl (fun _ _ _ => .trans) (.enterArm q)
    (OneArm.enterArm q) s (nodup_armsOf r)
  refine ⟨.foldl (.enterArm q) _ s, fun a ha => hkept a fun h => ha ((mem_armsOf ..).mp h), fun a ha => ?_⟩
  obtain ⟨u, -, harm, heq⟩ := hdone a ((mem_armsOf ..).mpr ha)
  rw [heq, ← harm]
  refine ⟨fun h => ?_, fun h => ?_, fun hopened hout => ?_⟩
  · rw [enterArm_opened h, State.updArm_self]
  · rw [enterArm_out h]
  · rw [enterArm_late hopened hout, arm_lateLift]

/-! ### The entry target -/

theorem targetFor_entry {s : State} {a : ArmId} {x : Record} (hphase : x.phase (rotorOf a) = .entry) {row : SpeciesRow}
    (hrow : x.row = some row) (htemp : x.tempClass.isSome = true) : s.targetFor a x = some (s.entryTarget row) := by
  obtain ⟨c, hc⟩ := Option.isSome_iff_exists.mp htemp
  unfold State.targetFor
  rw [hrow, hc, hphase]

theorem targetFor_none {s : State} {a : ArmId} {x : Record} (h : x.row = none ∨ x.tempClass = none) : s.targetFor a x = none := by
  unfold State.targetFor
  rcases h with h | h
  · rw [h]
  · rw [h]
    cases x.row <;> rfl

theorem entryTarget_congr {s u : State} (hgeometry : u.geometry = s.geometry) (hfeed : u.feed = s.feed) (row : SpeciesRow) :
    u.entryTarget row = s.entryTarget row := by
  unfold State.entryTarget
  rw [hgeometry, hfeed]

/-! ### The mark after it -/

theorem armAfterEntry_ahead {s : State} {arm : Arming} (harm : arm.placesAhead) {r : RotorId} {q : Record} {rampEnd : Pos} {next : Mark}
    (hramp : rampEnd = posAdd q.head ((s.geometry.toolPlane r : Int) + s.geometry.rampLength))
    (hnext : (next = ⟨.rampEnd, rampEnd⟩ ∧ (∀ tail, q.tail = some tail →
        reached rampEnd (posAdd tail ((s.geometry.toolPlane r : Int) - s.geometry.releaseLead)) = false)
      ∨ ∃ tail, q.tail = some tail
        ∧ next = ⟨.release, posAdd tail ((s.geometry.toolPlane r : Int) - s.geometry.releaseLead)⟩
        ∧ reached rampEnd next.position = true))
    (hahead : s.ahead next.position) : s.armAfterEntry arm r q = s.setMark (clientOf r) q.tag (some next) := by
  subst hramp
  unfold State.armAfterEntry
  rcases hnext with ⟨rfl, hfar⟩ | ⟨tail, htail, rfl, hnear⟩
  · have hskips : s.skipsBody r q = none := by
      unfold State.skipsBody
      cases htail : q.tail with
      | none => rfl
      | some tail => exact if_neg (Bool.eq_false_iff.mp (hfar tail htail))
    rw [hskips]
    exact harm _ _ _ _ _ hahead
  · have hskips : s.skipsBody r q = some (s.releasePoint r tail) := by
      unfold State.skipsBody
      rw [htail]
      exact if_pos hnear
    rw [hskips]
    exact harm _ _ _ _ _ hahead

/-! ### The entry -/

/-- A record as it enters ENTRY: the phase, the late lifts and the flags (R69, R166, R168). -/
def State.enteredRecord (s : State) (r : RotorId) (x : Record) : Record :=
  (s.flagEntry r x).updView r fun w => { w with phase := .entry, lateLifts := min (w.lateLifts + s.lateCount r) 255 }

theorem enteredRecord_tag (s : State) (r : RotorId) (x : Record) : (s.enteredRecord r x).tag = x.tag := by cases r <;> rfl

/-- The state in which the arms of a rotor meet an entry mark. -/
def State.atEntry (s : State) (r : RotorId) (q : Record) : State := s.updRecord q.tag (s.enteredRecord r)

theorem onEntry_eq (s : State) (arm : Arming) (r : RotorId) (q : Record) : s.onEntry arm r q =
    ((((armsOf r).foldl (State.enterArm q) (s.atEntry r q)).recomputeAll (armsOf r) true (.fixed .high)).armAfterEntry arm r q).arbitrate :=
  rfl

/-- What an entry mark leaves of the record, and of the arms before the grants. -/
structure Entered (s t : State) (r : RotorId) (q : Record) (next : Mark) (u : State) : Prop where
  armed : t.armed (clientOf r) q.tag next.purpose next.position
  record : ∃ x, t.record? q.tag = some x ∧ x.withoutTargets = (s.enteredRecord r q).withoutTargets
  flow : FlowOnly (s.atEntry r q) u
  bound : ∃ x, u.record? q.tag = some x ∧ x.withoutTargets = (s.enteredRecord r q).withoutTargets
  recomputed : ∀ a, rotorOf a = r → GrantedFrom s t a ((u.recompute true (.fixed .high) a).arm a)
  others : ∀ a, rotorOf a ≠ r → GrantedOnly s t a

theorem onEntry_entered {s t : State} {arm : Arming} {r : RotorId} {q : Record} {rampEnd : Pos} {next : Mark} (harm : arm.placesAhead)
    (hq : s.record? q.tag = some q) (hramp : rampEnd = posAdd q.head ((s.geometry.toolPlane r : Int) + s.geometry.rampLength))
    (hnext : (next = ⟨.rampEnd, rampEnd⟩ ∧ (∀ tail, q.tail = some tail →
        reached rampEnd (posAdd tail ((s.geometry.toolPlane r : Int) - s.geometry.releaseLead)) = false)
      ∨ ∃ tail, q.tail = some tail
        ∧ next = ⟨.release, posAdd tail ((s.geometry.toolPlane r : Int) - s.geometry.releaseLead)⟩
        ∧ reached rampEnd next.position = true))
    (hahead : s.ahead next.position) (ht : t = s.onEntry arm r q) :
    Entered s t r q next ((armsOf r).foldl (State.enterArm q) (s.atEntry r q)) := by
  obtain ⟨hflow, hothers, -⟩ := arm_entered q (s.atEntry r q) r
  obtain ⟨u, hu⟩ : ∃ u, u = (armsOf r).foldl (State.enterArm q) (s.atEntry r q) := ⟨_, rfl⟩
  rw [onEntry_eq, ← hu] at ht
  rw [← hu] at hflow hothers ⊢
  obtain ⟨v, hv⟩ : ∃ v, v = u.recomputeAll (armsOf r) true (.fixed .high) := ⟨_, rfl⟩
  obtain ⟨hkept, hdone⟩ := arm_recomputeAll (.refl u) true (.fixed .high) (nodup_armsOf r) fun _ _ => rfl
  rw [← hv] at ht hkept hdone
  have hthrough : FlowOnly u v := by rw [hv]; exact .recomputeAll ..
  have hboth := hflow.trans hthrough
  have hgeometry : v.geometry = s.geometry := hboth.geometry
  have hnow : v.now = s.now := hboth.now
  have hmark : v.armAfterEntry arm r q = v.setMark (clientOf r) q.tag (some next) := by
    rw [← hgeometry] at hramp hnext
    refine armAfterEntry_ahead harm hramp hnext ?_
    unfold State.ahead
    rw [hboth.feed]
    exact hahead
  rw [hmark] at ht
  have hgrants : FlowOnly (v.setMark (clientOf r) q.tag (some next)) t := by rw [ht]; exact .arbitrate _
  have hgranted : ∀ a, GrantedOnly v t a := fun a => by
    rw [ht]
    exact (GrantedOnly.of_arm rfl).trans rfl rfl (grantedOnly_arbitrate (v.setMark (clientOf r) q.tag (some next)) a)
  have hentered : (s.atEntry r q).record? q.tag = some (s.enteredRecord r q) := record?_updRecord_self (enteredRecord_tag s r) hq
  refine ⟨?_, ?_, hflow, hflow.record hentered, fun a ha => ?_, fun a ha => ?_⟩
  · unfold State.armed
    rw [hgrants.feed]
    exact get_marks_setMark_self ..
  · obtain ⟨x, hx, hxe⟩ := hboth.record hentered
    obtain ⟨y, hy, hyx⟩ := hgrants.record (x := q.tag) (q := x) hx
    exact ⟨y, hy, hyx.trans hxe⟩
  · exact (GrantedFrom.of_eq (hdone a ((mem_armsOf ..).mpr ha))).then_only hnow hgeometry (hgranted a)
  · exact (GrantedOnly.of_arm ((hkept a fun h => ha ((mem_armsOf ..).mp h)).trans (hothers a ha))).trans hnow hgeometry (hgranted a)

/-- An arm engaged at an entry mark: it works toward the entry target, or takes none. -/
theorem recompute_engaged {s u : State} {a : ArmId} {q x : Record} {c : Arm} (hgeometry : u.geometry = s.geometry) (hfeed : u.feed = s.feed)
    (hheld : u.ventHeld a = s.ventHeld a) (hc : u.arm a = c) (hstate : c.state = .engaged) (htag : c.tag = some q.tag)
    (hx : u.record? q.tag = some x) (hrow : x.row = q.row) (htemp : x.tempClass = q.tempClass) (hphase : x.phase (rotorOf a) = .entry) :
    ((q.row = none ∨ q.tempClass = none ∨ c.isLifting = true) → (u.recompute true (.fixed .high) a).arm a = c)
      ∧ ∀ row, q.row = some row → q.tempClass.isSome = true → c.isLifting = false →
        (u.recompute true (.fixed .high) a).arm a = c.workingToward (s.ventHeld a) (s.entryTarget row) .high := by
  subst hc
  have hbound : (u.arm a).tag.bind u.record? = some x := by rw [htag]; exact hx
  refine ⟨fun h => ?_, fun row hr ht hlift => ?_⟩
  · rcases h with h | h | h
    · rw [recompute_of_no_target hbound (targetFor_none (.inl (hrow.trans h)))]
    · rw [recompute_of_no_target hbound (targetFor_none (.inr (htemp.trans h)))]
    · rw [recompute_of_lifting h]
  · rw [recompute_of_target hstate hbound (hrow.trans hr) (targetFor_entry hphase (hrow.trans hr) (by rw [htemp]; exact ht)),
      arm_deliver hlift (.inl rfl), hheld, entryTarget_congr hgeometry hfeed]
    rfl

/-- Settles O27: the lift mark by the arms' turns (`takeLift_taken`), the entry mark by what each arm does there (`arm_entered`). -/
theorem liftAndEntryMarksActOnTheArms : Obligations.LiftAndEntryMarksActOnTheArms := by
  intro s t arm r q p harm hq
  refine ⟨fun ht hahead => ?_, fun ht rampEnd next hramp hnext hahead => ?_⟩
  · rw [deliverMark_clientOf] at ht
    exact takeLift_taken harm hq hahead ht
  rw [deliverMark_clientOf] at ht
  obtain ⟨harmed, ⟨x, hx, hxe⟩, hflow, ⟨y, hy, hye⟩, hrecomputed, hothers⟩ := onEntry_entered harm hq hramp hnext hahead ht
  obtain ⟨-, -, harms⟩ := arm_entered q (s.atEntry r q) r
  generalize (armsOf r).foldl (State.enterArm q) (s.atEntry r q) = u at hflow hy hrecomputed harms
  have hview := view_of_withoutTargets hxe r
  have hentered : (s.enteredRecord r q).view r = { q.view r with
      phase := .entry
      lateLifts := min ((q.view r).lateLifts + s.lateCount r) 255 } := by cases r <;> rfl
  rw [hentered] at hview
  refine ⟨harmed, ⟨x, hx, ?_, ?_, ?_, ?_⟩, hothers, fun a ha => ⟨fun hout => ?_, fun hopened hout => ?_, fun hopened c hc => ?_⟩⟩
  · have k := congrArg RotorView.phase hview
    exact k
  · have k := congrArg RotorView.lateLifts hview
    exact k
  · have k := congrArg Record.stall hxe
    refine Eq.trans k ?_
    cases r <;> rfl
  · have k := congrArg Record.rotorDown hxe
    have hdown : (s.enteredRecord r q).rotorDown = (q.rotorDown || (s.rotor r).drive != .ready) := by cases r <;> rfl
    refine Eq.trans k (hdown.trans ?_)
    rw [decide_not]
    rfl
  · have hstays := hrecomputed a ha
    have harm' := (harms a ha).2.1 hout
    rw [recompute_of_not_engaged (by rw [harm']; intro k; exact nomatch hout.symm.trans k), harm'] at hstays
    exact hstays
  · have hfree := hrecomputed a ha
    have harm' := (harms a ha).2.2 hopened hout
    rw [recompute_of_not_engaged (by rw [harm']; nofun), harm'] at hfree
    exact hfree.of_idle rfl
  · have hengage : u.arm a = c := ((harms a ha).1 hopened).trans hc.symm
    have hyphase : y.phase (rotorOf a) = .entry := by
      rw [ha, phase_of_withoutTargets hye]
      exact congrArg RotorView.phase hentered
    have hrow : y.row = q.row := by
      have k := congrArg Record.row hye
      refine Eq.trans k ?_
      cases r <;> rfl
    have htemp : y.tempClass = q.tempClass := by
      have k := congrArg Record.tempClass hye
      refine Eq.trans k ?_
      cases r <;> rfl
    obtain ⟨hnone, hsome⟩ := recompute_engaged (s := s) hflow.geometry hflow.feed (hflow.ventHeld a) hengage (by rw [hc]) (by rw [hc]) hy hrow htemp
      hyphase
    have hstays := hrecomputed a ha
    refine ⟨fun h => ?_, fun row hr htempSome hlift => ?_⟩
    · rw [hnone h] at hstays
      exact hstays
    · rw [hsome row hr htempSome hlift] at hstays
      exact hstays

end Sys2Proof.Machine
end

section
/-! PROOF. The tail mark where the record behind is taken up by a mark that the peak has reached (R73): the statement asks nothing of the
arming there, which may be any. -/

namespace Sys2Proof.Machine

/-- An arming that puts every mark ahead of the peak into its place, and drops all records at one that the peak has reached. -/
def droppingArming : Arming := fun s c t p x => if reached s.feed.peak x then { s with queue := [] } else s.setMark c t (some ⟨p, x⟩)

theorem placesAhead_droppingArming : droppingArming.placesAhead := fun _ _ _ _ _ h => if_neg (Bool.eq_false_iff.mp h)

/-- A record at the tools, its head far behind the peak. -/
def leavingRecord : Record := State.reset.orphanRecord 0 (posAdd 0 (-100000))

/-- The record behind it, in LIFT at the first rotor, whose entry mark the peak has reached. -/
def followingRecord : Record :=
  { State.reset.orphanRecord 1 (posAdd 0 (-100000)) with view1 := { RotorView.initial with phase := .lift } }

/-- The state with the two records. -/
def leavingState : State := { State.reset with queue := [leavingRecord, followingRecord] }

/-- The state once the first record has passed the first rotor. -/
def leftState : State := leavingState.updView .r1 leavingRecord.tag fun w => { w with phase := .passed }

theorem current?_leftState : leftState.current? .r1 = some followingRecord := rfl

theorem onTail_current {s : State} {arm : Arming} {r : RotorId} {q b : Record}
    (h : (s.updView r q.tag fun w => { w with phase := .passed }).current? r = some b) :
    s.onTail arm r q = ((s.updView r q.tag fun w => { w with phase := .passed }).takeUpNext arm r b).arbitrate := by
  unfold State.onTail
  dsimp only
  rw [h]

/-- The tail mark drops the records: the entry mark of the record behind is reached. -/
theorem onTail_leavingState : leavingState.onTail droppingArming .r1 leavingRecord = State.arbitrate { leftState with queue := [] } := by
  have hreached : reached leftState.feed.peak (leftState.firstMark .r1 followingRecord).position = true := by decide
  have htaken : leftState.takeUpNext droppingArming .r1 followingRecord = leftState.armFirst droppingArming .r1 followingRecord := rfl
  have hdropped : leftState.armFirst droppingArming .r1 followingRecord = { leftState with queue := [] } := by
    rw [armFirst_eq]
    exact if_pos hreached
  have htail : leavingState.onTail droppingArming .r1 leavingRecord = (leftState.takeUpNext droppingArming .r1 followingRecord).arbitrate :=
    onTail_current current?_leftState
  rw [htail, htaken, hdropped]

/-- Refutes O29: with a record behind that is taken up, the statement says of any arming that the first record stays and is PASSED, also
where the mark then armed has been reached; an arming that drops all records there is one that puts marks ahead into their places. -/
theorem not_releaseAndTailMarksPassTheRecordOn : ¬ Obligations.ReleaseAndTailMarksPassTheRecordOn := by
  unfold Obligations.ReleaseAndTailMarksPassTheRecordOn
  intro h
  obtain ⟨-, htail⟩ := h leavingState _ droppingArming .r1 leavingRecord 0 placesAhead_droppingArming rfl
  obtain ⟨-, hsome⟩ := htail rfl leftState (fun a => rotorOf a = .r1
    ∧ ((leavingState.arm a).state = .trailing ∨ (leavingState.arm a).state = .free ∨ (leavingState.arm a).state = .opened)) _ rfl rfl
    fun _ => Iff.rfl
  obtain ⟨hpassed, -⟩ := hsome followingRecord current?_leftState rfl
  have hgone : (leavingState.deliverMark droppingArming (clientOf .r1) leavingRecord ⟨.tail, 0⟩).record? leavingRecord.tag = none := by
    have hqueue : (State.arbitrate { leftState with queue := [] }).queue = [] := queue_arbitrate _
    rw [show leavingState.deliverMark droppingArming (clientOf .r1) leavingRecord ⟨.tail, 0⟩ =
      leavingState.onTail droppingArming .r1 leavingRecord from rfl, onTail_leavingState]
    unfold State.record?
    rw [hqueue]
    rfl
  rw [hgone] at hpassed
  exact nomatch hpassed

end Sys2Proof.Machine
end
